-- ==== Sys2Proof/Word.lean ====
section
/-! DEFINITION. Octets, the check word, looks and points of tower time: the plain data every block shares. -/

namespace Sys2Proof

/-- One octet of a frame (R198). -/
abbrev Octet := BitVec 8

/-- The 32-bit check word of a frame (R200). -/
abbrev CheckWord := BitVec 32

/-- Milliseconds of one day of tower time (00_scope.md, "Tower time"). -/
def msPerDay : Nat := 86400000

/-- A look: red, green and blue, each a level 0..4095 (00_scope.md, "Levels, weights and gains"). -/
structure Look where
  red : Nat
  green : Nat
  blue : Nat
deriving DecidableEq, Repr

/-- The look (0, 0, 0). -/
def Look.black : Look := ⟨0, 0, 0⟩

/-- A colour component of a look. -/
inductive Component where
  | red
  | green
  | blue
deriving DecidableEq, Repr

/-- The level of one component. -/
def Look.comp (l : Look) : Component → Nat
  | .red => l.red
  | .green => l.green
  | .blue => l.blue

/-- The look with one component replaced. -/
def Look.setComp (l : Look) (v : Nat) : Component → Look
  | .red => { l with red := v }
  | .green => { l with green := v }
  | .blue => { l with blue := v }

/-- A function of levels applied to the three components independently (R87). -/
def Look.map2 (f : Nat → Nat → Nat) (a b : Look) : Look :=
  ⟨f a.red b.red, f a.green b.green, f a.blue b.blue⟩

/-- A point of tower time: a day number (0 is 2000-01-01) and a millisecond of day. -/
structure TowerTime where
  day : Nat
  ms : Nat
deriving DecidableEq, Repr

/-- Milliseconds since (0, 0), "across day numbers" (R7). -/
def TowerTime.abs (t : TowerTime) : Nat := msPerDay * t.day + t.ms

/-- The point that many milliseconds after (0, 0). -/
def TowerTime.ofAbs (n : Nat) : TowerTime := ⟨n / msPerDay, n % msPerDay⟩

/-- The last day of the tower-time range (R14). -/
def lastDay : Nat := 36524

end Sys2Proof
end

