-- ==== Sys2Proof/Config.lean ====
section
/-! DEFINITION. What the manual leaves to the part and no rule fixes: free values, without a body, so that nothing can be proved of them. -/

namespace Sys2Proof

/-- FREE VALUE (log entry 2). The run clock that follows 2^48 - 1. R1 says that "the count does not wrap in
service" and states no value; the argument is the free-value counter of the state that uses it. -/
opaque Config.runClockAfterLast : Nat → BitVec 48

/-- FREE VALUE (log entry 26). What the two octets of a count in a reply hold when the count, the argument, is above
65,535. R199 gives any count but the small ones 2 octets, and some counts have 32 bits (R9, R128, R152). -/
opaque Config.countBeyondTwoOctets : Nat → BitVec 16

end Sys2Proof
end

