-- ==== Sys2Proof/Syntax.lean ====
section
/-! DEFINITION. The commands of the part: one constructor of Instr per row of spec/opcode_table.json, with the
operands the step's rule names. Enumerated arguments are an Option: none is a code with no meaning (R199). -/

namespace Sys2Proof

/-- The shape of a fade (R104). -/
inductive Curve where
  | linear
  | ease
deriving DecidableEq, Repr

/-- What a FOLLOW layer does when its source is lost (R48). -/
inductive LossPolicy where
  | holdLast
  | toFallback
deriving DecidableEq, Repr

/-- The order of the three components on a zone's three channels (R133, R155). -/
inductive ColourOrder where
  | rgb
  | rbg
  | grb
  | gbr
  | brg
  | bgr
deriving DecidableEq, Repr

/-- The component at position j (0, 1 or 2) of an order (R133). -/
def ColourOrder.comp : ColourOrder → Nat → Component
  | .rgb, 0 => .red   | .rgb, 1 => .green | .rgb, _ => .blue
  | .rbg, 0 => .red   | .rbg, 1 => .blue  | .rbg, _ => .green
  | .grb, 0 => .green | .grb, 1 => .red   | .grb, _ => .blue
  | .gbr, 0 => .green | .gbr, 1 => .blue  | .gbr, _ => .red
  | .brg, 0 => .blue  | .brg, 1 => .red   | .brg, _ => .green
  | .bgr, 0 => .blue  | .bgr, 1 => .green | .bgr, _ => .red

/-- What a cue does (R48). -/
inductive CueKind where
  | look
  | follow
  | release
  | master
  | hold
  | finish
deriving DecidableEq, Repr

/-- The granularity of a rebuild request, a pending request or a build (R26, R28). -/
inductive Granularity where
  | all
  | show (s : Nat)
  | entry (e : Nat)
  | resume
deriving DecidableEq, Repr

/-- How a read names a patch bank (R134, R156). -/
inductive BankName where
  | inUse
  | standby
deriving DecidableEq, Repr

/-- The ten settings (R173), in the order of their codes (R201). -/
inductive SettingName where
  | nodeAddress
  | stationAddress
  | timekeeperAddress
  | preludeLead
  | restDelay
  | handoverTime
  | lateLimit
  | receiptTime
  | retryLimit
  | alertMask
deriving DecidableEq, Repr

/-- The counter groups (R178). -/
inductive CounterGroup where
  | showPort
  | fixturePort
  | source (s : Nat)
  | lane (l : Nat)
deriving DecidableEq, Repr

/-- The fields of a WRITE_CALENDAR_ENTRY (R19). weekdays is the set of weekdays, bit d for weekday d.
strayFlags says that the entry flags carried bit 3 or one of bits 4 to 7, which R199 refuses. -/
structure CalendarArgs where
  firstDate : Nat
  lastDate : Nat
  weekdays : Nat
  start : Nat
  endAt : Option Nat
  step : Option Nat
  showNo : Nat
  priority : Nat
  once : Bool
  strayFlags : Bool := false
deriving DecidableEq, Repr

/-- One record of a WRITE_CUES as carried (R49, R199): every field, whatever the kind.
strayFlags says that the cue flags octet was not 0. -/
structure CueArgs where
  offset : Nat
  kind : Option CueKind
  zoneFirst : Nat
  zoneCount : Nat
  look : Look
  source : Nat
  policy : Option LossPolicy
  fade : Nat
  curve : Option Curve
  master : Nat
  holdLimit : Nat
  strayFlags : Bool := false
deriving DecidableEq, Repr

/-- The fields of a WRITE_INPUT_PATCH (R133). -/
structure InputPatchArgs where
  present : Option Bool
  source : Nat
  sourceLane : Nat
  firstChannel : Nat
  zoneFirst : Nat
  zoneCount : Nat
  order : Option ColourOrder
deriving DecidableEq, Repr

/-- The fields of a WRITE_OUTPUT_PATCH (R155). -/
structure OutputPatchArgs where
  present : Option Bool
  lane : Nat
  firstChannel : Nat
  zoneFirst : Nat
  zoneCount : Nat
  order : Option ColourOrder
  gain : Nat
deriving DecidableEq, Repr

/-- The fields of a WRITE_LANE after the lane (R144). -/
structure LaneArgs where
  configured : Option Bool
  channelCount : Nat
  period : Nat
  warmUp : Nat
  curfewExempt : Option Bool
  autoRest : Option Bool
deriving DecidableEq, Repr

/-- What a request keeps of the frame that carried it, besides its kind and arguments (R166). fits is false when
the number or form of the arguments does not fit the kind (R169, check 3); the arguments then mean nothing. -/
structure ReqHead where
  origin : Nat
  dest : Nat
  tag : Nat
  fits : Bool := true
deriving DecidableEq, Repr

/-- The commands: the steps of spec/opcode_table.json. The first 26 are events; the others are the take, by the
management unit, of one request. -/
inductive Instr where
  /-- POWER_ON (R197). -/
  | powerOn
  /-- RESET_LINE (R16): the line is asserted, held for that many milliseconds, and released. -/
  | resetLine (heldMs : Nat)
  /-- RUN_CLOCK_ADVANCE (R3). -/
  | runClockAdvance
  /-- LOSS_TIMER_EXPIRY (R11). -/
  | lossTimerExpiry
  /-- WAKE_TIMER_EXPIRY (R38). -/
  | wakeTimerExpiry
  /-- REST_TIMER_EXPIRY (R40). -/
  | restTimerExpiry
  /-- BUILD_COMPLETION (R27). -/
  | buildCompletion
  /-- NEXT_CUE_INSTANT (R68). -/
  | nextCueInstant (slot : Nat)
  /-- HOLD_EXPIRY (R74). -/
  | holdExpiry (slot : Nat)
  /-- RELEASE_INSTANT (R76). -/
  | releaseInstant (slot : Nat)
  /-- END_INSTANT (R76). -/
  | endInstant (slot : Nat)
  /-- HANDOVER_END (R82). -/
  | handoverEnd (zone : Nat)
  /-- SHOW_PORT_ARRIVAL (R119): the octets received. -/
  | showPortArrival (octets : List Octet)
  /-- INGRESS_TAKE (R121). -/
  | ingressTake
  /-- LEVEL_FRAME_COMPLETION (R128). -/
  | levelFrameCompletion
  /-- TIME_FRAME_COMPLETION (R9). -/
  | timeFrameCompletion
  /-- MGMT_REQ_COMPLETION (R124). -/
  | mgmtReqCompletion
  /-- LIVENESS_TIMER_EXPIRY (R130). -/
  | livenessTimerExpiry (source : Nat)
  /-- SHOW_PORT_TRANSMIT_START (R171). takeFirst: where the freed place could be claimed both by a take and by
  a pending alert, the take comes first (R167). -/
  | showPortTransmitStart (takeFirst : Bool)
  /-- SHOW_PORT_TRANSMIT_END (R171). -/
  | showPortTransmitEnd
  /-- RECEIPT_ARRIVAL (R148, R161): the octets received on the fixture port. -/
  | receiptArrival (octets : List Octet)
  /-- RECEIPT_TIMER_EXPIRY (R147). -/
  | receiptTimerExpiry (lane : Nat)
  /-- PERIOD_EVENT (R149). -/
  | periodEvent (lane : Nat)
  /-- FIXTURE_TRANSMIT_START (R152). -/
  | fixtureTransmitStart
  /-- FIXTURE_TRANSMIT_END (R146). -/
  | fixtureTransmitEnd
  /-- IMAGE_WRITE_END (R194): whether the read-back agrees. -/
  | imageWriteEnd (agrees : Bool)
  /-- UNKNOWN_REQUEST (R169): the kind carried, or none when the payload is too short for the envelope. -/
  | unknownRequest (h : ReqHead) (kind : Option Nat)
  /-- SET_TIME (R12). -/
  | setTime (h : ReqHead) (day ms : Nat)
  /-- WRITE_CALENDAR_ENTRY (R21). -/
  | writeCalendarEntry (h : ReqHead) (index : Nat) (fields : CalendarArgs)
  /-- CLEAR_CALENDAR_ENTRY (R21). -/
  | clearCalendarEntry (h : ReqHead) (index : Nat)
  /-- READ_CALENDAR_ENTRY (R22). -/
  | readCalendarEntry (h : ReqHead) (index : Nat)
  /-- READ_AGENDA (R25). -/
  | readAgenda (h : ReqHead)
  /-- REBUILD_AGENDA (R29). -/
  | rebuildAgenda (h : ReqHead) (g : Option Granularity)
  /-- OPEN_SHOW (R46). -/
  | openShow (h : ReqHead) (showNo count : Nat)
  /-- WRITE_CUES (R49, R50). -/
  | writeCues (h : ReqHead) (showNo first : Nat) (records : List CueArgs)
  /-- CLOSE_SHOW (R51). -/
  | closeShow (h : ReqHead) (showNo : Nat)
  /-- DELETE_SHOW (R52). -/
  | deleteShow (h : ReqHead) (showNo : Nat)
  /-- READ_CUES (R53). -/
  | readCues (h : ReqHead) (showNo first number : Nat)
  /-- READ_SHOW (R54). -/
  | readShow (h : ReqHead) (showNo : Nat)
  /-- START_SHOW (R62). -/
  | startShow (h : ReqHead) (showNo priority : Nat)
  /-- GO (R74). -/
  | go (h : ReqHead) (slot : Nat)
  /-- STOP_PLAYBACK (R77). -/
  | stopPlayback (h : ReqHead) (slot fade : Nat)
  /-- SET_MASTER (R78). -/
  | setMaster (h : ReqHead) (slot level fade : Nat)
  /-- READ_PLAYBACK (R79). -/
  | readPlayback (h : ReqHead) (slot : Nat)
  /-- WRITE_HOUSE_LOOK (R83). -/
  | writeHouseLook (h : ReqHead) (zoneFirst zoneCount : Nat) (look : Look)
  /-- READ_ZONE (R100). -/
  | readZone (h : ReqHead) (zone : Nat)
  /-- WRITE_CEILING_BAND (R111). -/
  | writeCeilingBand (h : ReqHead) (index fromMs ceiling : Nat)
  /-- CLEAR_CEILING_BAND (R111). -/
  | clearCeilingBand (h : ReqHead) (index : Nat)
  /-- READ_CEILING (R115). -/
  | readCeiling (h : ReqHead)
  /-- WRITE_SOURCE (R131). -/
  | writeSource (h : ReqHead) (source : Nat) (enabled : Option Bool) (origin lossTime : Nat)
  /-- FORGET_SEQUENCE (R132). -/
  | forgetSequence (h : ReqHead) (source : Nat)
  /-- READ_SOURCE (R132). -/
  | readSource (h : ReqHead) (source : Nat)
  /-- WRITE_INPUT_PATCH (R134). -/
  | writeInputPatch (h : ReqHead) (index : Nat) (fields : InputPatchArgs)
  /-- READ_INPUT_PATCH (R134). -/
  | readInputPatch (h : ReqHead) (bank : Option BankName) (index : Nat)
  /-- COPY_INPUT_BANK (R135). -/
  | copyInputBank (h : ReqHead)
  /-- SWITCH_INPUT_BANK (R136). -/
  | switchInputBank (h : ReqHead)
  /-- WRITE_LANE (R144). -/
  | writeLane (h : ReqHead) (lane : Nat) (fields : LaneArgs)
  /-- READ_LANE (R163). -/
  | readLane (h : ReqHead) (lane : Nat)
  /-- REST_LANES (R153): bit i of the set is lane i. -/
  | restLanes (h : ReqHead) (lanes : Nat)
  /-- WAKE_LANES (R154): bit i of the set is lane i. -/
  | wakeLanes (h : ReqHead) (lanes : Nat)
  /-- WRITE_OUTPUT_PATCH (R156). -/
  | writeOutputPatch (h : ReqHead) (index : Nat) (fields : OutputPatchArgs)
  /-- READ_OUTPUT_PATCH (R156). -/
  | readOutputPatch (h : ReqHead) (bank : Option BankName) (index : Nat)
  /-- COPY_OUTPUT_BANK (R156). -/
  | copyOutputBank (h : ReqHead)
  /-- SWITCH_OUTPUT_BANK (R157). -/
  | switchOutputBank (h : ReqHead)
  /-- WRITE_GUARD (R159). -/
  | writeGuard (h : ReqHead) (index lane first last held : Nat)
  /-- READ_GUARD (R159). -/
  | readGuard (h : ReqHead)
  /-- SET_GUARD_ENABLE (R160). -/
  | setGuardEnable (h : ReqHead) (on : Option Bool)
  /-- GET_SETTING (R174). -/
  | getSetting (h : ReqHead) (setting : Option SettingName)
  /-- SET_SETTING (R175); the alert mask's value is 1 for on and 0 for off. -/
  | setSetting (h : ReqHead) (setting : Option SettingName) (value : Nat)
  /-- READ_STATUS (R177). -/
  | readStatus (h : ReqHead)
  /-- READ_COUNTERS (R178). -/
  | readCounters (h : ReqHead) (group : Option CounterGroup) (clear : Option Bool)
  /-- BLOCK_RESET (R179): bits 0 to 5 are TIME, CALENDAR, PLAYBACK, INGRESS, LANES, FAULTS. -/
  | blockReset (h : ReqHead) (members : Nat)
  /-- RESTART (R180). -/
  | restart (h : ReqHead)
  /-- READ_FAULTS (R185). -/
  | readFaults (h : ReqHead)
  /-- CLEAR_FAULT (R186). -/
  | clearFault (h : ReqHead) (index : Nat)
  /-- CLEAR_OVERFLOW (R187). -/
  | clearOverflow (h : ReqHead)
  /-- SAVE_IMAGE (R193). -/
  | saveImage (h : ReqHead)
  /-- CLEAR_RESET_CAUSE (R196): bits 0 to 3 are POWER_ON, RESET_LINE, RESTART, IMAGE_BAD. -/
  | clearResetCause (h : ReqHead) (flags : Nat)
deriving DecidableEq, Repr

end Sys2Proof
end

