-- ==== Sys2Proof/WellFormed.lean ====
section
/-! DEFINITION. Which commands are well formed: every operand fits the octets that R199 gives its type, and an
event names a slot, zone, source or lane that exists. -/

namespace Sys2Proof

/-- Fits one octet. -/
abbrev octet1 (n : Nat) : Bool := n < 256

/-- Fits two octets. -/
abbrev octet2 (n : Nat) : Bool := n < 65536

/-- Fits four octets. -/
abbrev octet4 (n : Nat) : Bool := n < 4294967296

/-- The head of a request: addresses of one octet, a tag of two (R198). -/
def ReqHead.wf (h : ReqHead) : Bool := octet1 h.origin && octet1 h.dest && octet2 h.tag

/-- A look of two octets a component (R199). -/
def Look.wf (l : Look) : Bool := octet2 l.red && octet2 l.green && octet2 l.blue

/-- The widths of a calendar entry's fields (R199). -/
def CalendarArgs.wf (f : CalendarArgs) : Bool :=
  octet2 f.firstDate && octet2 f.lastDate && octet1 f.weekdays && octet4 f.start
    && f.endAt.all octet4 && f.step.all octet2 && octet1 f.showNo && octet1 f.priority

/-- The widths of a cue record's fields (R199). -/
def CueArgs.wf (c : CueArgs) : Bool :=
  octet4 c.offset && octet1 c.zoneFirst && octet1 c.zoneCount && c.look.wf && octet1 c.source
    && octet4 c.fade && octet2 c.master && octet2 c.holdLimit

/-- The widths of an input patch entry's fields (R199). -/
def InputPatchArgs.wf (f : InputPatchArgs) : Bool :=
  octet1 f.source && octet1 f.sourceLane && octet2 f.firstChannel && octet1 f.zoneFirst && octet1 f.zoneCount

/-- The widths of an output patch entry's fields (R199). -/
def OutputPatchArgs.wf (f : OutputPatchArgs) : Bool :=
  octet1 f.lane && octet2 f.firstChannel && octet1 f.zoneFirst && octet1 f.zoneCount && octet2 f.gain

/-- The widths of a lane's configuration (R199). -/
def LaneArgs.wf (f : LaneArgs) : Bool := octet2 f.channelCount && octet4 f.period && octet2 f.warmUp

/-- A granularity's number fits its octet (R199). -/
def Granularity.wf : Granularity → Bool
  | .all => true
  | .show s => octet1 s
  | .entry e => octet1 e
  | .resume => true

/-- A counter group's number fits its octet (R201). -/
def CounterGroup.wf : CounterGroup → Bool
  | .showPort => true
  | .fixturePort => true
  | .source s => octet1 s
  | .lane l => octet1 l

/-- A command is well formed. -/
def Instr.wf : Instr → Bool
  | .powerOn => true
  | .resetLine _ => true
  | .runClockAdvance => true
  | .lossTimerExpiry => true
  | .wakeTimerExpiry => true
  | .restTimerExpiry => true
  | .buildCompletion => true
  | .nextCueInstant k => k < 4
  | .holdExpiry k => k < 4
  | .releaseInstant k => k < 4
  | .endInstant k => k < 4
  | .handoverEnd z => z < 240
  | .showPortArrival _ => true
  | .ingressTake => true
  | .levelFrameCompletion => true
  | .timeFrameCompletion => true
  | .mgmtReqCompletion => true
  | .livenessTimerExpiry i => i < 8
  | .showPortTransmitStart _ => true
  | .showPortTransmitEnd => true
  | .receiptArrival _ => true
  | .receiptTimerExpiry l => l < 24
  | .periodEvent l => l < 24
  | .fixtureTransmitStart => true
  | .fixtureTransmitEnd => true
  | .imageWriteEnd _ => true
  | .unknownRequest h kind => h.wf && kind.all octet2
  | .setTime h day ms => h.wf && octet2 day && octet4 ms
  | .writeCalendarEntry h i f => h.wf && octet1 i && f.wf
  | .clearCalendarEntry h i => h.wf && octet1 i
  | .readCalendarEntry h i => h.wf && octet1 i
  | .readAgenda h => h.wf
  | .rebuildAgenda h g => h.wf && g.all Granularity.wf
  | .openShow h s n => h.wf && octet1 s && octet2 n
  | .writeCues h s first rs => h.wf && octet1 s && octet2 first && decide (rs.length < 256) && rs.all CueArgs.wf
  | .closeShow h s => h.wf && octet1 s
  | .deleteShow h s => h.wf && octet1 s
  | .readCues h s first n => h.wf && octet1 s && octet2 first && octet1 n
  | .readShow h s => h.wf && octet1 s
  | .startShow h s p => h.wf && octet1 s && octet1 p
  | .go h k => h.wf && octet1 k
  | .stopPlayback h k fade => h.wf && octet1 k && octet4 fade
  | .setMaster h k level fade => h.wf && octet1 k && octet2 level && octet4 fade
  | .readPlayback h k => h.wf && octet1 k
  | .writeHouseLook h z n l => h.wf && octet1 z && octet1 n && l.wf
  | .readZone h z => h.wf && octet1 z
  | .writeCeilingBand h i ms c => h.wf && octet1 i && octet4 ms && octet2 c
  | .clearCeilingBand h i => h.wf && octet1 i
  | .readCeiling h => h.wf
  | .writeSource h i _ origin loss => h.wf && octet1 i && octet1 origin && octet4 loss
  | .forgetSequence h i => h.wf && octet1 i
  | .readSource h i => h.wf && octet1 i
  | .writeInputPatch h i f => h.wf && octet1 i && f.wf
  | .readInputPatch h _ i => h.wf && octet1 i
  | .copyInputBank h => h.wf
  | .switchInputBank h => h.wf
  | .writeLane h l f => h.wf && octet1 l && f.wf
  | .readLane h l => h.wf && octet1 l
  | .restLanes h m => h.wf && decide (m < 16777216)
  | .wakeLanes h m => h.wf && decide (m < 16777216)
  | .writeOutputPatch h i f => h.wf && octet2 i && f.wf
  | .readOutputPatch h _ i => h.wf && octet2 i
  | .copyOutputBank h => h.wf
  | .switchOutputBank h => h.wf
  | .writeGuard h i l first last held =>
      h.wf && octet1 i && octet1 l && octet2 first && octet2 last && octet2 held
  | .readGuard h => h.wf
  | .setGuardEnable h _ => h.wf
  | .getSetting h _ => h.wf
  | .setSetting h _ v => h.wf && octet4 v
  | .readStatus h => h.wf
  | .readCounters h g _ => h.wf && g.all CounterGroup.wf
  | .blockReset h m => h.wf && octet1 m
  | .restart h => h.wf
  | .readFaults h => h.wf
  | .clearFault h i => h.wf && octet1 i
  | .clearOverflow h => h.wf
  | .saveImage h => h.wf
  | .clearResetCause h m => h.wf && octet1 m

end Sys2Proof
end

