-- ==== Sys2Proof/Decode.lean ====
section
/-! DEFINITION. From octets to commands: the request carried by the payload of a MGMT_REQ frame (R169, R199, R201),
and decodeTableWord, over the rows of spec/opcode_table.json that give a word its bits (there is none). -/

namespace Sys2Proof

/-- An unsigned field, most significant octet first (12_frame_and_record_formats.md, opening words). -/
def beNat (os : List Octet) : Nat := os.foldl (fun n o => 256 * n + o.toNat) 0

/-- Cuts a payload into fields of the given widths; none when it does not hold exactly these fields (R199). -/
def cutFields : List Nat → List Octet → Option (List Nat)
  | [], [] => some []
  | [], _ :: _ => none
  | w :: ws, os =>
      if os.length < w then none
      else (cutFields ws (os.drop w)).map (beNat (os.take w) :: ·)

/-- A flag, yes/no or on/off octet: 0 or 1, anything else has no meaning (R199). -/
def flagOf : Nat → Option Bool
  | 0 => some false
  | 1 => some true
  | _ => none

/-- Colour orders, RGB 0 through BGR 5 (R199). -/
def orderOf : Nat → Option ColourOrder
  | 0 => some .rgb
  | 1 => some .rbg
  | 2 => some .grb
  | 3 => some .gbr
  | 4 => some .brg
  | 5 => some .bgr
  | _ => none

/-- Cue kinds, LOOK 1 through END 6 (R199). -/
def cueKindOf : Nat → Option CueKind
  | 1 => some .look
  | 2 => some .follow
  | 3 => some .release
  | 4 => some .master
  | 5 => some .hold
  | 6 => some .finish
  | _ => none

/-- Loss policies, HOLD_LAST 1 and TO_FALLBACK 2 (R199). -/
def policyOf : Nat → Option LossPolicy
  | 1 => some .holdLast
  | 2 => some .toFallback
  | _ => none

/-- Curves, LINEAR 1 and EASE 2 (R199). -/
def curveOf : Nat → Option Curve
  | 1 => some .linear
  | 2 => some .ease
  | _ => none

/-- Granularities: ALL 0, SHOW 1, ENTRY 2, RESUME 3, then the show or entry (R199). -/
def granularityOf : Nat → Nat → Option Granularity
  | 0, _ => some .all
  | 1, n => some (.show n)
  | 2, n => some (.entry n)
  | 3, _ => some .resume
  | _, _ => none

/-- Bank names, in the order R134 lists them. DEDUCED (log entry 10). -/
def bankNameOf : Nat → Option BankName
  | 0 => some .inUse
  | 1 => some .standby
  | _ => none

/-- Settings, node address 0 through alert mask 9 (R201). -/
def settingOf : Nat → Option SettingName
  | 0 => some .nodeAddress
  | 1 => some .stationAddress
  | 2 => some .timekeeperAddress
  | 3 => some .preludeLead
  | 4 => some .restDelay
  | 5 => some .handoverTime
  | 6 => some .lateLimit
  | 7 => some .receiptTime
  | 8 => some .retryLimit
  | 9 => some .alertMask
  | _ => none

/-- The width of a setting's value (R199). -/
def SettingName.width : SettingName → Nat
  | .nodeAddress => 1
  | .stationAddress => 1
  | .timekeeperAddress => 1
  | .preludeLead => 2
  | .restDelay => 2
  | .handoverTime => 4
  | .lateLimit => 2
  | .receiptTime => 4
  | .retryLimit => 1
  | .alertMask => 1

/-- Counter groups: SHOW_PORT 0, FIXTURE_PORT 1, SOURCE 2, LANE 3, then the source or lane (R201). -/
def counterGroupOf : Nat → Nat → Option CounterGroup
  | 0, _ => some .showPort
  | 1, _ => some .fixturePort
  | 2, n => some (.source n)
  | 3, n => some (.lane n)
  | _, _ => none

/-- The calendar entry of a write, from its fields in the order of R199's record. DESIGN CHOICE (log entry 24): the
octets of an end or step whose presence bit is clear are not looked at. -/
def calendarArgsOf (flags first last weekdays start endAt step showNo priority : Nat) : CalendarArgs where
  firstDate := first
  lastDate := last
  weekdays := weekdays
  start := start
  endAt := if flags.testBit 0 then some endAt else none
  step := if flags.testBit 1 then some step else none
  showNo := showNo
  priority := priority
  once := flags.testBit 2
  strayFlags := decide (8 ≤ flags)

/-- The widths of a cue record's fields, 25 octets in all (R199). -/
def cueWidths : List Nat := [4, 1, 1, 1, 1, 2, 2, 2, 1, 1, 4, 1, 2, 2]

/-- One cue record as carried (R199). -/
def cueArgsOf (os : List Octet) : Option CueArgs :=
  match cutFields cueWidths os with
  | some [offset, kind, flags, zf, zc, r, g, b, source, policy, fade, curve, master, hold] =>
      some { offset := offset, kind := cueKindOf kind, zoneFirst := zf, zoneCount := zc, look := ⟨r, g, b⟩,
             source := source, policy := policyOf policy, fade := fade, curve := curveOf curve,
             master := master, holdLimit := hold, strayFlags := decide (flags ≠ 0) }
  | _ => none

/-- Exactly n cue records, 25 octets each. -/
def cueRecordsOf : Nat → List Octet → Option (List CueArgs)
  | 0, [] => some []
  | 0, _ :: _ => none
  | n + 1, os =>
      match cueArgsOf (os.take 25), cueRecordsOf n (os.drop 25) with
      | some c, some cs => some (c :: cs)
      | _, _ => none

/-- Arguments that are left when a request's do not fit its kind; they mean nothing. -/
def CalendarArgs.nothing : CalendarArgs := ⟨0, 0, 0, 0, none, none, 0, 0, false, false⟩

/-- The request a payload carries, for the kinds of chapters 1 to 4 (R201). os are the octets after the envelope.
none: the kind is not of these chapters. -/
def decodeShowSide (h : ReqHead) (kind : Nat) (os : List Octet) : Option Instr :=
  let bad := { h with fits := false }
  if kind = 0x0101 then
    match cutFields [2, 4] os with
    | some [day, ms] => some (.setTime h day ms)
    | _ => some (.setTime bad 0 0)
  else if kind = 0x0201 then
    match cutFields [1, 1, 2, 2, 1, 4, 4, 2, 1, 1] os with
    | some [i, fl, a, b, wd, st, en, sp, sh, pr] =>
        some (.writeCalendarEntry h i (calendarArgsOf fl a b wd st en sp sh pr))
    | _ => some (.writeCalendarEntry bad 0 .nothing)
  else if kind = 0x0202 then
    match cutFields [1] os with
    | some [i] => some (.clearCalendarEntry h i)
    | _ => some (.clearCalendarEntry bad 0)
  else if kind = 0x0203 then
    match cutFields [1] os with
    | some [i] => some (.readCalendarEntry h i)
    | _ => some (.readCalendarEntry bad 0)
  else if kind = 0x0204 then
    match os with
    | [] => some (.readAgenda h)
    | _ => some (.readAgenda bad)
  else if kind = 0x0205 then
    match cutFields [1, 1] os with
    | some [g, n] => some (.rebuildAgenda h (granularityOf g n))
    | _ => some (.rebuildAgenda bad none)
  else if kind = 0x0301 then
    match cutFields [1, 2] os with
    | some [s, n] => some (.openShow h s n)
    | _ => some (.openShow bad 0 0)
  else if kind = 0x0302 then
    match cutFields [1, 2, 1] (os.take 4) with
    | some [s, first, n] =>
        match cueRecordsOf n (os.drop 4) with
        | some rs => some (.writeCues h s first rs)
        | none => some (.writeCues bad 0 0 [])
    | _ => some (.writeCues bad 0 0 [])
  else if kind = 0x0303 then
    match cutFields [1] os with
    | some [s] => some (.closeShow h s)
    | _ => some (.closeShow bad 0)
  else if kind = 0x0304 then
    match cutFields [1] os with
    | some [s] => some (.deleteShow h s)
    | _ => some (.deleteShow bad 0)
  else if kind = 0x0305 then
    match cutFields [1, 2, 1] os with
    | some [s, first, n] => some (.readCues h s first n)
    | _ => some (.readCues bad 0 0 0)
  else if kind = 0x0306 then
    match cutFields [1] os with
    | some [s] => some (.readShow h s)
    | _ => some (.readShow bad 0)
  else if kind = 0x0401 then
    match cutFields [1, 1] os with
    | some [s, p] => some (.startShow h s p)
    | _ => some (.startShow bad 0 0)
  else if kind = 0x0402 then
    match cutFields [1] os with
    | some [k] => some (.go h k)
    | _ => some (.go bad 0)
  else if kind = 0x0403 then
    match cutFields [1, 4] os with
    | some [k, fade] => some (.stopPlayback h k fade)
    | _ => some (.stopPlayback bad 0 0)
  else if kind = 0x0404 then
    match cutFields [1, 2, 4] os with
    | some [k, level, fade] => some (.setMaster h k level fade)
    | _ => some (.setMaster bad 0 0 0)
  else if kind = 0x0405 then
    match cutFields [1] os with
    | some [k] => some (.readPlayback h k)
    | _ => some (.readPlayback bad 0)
  else none

/-- The request a payload carries, for the kinds of chapters 5 to 8 (R201). -/
def decodeOutputSide (h : ReqHead) (kind : Nat) (os : List Octet) : Option Instr :=
  let bad := { h with fits := false }
  if kind = 0x0501 then
    match cutFields [1, 1, 2, 2, 2] os with
    | some [z, n, r, g, b] => some (.writeHouseLook h z n ⟨r, g, b⟩)
    | _ => some (.writeHouseLook bad 0 0 .black)
  else if kind = 0x0502 then
    match cutFields [1] os with
    | some [z] => some (.readZone h z)
    | _ => some (.readZone bad 0)
  else if kind = 0x0601 then
    match cutFields [1, 4, 2] os with
    | some [i, ms, c] => some (.writeCeilingBand h i ms c)
    | _ => some (.writeCeilingBand bad 0 0 0)
  else if kind = 0x0602 then
    match cutFields [1] os with
    | some [i] => some (.clearCeilingBand h i)
    | _ => some (.clearCeilingBand bad 0)
  else if kind = 0x0603 then
    match os with
    | [] => some (.readCeiling h)
    | _ => some (.readCeiling bad)
  else if kind = 0x0701 then
    match cutFields [1, 1, 1, 4] os with
    | some [i, e, o, t] => some (.writeSource h i (flagOf e) o t)
    | _ => some (.writeSource bad 0 none 0 0)
  else if kind = 0x0702 then
    match cutFields [1] os with
    | some [i] => some (.forgetSequence h i)
    | _ => some (.forgetSequence bad 0)
  else if kind = 0x0703 then
    match cutFields [1] os with
    | some [i] => some (.readSource h i)
    | _ => some (.readSource bad 0)
  else if kind = 0x0704 then
    match cutFields [1, 1, 1, 1, 2, 1, 1, 1] os with
    | some [i, p, s, l, c, z, n, o] => some (.writeInputPatch h i ⟨flagOf p, s, l, c, z, n, orderOf o⟩)
    | _ => some (.writeInputPatch bad 0 ⟨none, 0, 0, 0, 0, 0, none⟩)
  else if kind = 0x0705 then
    match cutFields [1, 1] os with
    | some [b, i] => some (.readInputPatch h (bankNameOf b) i)
    | _ => some (.readInputPatch bad none 0)
  else if kind = 0x0706 then
    match os with
    | [] => some (.copyInputBank h)
    | _ => some (.copyInputBank bad)
  else if kind = 0x0707 then
    match os with
    | [] => some (.switchInputBank h)
    | _ => some (.switchInputBank bad)
  else if kind = 0x0801 then
    match cutFields [1, 1, 2, 4, 2, 1, 1] os with
    | some [l, c, n, p, w, e, a] => some (.writeLane h l ⟨flagOf c, n, p, w, flagOf e, flagOf a⟩)
    | _ => some (.writeLane bad 0 ⟨none, 0, 0, 0, none, none⟩)
  else if kind = 0x0802 then
    match cutFields [1] os with
    | some [l] => some (.readLane h l)
    | _ => some (.readLane bad 0)
  else if kind = 0x0803 then
    match cutFields [3] os with
    | some [m] => some (.restLanes h m)
    | _ => some (.restLanes bad 0)
  else if kind = 0x0804 then
    match cutFields [3] os with
    | some [m] => some (.wakeLanes h m)
    | _ => some (.wakeLanes bad 0)
  else if kind = 0x0806 then
    match cutFields [2, 1, 1, 2, 1, 1, 1, 2] os with
    | some [i, p, l, c, z, n, o, g] => some (.writeOutputPatch h i ⟨flagOf p, l, c, z, n, orderOf o, g⟩)
    | _ => some (.writeOutputPatch bad 0 ⟨none, 0, 0, 0, 0, none, 0⟩)
  else if kind = 0x0807 then
    match cutFields [1, 2] os with
    | some [b, i] => some (.readOutputPatch h (bankNameOf b) i)
    | _ => some (.readOutputPatch bad none 0)
  else if kind = 0x0808 then
    match os with
    | [] => some (.copyOutputBank h)
    | _ => some (.copyOutputBank bad)
  else if kind = 0x0809 then
    match os with
    | [] => some (.switchOutputBank h)
    | _ => some (.switchOutputBank bad)
  else if kind = 0x080A then
    match cutFields [1, 1, 2, 2, 2] os with
    | some [i, l, a, b, v] => some (.writeGuard h i l a b v)
    | _ => some (.writeGuard bad 0 0 0 0 0)
  else if kind = 0x080B then
    match os with
    | [] => some (.readGuard h)
    | _ => some (.readGuard bad)
  else if kind = 0x080C then
    match cutFields [1] os with
    | some [v] => some (.setGuardEnable h (flagOf v))
    | _ => some (.setGuardEnable bad none)
  else none

/-- The arguments of a SET_SETTING: one octet for the setting, then a value of the setting's width; a request that
names no setting is refused whatever follows (R199). -/
def decodeSetSetting (h : ReqHead) : List Octet → Instr
  | [] => .setSetting { h with fits := false } none 0
  | o :: os =>
      match settingOf o.toNat with
      | none => .setSetting h none 0
      | some name =>
          if os.length = name.width then .setSetting h (some name) (beNat os)
          else .setSetting { h with fits := false } none 0

/-- The arguments of a GET_SETTING (R199). -/
def decodeGetSetting (h : ReqHead) : List Octet → Instr
  | [] => .getSetting { h with fits := false } none
  | o :: os =>
      match settingOf o.toNat with
      | none => .getSetting h none
      | some name => if os = [] then .getSetting h (some name) else .getSetting { h with fits := false } none

/-- The request a payload carries, for the kinds of chapters 9 to 11 (R201). -/
def decodeManagementSide (h : ReqHead) (kind : Nat) (os : List Octet) : Option Instr :=
  let bad := { h with fits := false }
  if kind = 0x0901 then some (decodeGetSetting h os)
  else if kind = 0x0902 then some (decodeSetSetting h os)
  else if kind = 0x0903 then
    match os with
    | [] => some (.readStatus h)
    | _ => some (.readStatus bad)
  else if kind = 0x0904 then
    match cutFields [1, 1, 1] os with
    | some [g, n, c] => some (.readCounters h (counterGroupOf g n) (flagOf c))
    | _ => some (.readCounters bad none none)
  else if kind = 0x0905 then
    match cutFields [1] os with
    | some [m] => some (.blockReset h m)
    | _ => some (.blockReset bad 0)
  else if kind = 0x0906 then
    match os with
    | [] => some (.restart h)
    | _ => some (.restart bad)
  else if kind = 0x0A01 then
    match os with
    | [] => some (.readFaults h)
    | _ => some (.readFaults bad)
  else if kind = 0x0A02 then
    match cutFields [1] os with
    | some [i] => some (.clearFault h i)
    | _ => some (.clearFault bad 0)
  else if kind = 0x0A03 then
    match os with
    | [] => some (.clearOverflow h)
    | _ => some (.clearOverflow bad)
  else if kind = 0x0B01 then
    match os with
    | [] => some (.saveImage h)
    | _ => some (.saveImage bad)
  else if kind = 0x0B02 then
    match cutFields [1] os with
    | some [m] => some (.clearResetCause h m)
    | _ => some (.clearResetCause bad 0)
  else none

/-- The request that a MGMT_REQ frame carries, with the checks of R169 made on its payload: too short for the
envelope (tag and kind absent), an undefined kind, arguments that do not fit the kind (fits is then false). -/
def decodeRequest (origin dest : Nat) (payload : List Octet) : Instr :=
  match payload with
  | t1 :: t0 :: k1 :: k0 :: os =>
      let h : ReqHead := { origin := origin, dest := dest, tag := beNat [t1, t0] }
      let kind := beNat [k1, k0]
      match decodeShowSide h kind os with
      | some c => c
      | none =>
        match decodeOutputSide h kind os with
        | some c => c
        | none => (decodeManagementSide h kind os).getD (.unknownRequest h (some kind))
  | _ => .unknownRequest { origin := origin, dest := dest, tag := 0 } none

/-- The head of a request; none for an event. -/
def Instr.head : Instr → Option ReqHead
  | .powerOn => none
  | .resetLine _ => none
  | .runClockAdvance => none
  | .lossTimerExpiry => none
  | .wakeTimerExpiry => none
  | .restTimerExpiry => none
  | .buildCompletion => none
  | .nextCueInstant _ => none
  | .holdExpiry _ => none
  | .releaseInstant _ => none
  | .endInstant _ => none
  | .handoverEnd _ => none
  | .showPortArrival _ => none
  | .ingressTake => none
  | .levelFrameCompletion => none
  | .timeFrameCompletion => none
  | .mgmtReqCompletion => none
  | .livenessTimerExpiry _ => none
  | .showPortTransmitStart _ => none
  | .showPortTransmitEnd => none
  | .receiptArrival _ => none
  | .receiptTimerExpiry _ => none
  | .periodEvent _ => none
  | .fixtureTransmitStart => none
  | .fixtureTransmitEnd => none
  | .imageWriteEnd _ => none
  | .unknownRequest h _ => some h
  | .setTime h _ _ => some h
  | .writeCalendarEntry h _ _ => some h
  | .clearCalendarEntry h _ => some h
  | .readCalendarEntry h _ => some h
  | .readAgenda h => some h
  | .rebuildAgenda h _ => some h
  | .openShow h _ _ => some h
  | .writeCues h _ _ _ => some h
  | .closeShow h _ => some h
  | .deleteShow h _ => some h
  | .readCues h _ _ _ => some h
  | .readShow h _ => some h
  | .startShow h _ _ => some h
  | .go h _ => some h
  | .stopPlayback h _ _ => some h
  | .setMaster h _ _ _ => some h
  | .readPlayback h _ => some h
  | .writeHouseLook h _ _ _ => some h
  | .readZone h _ => some h
  | .writeCeilingBand h _ _ _ => some h
  | .clearCeilingBand h _ => some h
  | .readCeiling h => some h
  | .writeSource h _ _ _ _ => some h
  | .forgetSequence h _ => some h
  | .readSource h _ => some h
  | .writeInputPatch h _ _ => some h
  | .readInputPatch h _ _ => some h
  | .copyInputBank h => some h
  | .switchInputBank h => some h
  | .writeLane h _ _ => some h
  | .readLane h _ => some h
  | .restLanes h _ => some h
  | .wakeLanes h _ => some h
  | .writeOutputPatch h _ _ => some h
  | .readOutputPatch h _ _ => some h
  | .copyOutputBank h => some h
  | .switchOutputBank h => some h
  | .writeGuard h _ _ _ _ _ => some h
  | .readGuard h => some h
  | .setGuardEnable h _ => some h
  | .getSetting h _ => some h
  | .setSetting h _ _ => some h
  | .readStatus h => some h
  | .readCounters h _ _ => some h
  | .blockReset h _ => some h
  | .restart h => some h
  | .readFaults h => some h
  | .clearFault h _ => some h
  | .clearOverflow h => some h
  | .saveImage h => some h
  | .clearResetCause h _ => some h

/-- The kind number a request's envelope carries (R201); none for an event and for a payload too short to hold one. -/
def Instr.kindNumber : Instr → Option Nat
  | .unknownRequest _ kind => kind
  | .setTime _ _ _ => some 0x0101
  | .writeCalendarEntry _ _ _ => some 0x0201
  | .clearCalendarEntry _ _ => some 0x0202
  | .readCalendarEntry _ _ => some 0x0203
  | .readAgenda _ => some 0x0204
  | .rebuildAgenda _ _ => some 0x0205
  | .openShow _ _ _ => some 0x0301
  | .writeCues _ _ _ _ => some 0x0302
  | .closeShow _ _ => some 0x0303
  | .deleteShow _ _ => some 0x0304
  | .readCues _ _ _ _ => some 0x0305
  | .readShow _ _ => some 0x0306
  | .startShow _ _ _ => some 0x0401
  | .go _ _ => some 0x0402
  | .stopPlayback _ _ _ => some 0x0403
  | .setMaster _ _ _ _ => some 0x0404
  | .readPlayback _ _ => some 0x0405
  | .writeHouseLook _ _ _ _ => some 0x0501
  | .readZone _ _ => some 0x0502
  | .writeCeilingBand _ _ _ _ => some 0x0601
  | .clearCeilingBand _ _ => some 0x0602
  | .readCeiling _ => some 0x0603
  | .writeSource _ _ _ _ _ => some 0x0701
  | .forgetSequence _ _ => some 0x0702
  | .readSource _ _ => some 0x0703
  | .writeInputPatch _ _ _ => some 0x0704
  | .readInputPatch _ _ _ => some 0x0705
  | .copyInputBank _ => some 0x0706
  | .switchInputBank _ => some 0x0707
  | .writeLane _ _ _ => some 0x0801
  | .readLane _ _ => some 0x0802
  | .restLanes _ _ => some 0x0803
  | .wakeLanes _ _ => some 0x0804
  | .writeOutputPatch _ _ _ => some 0x0806
  | .readOutputPatch _ _ _ => some 0x0807
  | .copyOutputBank _ => some 0x0808
  | .switchOutputBank _ => some 0x0809
  | .writeGuard _ _ _ _ _ _ => some 0x080A
  | .readGuard _ => some 0x080B
  | .setGuardEnable _ _ => some 0x080C
  | .getSetting _ _ => some 0x0901
  | .setSetting _ _ _ => some 0x0902
  | .readStatus _ => some 0x0903
  | .readCounters _ _ _ => some 0x0904
  | .blockReset _ _ => some 0x0905
  | .restart _ => some 0x0906
  | .readFaults _ => some 0x0A01
  | .clearFault _ _ => some 0x0A02
  | .clearOverflow _ => some 0x0A03
  | .saveImage _ => some 0x0B01
  | .clearResetCause _ _ => some 0x0B02
  | _ => none

/-- The command that a word spells by the table's bits: spec/opcode_table.json gives no row a word, so none does. -/
def decodeTableWord (_nbits _w : Nat) : Option Instr := none

end Sys2Proof
end

