-- ==== Sys2Proof/Machine/State.lean ====
section
/-! DEFINITION. The state of the part, block by block (00_scope.md, "Block diagram"), as plain data, and the state
right after reset. -/

namespace Sys2Proof.Machine

/-- A sparse table: (index, value) pairs, indices strictly rising, no pair equal to the value that an unlisted index
reads as (Sys2Proof/Machine/Table.lean, Sys2Proof/Laws/Table.lean). -/
abbrev Table (α : Type) := List (Nat × α)

/-! ## Time unit (01) -/

/-- The clock states with the tower time they hold (R3): absent in UNSET, present in LOCKED and FREEWHEEL. -/
inductive TowerClock where
  | unset
  | locked (t : TowerTime)
  | freewheel (t : TowerTime)
deriving DecidableEq, Repr

/-- The time unit (01, opening table). Timers are an expiry instant or stopped (R2). -/
structure TimeUnit where
  runClock : Nat
  clock : TowerClock
  remainder : Int
  lastAccepted : Option Nat
  lastTick : Option Nat
  earlyRun : Nat
  lossTimer : Option Nat
  acceptedCount : Nat
  earlyCount : Nat
  malformedCount : Nat
deriving DecidableEq, Repr

/-- The time unit after power-on (R15). -/
def TimeUnit.initial : TimeUnit := ⟨0, .unset, 0, none, none, 0, none, 0, 0, 0⟩

/-! ## Calendar engine (02) -/

/-- The state of a calendar entry (R19). -/
inductive EntryState where
  | empty
  | set
  | spent
deriving DecidableEq, Repr

/-- A calendar entry (R19). weekdays is the set of weekdays, bit d for weekday d. -/
structure CalendarEntry where
  state : EntryState
  firstDate : Nat
  lastDate : Nat
  weekdays : Nat
  start : Nat
  endAt : Option Nat
  step : Option Nat
  showNo : Nat
  priority : Nat
  once : Bool
  lastFired : Option TowerTime
deriving DecidableEq, Repr

/-- An entry not written since a full reset without an image (R41). -/
def CalendarEntry.blank : CalendarEntry := ⟨.empty, 0, 0, 0, 0, none, none, 0, 0, false, none⟩

/-- An agenda item, or a result of a build (R23), with the end field of its entry as read at the build (R32). -/
structure AgendaItem where
  entry : Nat
  instant : TowerTime
  showNo : Nat
  priority : Nat
  endAt : Option Nat
deriving DecidableEq, Repr

/-- A build in flight (R26): its scope, its window, the results computed from the entries as read at its beginning,
the entries written or cleared since (R21), and the instant it began. -/
structure Build where
  scope : Granularity
  lower : TowerTime
  upper : TowerTime
  results : List AgendaItem
  discarded : List Nat
  begun : Nat
deriving DecidableEq, Repr

/-- The agenda state (R24); in BUILDING a build is in flight and the pending slot may hold one request. -/
inductive AgendaState where
  | stale
  | current
  | building (b : Build) (pending : Option Granularity)
deriving DecidableEq, Repr

/-- The calendar engine (02, opening table). -/
structure CalendarEngine where
  entries : Table CalendarEntry
  agenda : List AgendaItem
  state : AgendaState
  lastActual : Option Granularity
  truncated : Bool
  wakeTimer : Option Nat
  restTimer : Option Nat
deriving DecidableEq, Repr

/-- The calendar engine after a full reset without an image (R41). -/
def CalendarEngine.initial : CalendarEngine := ⟨[], [], .stale, none, false, none, none⟩

/-! ## Cue store (03) -/

/-- What a cue does, with the fields its kind uses and no others (R48). -/
inductive Cue where
  | look (zoneFirst zoneCount : Nat) (look : Look) (fade : Nat) (curve : Curve)
  | follow (zoneFirst zoneCount : Nat) (fallback : Look) (source : Nat) (policy : LossPolicy) (fade : Nat) (curve : Curve)
  | release (zoneFirst zoneCount : Nat)
  | master (target fade : Nat)
  | hold (limit : Nat)
  | finish (fade : Nat)
deriving DecidableEq, Repr

/-- A written cue record (R48). -/
structure CueRecord where
  offset : Nat
  cue : Cue
deriving DecidableEq, Repr

/-- The state of a show, with its run of cue memory when it is not EMPTY (R43). -/
inductive ShowState where
  | empty
  | loading (base count : Nat)
  | ready (base count : Nat)
deriving DecidableEq, Repr

/-- A record of the show directory (R43). -/
structure ShowRecord where
  state : ShowState
  playing : Nat
deriving DecidableEq, Repr

/-- A show that holds no records. -/
def ShowRecord.blank : ShowRecord := ⟨.empty, 0⟩

/-- The cue store (03, opening table). A cue record is present in cues when its written mark is set (log entry 12). -/
structure CueStore where
  shows : Table ShowRecord
  cues : Table (Option CueRecord)
deriving DecidableEq, Repr

/-! ## Playback engine (04) -/

/-- What started a show (R58). -/
inductive Origin where
  | entry (e : Nat)
  | manual
deriving DecidableEq, Repr

/-- A master fade (R58, R70). -/
structure MasterFade where
  start : Int
  duration : Nat
  fromLevel : Nat
  toLevel : Nat
deriving DecidableEq, Repr

/-- The state of a non-FREE slot, with the fields present in it alone (R58). -/
inductive Phase where
  | running
  | holding (start : Int) (limit : Nat)
  | ending (release : Int)
deriving DecidableEq, Repr

/-- A non-FREE slot (R58). Instants of a slot are signed. -/
structure Playback where
  phase : Phase
  showNo : Nat
  origin : Origin
  priority : Nat
  runStart : Int
  held : Int
  nextCue : Nat
  endInstant : Option Int
  master : MasterFade
deriving DecidableEq, Repr

/-- The playback engine: four slots, none when FREE, and its two counts (R58). -/
structure PlaybackEngine where
  slots : Table (Option Playback)
  duplicateStarts : Nat
  expiredStarts : Nat
deriving DecidableEq, Repr

/-! ## Zone mixer (05, 06) -/

/-- Whether a FOLLOW layer fades toward the live store or toward its fallback look (R84). -/
inductive Substate where
  | tracking
  | fallen
deriving DecidableEq, Repr

/-- What a layer fades toward, with the fields of its mode (R84). -/
inductive LayerMode where
  | look (toLook : Look)
  | follow (source : Nat) (policy : LossPolicy) (fallback : Look) (followFade : Nat) (sub : Substate)
deriving DecidableEq, Repr

/-- A layer (R84); its slot is its index in the zone's layer table. -/
structure Layer where
  priority : Nat
  runStart : Int
  mode : LayerMode
  fadeFrom : Look
  fadeStart : Int
  fadeDuration : Nat
  curve : Curve
deriving DecidableEq, Repr

/-- A handover fade (R82). -/
structure Handover where
  fromLook : Look
  start : Int
  duration : Nat
deriving DecidableEq, Repr

/-- A zone record (R82) with the zone's layers, at most one per slot (R84). -/
structure Zone where
  owner : Option Nat
  handover : Option Handover
  house : Look
  layers : Table (Option Layer)
deriving DecidableEq, Repr

/-- A zone after a full reset without an image (R101). -/
def Zone.blank : Zone := ⟨none, none, .black, []⟩

/-- A ceiling band (R111). -/
structure Band where
  present : Bool
  fromMs : Nat
  ceiling : Nat
deriving DecidableEq, Repr

/-- The defaults of R111. -/
def Band.blank : Band := ⟨false, 0, 4095⟩

/-- The zone mixer (05, opening table). The live store is indexed by 240 * source + zone. -/
structure ZoneMixer where
  zones : Table Zone
  live : Table Look
  bands : Table Band
deriving DecidableEq, Repr

/-! ## Ingress processor (07) -/

/-- A patch bank's number. -/
inductive BankNo where
  | bank0
  | bank1
deriving DecidableEq, Repr

/-- The other bank. -/
def BankNo.other : BankNo → BankNo
  | .bank0 => .bank1
  | .bank1 => .bank0

/-- A bank switch status (R136, R157). -/
inductive SwitchStatus where
  | idle
  | switching
deriving DecidableEq, Repr

/-- A frame that passed the arrival checks (R119): its class octet, addresses and payload. -/
structure Frame where
  cls : Nat
  dest : Nat
  origin : Nat
  payload : List Octet
deriving DecidableEq, Repr

/-- What the processor records at a take, by class (R121). -/
inductive Snapshot where
  | level (source : Nat) (enabled : Bool) (origin : Nat) (bank : BankNo)
  | time (timekeeper : Nat)
  | request (station : Nat)
deriving DecidableEq, Repr

/-- The frame in processing (R121), and the instant of its take. -/
structure Processing where
  frame : Frame
  snap : Snapshot
  taken : Nat
deriving DecidableEq, Repr

/-- The state of a source (R129). -/
inductive SourceState where
  | idle
  | live
  | lost
deriving DecidableEq, Repr

/-- A source-table entry (R129). sequences holds the stored sequence of each source lane. -/
structure Source where
  enabled : Bool
  origin : Nat
  lossTime : Nat
  state : SourceState
  timer : Option Nat
  sequences : Table (Option Nat)
  accepted : Nat
  duplicate : Nat
  stale : Nat
deriving DecidableEq, Repr

/-- The defaults of R129. -/
def Source.blank : Source := ⟨false, 0, 1000, .idle, none, [], 0, 0, 0⟩

/-- An input patch entry (R133). -/
structure InputEntry where
  present : Bool
  source : Nat
  sourceLane : Nat
  firstChannel : Nat
  zoneFirst : Nat
  zoneCount : Nat
  order : ColourOrder
deriving DecidableEq, Repr

/-- An entry of an empty bank (R139). -/
def InputEntry.blank : InputEntry := ⟨false, 0, 0, 0, 0, 0, .rgb⟩

/-- The show-port counters (R138). -/
structure ShowPortCounters where
  badFrame : Nat
  oversize : Nat
  notMine : Nat
  queueFull : Nat
  unknownClass : Nat
  foreignTime : Nat
  foreignRequest : Nat
  managementDrop : Nat
  unknownSource : Nat
  malformedLevel : Nat
deriving DecidableEq, Repr

/-- All show-port counters at 0. -/
def ShowPortCounters.zero : ShowPortCounters := ⟨0, 0, 0, 0, 0, 0, 0, 0, 0, 0⟩

/-- The ingress processor (07, opening table). -/
structure IngressProcessor where
  queue : List Frame
  processing : Option Processing
  sources : Table Source
  bank0 : Table InputEntry
  bank1 : Table InputEntry
  inUse : BankNo
  switch : SwitchStatus
  counters : ShowPortCounters
deriving DecidableEq, Repr

/-- The ingress processor after a full reset without an image (R139). -/
def IngressProcessor.initial : IngressProcessor := ⟨[], none, [], [], [], .bank0, .idle, .zero⟩

/-! ## Lane controller and fixture port (08) -/

/-- The configuration of a lane (R141, the first six fields). -/
structure LaneConfig where
  configured : Bool
  channelCount : Nat
  period : Nat
  warmUp : Nat
  curfewExempt : Bool
  autoRest : Bool
deriving DecidableEq, Repr

/-- The defaults of R141. -/
def LaneConfig.blank : LaneConfig := ⟨false, 384, 25, 4, false, true⟩

/-- The state of a lane (R142). -/
inductive LaneState where
  | off
  | rest
  | setup
  | warmup
  | emitting
  | faulted
deriving DecidableEq, Repr

/-- A lane record (R141). -/
structure Lane where
  config : LaneConfig
  state : LaneState
  cold : Bool
  setupSequence : Nat
  retriesLeft : Nat
  receiptTimer : Option Nat
  periodTimer : Option Nat
  warmUpRemaining : Nat
  frameNumber : Nat
  bank : BankNo
  guardInUse : Bool
  clipFlag : Bool
  clipCount : Nat
  emitted : Nat
  late : Nat
  staleReceipts : Nat
deriving DecidableEq, Repr

/-- A lane of the given configuration after a full reset (R164): REST when configured, OFF otherwise. -/
def Lane.initial (c : LaneConfig) : Lane :=
  ⟨c, if c.configured then .rest else .off, false, 0, 0, none, none, 0, 0, .bank0, false, false, 0, 0, 0, 0⟩

/-- A lane not in the image (R164, R141). -/
def Lane.blank : Lane := Lane.initial .blank

/-- An output patch entry (R155). -/
structure OutputEntry where
  present : Bool
  lane : Nat
  firstChannel : Nat
  zoneFirst : Nat
  zoneCount : Nat
  order : ColourOrder
  gain : Nat
deriving DecidableEq, Repr

/-- An entry of an empty bank (R164). -/
def OutputEntry.blank : OutputEntry := ⟨false, 0, 0, 0, 0, .rgb, 4096⟩

/-- A guard range (R159). -/
structure Guard where
  lane : Nat
  first : Nat
  last : Nat
  held : Nat
deriving DecidableEq, Repr

/-- The default range (R159): disabled. -/
def Guard.blank : Guard := ⟨0, 1, 0, 0⟩

/-- The guard status (R160). -/
inductive GuardStatus where
  | disabled
  | settling
  | enabled
deriving DecidableEq, Repr

/-- A frame the lane controller composes (R150, R145), with the node address it carries as origin (R199). -/
inductive FixtureFrame where
  | levels (origin lane number : Nat) (levels : List Nat)
  | setup (origin lane sequence channelCount period : Nat)
deriving DecidableEq, Repr

/-- A waiting frame of the fixture transmit queue with its age (R151). -/
structure Waiting where
  age : Nat
  frame : FixtureFrame
deriving DecidableEq, Repr

/-- A frame on the fixture line, and the instant its transmission began (R152). -/
structure FixtureLine where
  frame : FixtureFrame
  begun : Nat
deriving DecidableEq, Repr

/-- The lane controller and fixture port (08, opening table). The fixture transmit queue is indexed by lane. -/
structure LaneController where
  lanes : Table Lane
  bank0 : Table OutputEntry
  bank1 : Table OutputEntry
  selected : BankNo
  switch : SwitchStatus
  guards : Table Guard
  requestedGuard : Bool
  guardStatus : GuardStatus
  waiting : Table (Option Waiting)
  line : Option FixtureLine
  badFrame : Nat
  foreignClass : Nat
  malformedReceipt : Nat
deriving DecidableEq, Repr

/-- The lane controller after a full reset without an image (R164). -/
def LaneController.initial : LaneController :=
  ⟨[], [], [], .bank0, .idle, [], false, .disabled, [], none, 0, 0, 0⟩

/-! ## Fault table (10) -/

/-- The twelve fault kinds with their subjects (R182). -/
inductive FaultKind where
  | timeLost
  | timeEarly
  | sourceLost (source : Nat)
  | badFrames
  | queueOverflow
  | agendaFull
  | noSlot (entry : Option Nat)
  | showNotReady (entry : Nat)
  | missedStart (entry : Nat)
  | noReceipt (lane : Nat)
  | laneRejected (lane : Nat)
  | imageWrite
deriving DecidableEq, Repr

/-- A present fault record (R182). -/
structure FaultRecord where
  kind : FaultKind
  runInstant : Nat
  towerTime : Option TowerTime
deriving DecidableEq, Repr

/-- The fault table (10, opening table). -/
structure FaultTable where
  records : Table (Option FaultRecord)
  nextWrite : Nat
  pending : Bool
  first : Option Nat
  overflow : Bool
  dropped : Nat
  alertPending : Bool
deriving DecidableEq, Repr

/-- The fault table after a full reset or BLOCK_RESET(FAULTS) (R191). -/
def FaultTable.initial : FaultTable := ⟨[], 0, false, none, false, 0, false⟩

/-! ## Settings and the image store (09, 11) -/

/-- The settings table (R173). The alert mask is true for on. -/
structure Settings where
  nodeAddress : Nat
  stationAddress : Nat
  timekeeperAddress : Nat
  preludeLead : Nat
  restDelay : Nat
  handoverTime : Nat
  lateLimit : Nat
  receiptTime : Nat
  retryLimit : Nat
  alertMask : Bool
deriving DecidableEq, Repr

/-- The defaults of R173. -/
def Settings.defaults : Settings := ⟨16, 255, 0, 120, 300, 1000, 1800, 20, 3, true⟩

/-- The configuration of a source that an image holds (R192). -/
structure SourceConfig where
  enabled : Bool
  origin : Nat
  lossTime : Nat
deriving DecidableEq, Repr

/-- The defaults of R129. -/
def SourceConfig.blank : SourceConfig := ⟨false, 0, 1000⟩

/-- The contents of an image (R192). -/
structure Image where
  settings : Settings
  entries : Table CalendarEntry
  shows : Table ShowRecord
  cues : Table (Option CueRecord)
  sources : Table SourceConfig
  inputBank : Table InputEntry
  outputBank : Table OutputEntry
  lanes : Table LaneConfig
  houseLooks : Table Look
  bands : Table Band
  guards : Table Guard
  requestedGuard : Bool
deriving DecidableEq, Repr

/-- The tables every owner starts on when there is no usable image (R195). -/
def Image.defaults : Image := ⟨.defaults, [], [], [], [], [], [], [], [], [], [], false⟩

/-- The stored copy (R195): blank, not agreeing with its check word, or an image that passes. -/
inductive StoredImage where
  | blank
  | failing
  | image (i : Image)
deriving DecidableEq, Repr

/-- The image state (R194), with the snapshot and the instant of the take in SAVING (R193). -/
inductive ImageState where
  | empty
  | saving (snapshot : Image) (begun : Nat)
  | saved
  | failed
deriving DecidableEq, Repr

/-- The reset-cause record (R196). -/
structure ResetCauses where
  powerOn : Bool
  resetLine : Bool
  restart : Bool
  imageBad : Bool
deriving DecidableEq, Repr

/-- The image store (11, opening table). -/
structure ImageStore where
  stored : StoredImage
  state : ImageState
  causes : ResetCauses
deriving DecidableEq, Repr

/-! ## Replies and alerts (09, 10) -/

/-- The outcomes (00_scope.md, "Requests and outcomes"), in the order of their codes (R198). -/
inductive Verdict where
  | ok
  | adjusted
  | refusedRange
  | refusedState
  | noRoom
  | overlap
  | notReady
  | unknownRequest
deriving DecidableEq, Repr

/-- What a SET_TIME did (R12). -/
inductive TimeAction where
  | set
  | slewed
  | stepped
deriving DecidableEq, Repr

/-- Why CLOSE_SHOW found a record bad (R51). -/
inductive BadReason where
  | notWritten
  | offsetRange
  | offsetOrder
  | zoneRange
  | sourceRange
deriving DecidableEq, Repr

/-- Where a rebuild request went (R29). -/
inductive RebuildPlace where
  | begun
  | pending
deriving DecidableEq, Repr

/-- The agenda state as reported (R25). -/
inductive AgendaPhase where
  | stale
  | building
  | current
deriving DecidableEq, Repr

/-- The slot states as reported (R59). -/
inductive SlotPhase where
  | free
  | running
  | holding
  | ending
deriving DecidableEq, Repr

/-- The clock states as reported (R18). -/
inductive ClockPhase where
  | unset
  | locked
  | freewheel
deriving DecidableEq, Repr

/-- The image states as reported (R194). -/
inductive ImagePhase where
  | empty
  | saving
  | saved
  | failed
deriving DecidableEq, Repr

/-- READ_AGENDA's results (R25). -/
structure AgendaReport where
  state : AgendaPhase
  items : List AgendaItem
  building : Option Granularity
  pending : Option Granularity
  truncated : Bool
  lastActual : Option Granularity
deriving DecidableEq, Repr

/-- READ_SHOW's results (R54). -/
structure ShowReport where
  state : ShowState
  playing : Nat
  written : Option Nat
  freeRecords : Nat
  largestRun : Nat
  lowestBase : Option Nat
deriving DecidableEq, Repr

/-- READ_PLAYBACK's results (R79). -/
structure PlaybackReport where
  slot : Option Playback
  showTime : Option Int
  master : Option Nat
  nextCueInstant : Option Int
  duplicateStarts : Nat
  expiredStarts : Nat
deriving DecidableEq, Repr

/-- One layer of a READ_ZONE reply: the slot, the layer and its value now (R100). -/
structure LayerReport where
  slot : Nat
  layer : Layer
  value : Look
deriving DecidableEq, Repr

/-- READ_ZONE's results (R100). live holds, for each source, the stored look and whether the bank in use maps the
zone from it. -/
structure ZoneReport where
  owner : Option Nat
  house : Look
  handover : Option Handover
  layers : List LayerReport
  ownerValue : Look
  value : Look
  live : List (Look × Bool)
deriving DecidableEq, Repr

/-- READ_CEILING's results (R115). basis is the ms of day used, or none for UNSET. -/
structure CeilingReport where
  bands : List Band
  basis : Option Nat
  inForce : Option Nat
  ceiling : Nat
deriving DecidableEq, Repr

/-- READ_SOURCE's results (R132). -/
structure SourceReport where
  config : SourceConfig
  state : SourceState
  remaining : Option Nat
  sequences : List (Option Nat)
  accepted : Nat
  duplicate : Nat
  stale : Nat
deriving DecidableEq, Repr

/-- The class of a waiting frame as READ_LANE reports it (R163). -/
inductive WaitingClass where
  | levels
  | setup
deriving DecidableEq, Repr

/-- READ_LANE's results (R163). -/
structure LaneReport where
  config : LaneConfig
  state : LaneState
  cold : Bool
  setupSequence : Nat
  retriesLeft : Nat
  receiptRemaining : Option Nat
  periodRemaining : Option Nat
  warmUpRemaining : Nat
  frameNumber : Nat
  bank : BankNo
  guardInUse : Bool
  waiting : Option WaitingClass
deriving DecidableEq, Repr

/-- READ_STATUS's results (R177). -/
structure StatusReport where
  runInstant : Nat
  clock : ClockPhase
  towerTime : Option TowerTime
  remainder : Int
  lastAccepted : Option Nat
  lastTick : Option Nat
  agenda : AgendaPhase
  itemCount : Nat
  truncated : Bool
  lastActual : Option Granularity
  slots : List SlotPhase
  inputSwitch : SwitchStatus
  inputBank : BankNo
  outputBank : BankNo
  outputSwitch : SwitchStatus
  requestedGuard : Bool
  guardStatus : GuardStatus
  image : ImagePhase
  faultPending : Bool
  overflow : Bool
  alertPending : Bool
  causes : ResetCauses
  requests : Nat
  outbound : Nat
  pendingNode : Option Nat
deriving DecidableEq, Repr

/-- READ_FAULTS's results (R185). -/
structure FaultReport where
  records : List (Option FaultRecord)
  nextWrite : Nat
  pending : Bool
  first : Option Nat
  present : Nat
  overflow : Bool
  dropped : Nat
  alertPending : Bool
deriving DecidableEq, Repr

/-- The results of a reply: the values the owning rule names (R168). -/
inductive Result where
  /-- No results. -/
  | none
  /-- SET_TIME (R12). -/
  | timeApplied (action : TimeAction) (difference : Option Int)
  /-- READ_CALENDAR_ENTRY (R22). -/
  | calendarEntry (e : CalendarEntry)
  /-- READ_AGENDA (R25). -/
  | agenda (r : AgendaReport)
  /-- REBUILD_AGENDA (R29). -/
  | rebuild (place : RebuildPlace) (g : Granularity)
  /-- OPEN_SHOW (R46): the base index allocated. -/
  | showOpened (base : Nat)
  /-- WRITE_CUES (R50): the number of records stored. -/
  | cuesStored (n : Nat)
  /-- CLOSE_SHOW answered NOT_READY (R51). -/
  | badRecord (index : Nat) (reason : BadReason)
  /-- READ_CUES (R53): none is a record not written. -/
  | cues (records : List (Option CueRecord))
  /-- READ_SHOW (R54). -/
  | showRecord (r : ShowReport)
  /-- START_SHOW (R67): the slot taken and the victim's show and origin. -/
  | started (slot : Nat) (victim : Option (Nat × Origin))
  /-- READ_PLAYBACK (R79). -/
  | playback (r : PlaybackReport)
  /-- READ_ZONE (R100). -/
  | zone (r : ZoneReport)
  /-- READ_CEILING (R115). -/
  | ceiling (r : CeilingReport)
  /-- READ_SOURCE (R132). -/
  | source (r : SourceReport)
  /-- READ_INPUT_PATCH (R134): the entry and the number of the bank read. -/
  | inputEntry (e : InputEntry) (bank : BankNo)
  /-- SWITCH_INPUT_BANK answered OVERLAP (R136). -/
  | overlapping (lower higher : Nat)
  /-- SWITCH_OUTPUT_BANK answered OVERLAP (R157). -/
  | overlappingOutputs (lower higher : Nat)
  /-- READ_LANE (R163). -/
  | lane (r : LaneReport)
  /-- REST_LANES (the lanes kept, R153) and WAKE_LANES (the lanes woken, R154). -/
  | laneList (lanes : List Nat)
  /-- READ_OUTPUT_PATCH (R156). -/
  | outputEntry (e : OutputEntry) (bank : BankNo)
  /-- READ_GUARD (R159). -/
  | guards (ranges : List Guard) (requested : Bool) (status : GuardStatus)
  /-- GET_SETTING (R174): the value in force and, for the node address, the pending node address. -/
  | settingValue (name : SettingName) (value : Nat) (pending : Option Nat)
  /-- SET_SETTING (R175): the value stored. -/
  | settingStored (name : SettingName) (value : Nat)
  /-- READ_STATUS (R177). -/
  | status (r : StatusReport)
  /-- READ_COUNTERS of the show-port group (R178), with the time unit's three counts. -/
  | showPortCounters (c : ShowPortCounters) (accepted early malformed : Nat)
  /-- READ_COUNTERS of the fixture-port group (R162). -/
  | fixturePortCounters (badFrame foreignClass malformedReceipt : Nat)
  /-- READ_COUNTERS of a source (R138). -/
  | sourceCounters (accepted duplicate stale : Nat)
  /-- READ_COUNTERS of a lane (R162). -/
  | laneCounters (emitted late stale : Nat) (clipFlag : Bool) (clipCount : Nat)
  /-- BLOCK_RESET (R179): the set that was carried out. -/
  | resetMembers (members : Nat)
  /-- READ_FAULTS (R185). -/
  | faults (r : FaultReport)
  /-- CLEAR_FAULT (R186). -/
  | faultCleared (pending : Bool) (present : Nat)
  /-- CLEAR_OVERFLOW (R187): the dropped count before the clear. -/
  | overflowCleared (dropped : Nat)
  /-- CLEAR_RESET_CAUSE (R196): the record after the clear. -/
  | resetCauses (c : ResetCauses)
deriving DecidableEq, Repr

/-- What the end of a reply's transmission does besides freeing the line (R176, R180). -/
inductive ReplyEnd where
  | nothing
  | nodeAddress (serial : Nat)
  | restart
deriving DecidableEq, Repr

/-- A MGMT_REPLY (R168); the envelope is absent after check 1 of R169. -/
structure Reply where
  dest : Nat
  origin : Nat
  envelope : Option (Nat × Nat)
  outcome : Verdict
  result : Result
  atEnd : ReplyEnd
deriving DecidableEq, Repr

/-- An ALERT (R190). -/
structure Alert where
  dest : Nat
  origin : Nat
  first : Option Nat
  present : Nat
  overflow : Bool
  dropped : Nat
deriving DecidableEq, Repr

/-- A frame of the outbound queue (R171). -/
inductive OutFrame where
  | reply (r : Reply)
  | alert (a : Alert)
deriving DecidableEq, Repr

/-! ## Management unit (09) -/

/-- A frame on the show-port line, and the instant its transmission began (R171). -/
structure ShowLine where
  frame : OutFrame
  begun : Nat
deriving DecidableEq, Repr

/-- A pending node address and the number of the reply whose end ends the change (R176, log entry 13). -/
structure PendingNode where
  value : Nat
  serial : Nat
deriving DecidableEq, Repr

/-- The management unit (09, opening table). A queued request is the command that takes it (R166).
replyReserved is the place reserved for the reply of the request being carried out (R167). -/
structure ManagementUnit where
  requests : List Instr
  outbound : List OutFrame
  replyReserved : Bool
  line : Option ShowLine
  settings : Settings
  pendingNode : Option PendingNode
  restartPending : Bool
deriving DecidableEq, Repr

/-- The management unit after a full reset without an image (R181, R173). -/
def ManagementUnit.initial : ManagementUnit := ⟨[], [], false, none, .defaults, none, false⟩

/-! ## The part -/

/-- The state of the part: its ten blocks (00_scope.md), the queue of waiting commands and the free-value counter
(both the MODEL's own, see INVENTORY.md). -/
structure State where
  time : TimeUnit
  calendar : CalendarEngine
  cueStore : CueStore
  playback : PlaybackEngine
  mixer : ZoneMixer
  ingress : IngressProcessor
  lanes : LaneController
  mgmt : ManagementUnit
  faults : FaultTable
  image : ImageStore
  pending : List Instr
  freeCount : Nat
deriving DecidableEq, Repr

/-- The reasons for which a step of the machine could stop with a fault. There are none: the part answers, drops,
counts or records whatever it cannot carry out (log entry 3), so no constructor is raised by anything. Safe. -/
inductive Fault where
deriving DecidableEq, Repr

/-- The reasons for which a command has no meaning. -/
inductive Refusal where
  /-- Raised by exec's arm of a command that has no meaning yet. Safe: nothing can be proved of its effect. -/
  | notModelled (mnemonic : String)
deriving DecidableEq, Repr

/-- The machine right after reset: power-on with an image store that has never held an image (R15, R41, R56, R80,
R101, R118, R139, R164, R181, R191, R195, R196). DESIGN CHOICE (log entry 1): the image store is blank. -/
def State.reset : State where
  time := .initial
  calendar := .initial
  cueStore := ⟨[], []⟩
  playback := ⟨[], 0, 0⟩
  mixer := ⟨[], [], []⟩
  ingress := .initial
  lanes := .initial
  mgmt := .initial
  faults := .initial
  image := ⟨.blank, .empty, ⟨true, false, false, false⟩⟩
  pending := []
  freeCount := 0

end Sys2Proof.Machine
end

