-- ==== Sys2Proof/Machine/Table.lean ====
section
/-! DEFINITION. Operations on sparse tables. d is the value an unlisted index reads as; each table's own d is the
default that the rule of its field gives. -/

namespace Sys2Proof.Machine

/-- The value at index i. -/
def Table.read {α : Type} (d : α) : Table α → Nat → α
  | [], _ => d
  | (k, v) :: t, i => if k = i then v else Table.read d t i

/-- Inserts or replaces the pair at index i, keeping the indices rising. -/
def Table.put {α : Type} : Table α → Nat → α → Table α
  | [], i, v => [(i, v)]
  | (k, w) :: t, i, v =>
      if k < i then (k, w) :: Table.put t i v
      else if k = i then (i, v) :: t
      else (i, v) :: (k, w) :: t

/-- Removes the pair at index i. -/
def Table.drop {α : Type} (t : Table α) (i : Nat) : Table α := t.filter (fun p => p.1 ≠ i)

/-- Writes v at index i; writing the value an unlisted index reads as removes the pair. -/
def Table.write {α : Type} [DecidableEq α] (d : α) (t : Table α) (i : Nat) (v : α) : Table α :=
  if v = d then Table.drop t i else Table.put t i v

/-- Changes every listed value; d is the value an unlisted index reads as in the result. -/
def Table.mapVals {α β : Type} [DecidableEq β] (d : β) (f : Nat → α → β) (t : Table α) : Table β :=
  (t.map (fun p => (p.1, f p.1 p.2))).filter (fun p => p.2 ≠ d)

/-- Keeps only the indices that pass the test. -/
def Table.keep {α : Type} (p : Nat → Bool) (t : Table α) : Table α := t.filter (fun q => p q.1)

/-- The canonical form: indices strictly rising, no pair equal to the value an unlisted index reads as. -/
def Table.wf {α : Type} [DecidableEq α] (d : α) : Table α → Bool
  | [] => true
  | (k, v) :: t => decide (v ≠ d) && t.all (fun p => decide (k < p.1)) && Table.wf d t

/-- The first pair, in index order, whose values conflict: smallest lower index, then smallest higher index
(R136, R157). -/
def Table.firstPair {α : Type} (conflict : α → α → Bool) : Table α → Option (Nat × Nat)
  | [] => none
  | (i, a) :: t =>
      match t.find? (fun p => conflict a p.2) with
      | some (j, _) => some (i, j)
      | none => Table.firstPair conflict t

end Sys2Proof.Machine
end

