-- ==== Sys2Proof/Machine/Ops.lean ====
section
/-! DEFINITION. The named operations over the state: one replacement per block, one read and one write per table,
counters, clamping and timers. -/

namespace Sys2Proof.Machine

/-! ## Replacing a block -/

/-- s with its time replaced. -/
def State.withTime (s : State) (x : TimeUnit) : State := { s with time := x }

/-- s with its calendar replaced. -/
def State.withCalendar (s : State) (x : CalendarEngine) : State := { s with calendar := x }

/-- s with its cueStore replaced. -/
def State.withCueStore (s : State) (x : CueStore) : State := { s with cueStore := x }

/-- s with its playback replaced. -/
def State.withPlayback (s : State) (x : PlaybackEngine) : State := { s with playback := x }

/-- s with its mixer replaced. -/
def State.withMixer (s : State) (x : ZoneMixer) : State := { s with mixer := x }

/-- s with its ingress replaced. -/
def State.withIngress (s : State) (x : IngressProcessor) : State := { s with ingress := x }

/-- s with its lanes replaced. -/
def State.withLanes (s : State) (x : LaneController) : State := { s with lanes := x }

/-- s with its mgmt replaced. -/
def State.withMgmt (s : State) (x : ManagementUnit) : State := { s with mgmt := x }

/-- s with its faults replaced. -/
def State.withFaults (s : State) (x : FaultTable) : State := { s with faults := x }

/-- s with its image replaced. -/
def State.withImage (s : State) (x : ImageStore) : State := { s with image := x }

/-- s with its freeCount replaced. -/
def State.withFreeCount (s : State) (x : Nat) : State := { s with freeCount := x }

/-- s with its pending replaced. -/
def State.withPending (s : State) (x : List Instr) : State := { s with pending := x }

/-! ## Counters, clamping and timers -/

/-- A counter that saturates at max (10_faults_alerts_and_counters.md, section 10.6). -/
def satInc (max n : Nat) : Nat := if n < max then n + 1 else n

/-- A 32-bit counter that wraps (section 10.6). -/
def wrapInc (n : Nat) : Nat := (n + 1) % 4294967296

/-- A quantity brought to the nearest end of its range (R170). -/
def clamp (lo hi n : Nat) : Nat := if n < lo then lo else if hi < n then hi else n

/-- Whether clamping changes a quantity (R170). -/
def clamps (lo hi n : Nat) : Bool := n < lo || hi < n

/-- The outcome of a request that is carried out (R170). -/
def okOrAdjusted (adjusted : Bool) : Verdict := if adjusted then .adjusted else .ok

/-- Whether a timer has an expiry instant that the run clock has reached (R2). -/
def timerDue (timer : Option Nat) (now : Nat) : Bool :=
  match timer with
  | some e => e ≤ now
  | none => false

/-- The time left on a timer; absent when it is stopped (R132, R163). -/
def timeLeft (timer : Option Nat) (now : Nat) : Option Nat := timer.map (· - now)

/-! ## Reads of the state -/

/-- The current instant (R1). -/
abbrev State.now (s : State) : Nat := s.time.runClock

/-- The settings in force (R173). -/
abbrev State.settings (s : State) : Settings := s.mgmt.settings

/-- Tower time, absent in UNSET (R3). -/
def TowerClock.time : TowerClock → Option TowerTime
  | .unset => none
  | .locked t => some t
  | .freewheel t => some t

/-- The clock state (R3). -/
def TowerClock.phase : TowerClock → ClockPhase
  | .unset => .unset
  | .locked _ => .locked
  | .freewheel _ => .freewheel

/-- Tower time now (R3). -/
def State.towerTime (s : State) : Option TowerTime := s.time.clock.time

/-- A calendar entry (R19). -/
def State.entry (s : State) (i : Nat) : CalendarEntry := Table.read .blank s.calendar.entries i

/-- s with a calendar entry replaced. -/
def State.setEntry (s : State) (i : Nat) (e : CalendarEntry) : State :=
  s.withCalendar { s.calendar with entries := Table.write .blank s.calendar.entries i e }

/-- A record of the show directory (R43). -/
def State.showRecord (s : State) (i : Nat) : ShowRecord := Table.read .blank s.cueStore.shows i

/-- s with a record of the show directory replaced. -/
def State.setShow (s : State) (i : Nat) (r : ShowRecord) : State :=
  s.withCueStore { s.cueStore with shows := Table.write .blank s.cueStore.shows i r }

/-- A record of cue memory; none when its written mark is clear (R44). -/
def State.cue (s : State) (i : Nat) : Option CueRecord := Table.read none s.cueStore.cues i

/-- A playback slot; none when FREE (R58). -/
def State.slot (s : State) (k : Nat) : Option Playback := Table.read none s.playback.slots k

/-- s with a slot replaced. -/
def State.setSlot (s : State) (k : Nat) (p : Option Playback) : State :=
  s.withPlayback { s.playback with slots := Table.write none s.playback.slots k p }

/-- The slots in order (00_scope.md, "Identities and indices"). -/
def slotNumbers : List Nat := [0, 1, 2, 3]

/-- Every slot is FREE. -/
def State.allFree (s : State) : Bool := slotNumbers.all (fun k => (s.slot k).isNone)

/-- A zone record (R82). -/
def State.zone (s : State) (z : Nat) : Zone := Table.read .blank s.mixer.zones z

/-- s with a zone record replaced. -/
def State.setZone (s : State) (z : Nat) (r : Zone) : State :=
  s.withMixer { s.mixer with zones := Table.write .blank s.mixer.zones z r }

/-- A ceiling band (R111). -/
def State.band (s : State) (i : Nat) : Band := Table.read .blank s.mixer.bands i

/-- The index of a source and zone in the live store. -/
def liveIndex (source zone : Nat) : Nat := 240 * source + zone

/-- The stored look of a zone from a source (R85). -/
def State.stored (s : State) (source zone : Nat) : Look := Table.read .black s.mixer.live (liveIndex source zone)

/-- A source-table entry (R129). -/
def State.source (s : State) (i : Nat) : Source := Table.read .blank s.ingress.sources i

/-- s with a source-table entry replaced. -/
def State.setSource (s : State) (i : Nat) (x : Source) : State :=
  s.withIngress { s.ingress with sources := Table.write .blank s.ingress.sources i x }

/-- The sources in order. -/
def sourceNumbers : List Nat := [0, 1, 2, 3, 4, 5, 6, 7]

/-- An input patch bank by number (R133). -/
def State.inputBank (s : State) : BankNo → Table InputEntry
  | .bank0 => s.ingress.bank0
  | .bank1 => s.ingress.bank1

/-- s with an input patch bank replaced. -/
def State.setInputBank (s : State) (b : BankNo) (t : Table InputEntry) : State :=
  match b with
  | .bank0 => s.withIngress { s.ingress with bank0 := t }
  | .bank1 => s.withIngress { s.ingress with bank1 := t }

/-- An output patch bank by number (R155). -/
def State.outputBank (s : State) : BankNo → Table OutputEntry
  | .bank0 => s.lanes.bank0
  | .bank1 => s.lanes.bank1

/-- s with an output patch bank replaced. -/
def State.setOutputBank (s : State) (b : BankNo) (t : Table OutputEntry) : State :=
  match b with
  | .bank0 => s.withLanes { s.lanes with bank0 := t }
  | .bank1 => s.withLanes { s.lanes with bank1 := t }

/-- A lane record (R141). -/
def State.lane (s : State) (l : Nat) : Lane := Table.read .blank s.lanes.lanes l

/-- s with a lane record replaced. -/
def State.setLane (s : State) (l : Nat) (r : Lane) : State :=
  s.withLanes { s.lanes with lanes := Table.write .blank s.lanes.lanes l r }

/-- The lanes in order. -/
def laneNumbers : List Nat := List.range 24

/-- A guard range (R159). -/
def State.guardRange (s : State) (i : Nat) : Guard := Table.read .blank s.lanes.guards i

/-- The frame of a lane that waits in the fixture transmit queue (R151). -/
def State.waitingFrame (s : State) (l : Nat) : Option Waiting := Table.read none s.lanes.waiting l

/-- A fault record; none when not present (R182). -/
def State.faultRecord (s : State) (i : Nat) : Option FaultRecord := Table.read none s.faults.records i

/-- Changes the show-port counters. -/
def State.count (s : State) (f : ShowPortCounters → ShowPortCounters) : State :=
  s.withIngress { s.ingress with counters := f s.ingress.counters }

end Sys2Proof.Machine
end

