-- ==== Sys2Proof/Machine/Flags.lean ====
section
/-! DEFINITION. The fault table and its flags: pending, first-pending index, overflow, alert pending (R182 to R191). -/

namespace Sys2Proof.Machine

/-- The fault records in index order. -/
def faultNumbers : List Nat := [0, 1, 2, 3, 4, 5, 6, 7]

/-- The number of present fault records (R185). -/
def State.presentFaults (s : State) : Nat := faultNumbers.countP (fun i => (s.faultRecord i).isSome)

/-- The places taken in the outbound queue, "counting a place reserved for the reply" (R188). -/
def State.outboundUsed (s : State) : Nat := s.mgmt.outbound.length + (if s.mgmt.replyReserved then 1 else 0)

/-- The outbound queue has room (R188). -/
def State.outboundRoom (s : State) : Bool := s.outboundUsed < 8

/-- An ALERT, composed from the fault table as it stands (R190). -/
def State.composeAlert (s : State) : Alert where
  dest := if 1 ≤ s.settings.stationAddress ∧ s.settings.stationAddress ≤ 254 then s.settings.stationAddress else 255
  origin := s.settings.nodeAddress
  first := s.faults.first
  present := s.presentFaults
  overflow := s.faults.overflow
  dropped := s.faults.dropped

/-- Composes an ALERT and places it at the tail of the outbound queue (R190). -/
def State.placeAlert (s : State) : State :=
  s.withMgmt { s.mgmt with outbound := s.mgmt.outbound ++ [.alert s.composeAlert] }

/-- An alert condition arises (R188). -/
def State.alertCondition (s : State) : State :=
  if s.faults.alertPending then s
  else if s.settings.alertMask || !s.outboundRoom then s.withFaults { s.faults with alertPending := true }
  else s.placeAlert

/-- Places the ALERT of a pending alert as soon as the mask is off and the queue has room (R189). -/
def State.sendPendingAlert (s : State) : State :=
  if s.faults.alertPending && !s.settings.alertMask && s.outboundRoom then
    s.placeAlert.withFaults { s.faults with alertPending := false }
  else s

/-- The record the search of R183 finds: the first not present from the next-write index upward, wrapping. -/
def State.freeFaultRecord (s : State) : Option Nat :=
  (faultNumbers.map (fun j => (s.faults.nextWrite + j) % 8)).find? (fun i => (s.faultRecord i).isNone)

/-- The fault table with a fault stored in record i (R183, R184). -/
def State.storeFault (s : State) (k : FaultKind) (i : Nat) : FaultTable :=
  { s.faults with
    records := Table.write none s.faults.records i (some ⟨k, s.now, s.towerTime⟩)
    nextWrite := (i + 1) % 8
    pending := true
    first := if s.faults.pending then s.faults.first else some i }

/-- A block records a fault (R183, R184, R188). -/
def State.recordFault (s : State) (k : FaultKind) : State :=
  if s.faults.overflow then s.withFaults { s.faults with dropped := satInc 255 s.faults.dropped }
  else
    match s.freeFaultRecord with
    | some i =>
        let t := s.withFaults (s.storeFault k i)
        if s.faults.pending then t else t.alertCondition
    | none =>
        (s.withFaults { s.faults with overflow := true, dropped := satInc 255 s.faults.dropped }).alertCondition

/-- Of two fault records, the one that R184 makes first-pending: the earlier run instant, then the lower index. -/
def earlierFault (a b : Nat × Nat) : Nat × Nat :=
  if b.2 < a.2 ∨ (b.2 = a.2 ∧ b.1 < a.1) then b else a

/-- The present record with the earliest run instant, and among equals the lowest index (R184). -/
def State.oldestFault (s : State) : Option Nat :=
  (faultNumbers.foldl
    (fun best i =>
      match s.faultRecord i, best with
      | none, _ => best
      | some r, none => some (i, r.runInstant)
      | some r, some b => some (earlierFault b (i, r.runInstant)))
    none).map (·.1)

/-- "leaves both pending and overflow clear": alert pending is then cleared (R189). -/
def State.quietAlert (s : State) : State :=
  if s.faults.pending || s.faults.overflow then s else s.withFaults { s.faults with alertPending := false }

/-- Makes fault record i not present (R186), with pending and the first-pending index (R184). -/
def State.clearFaultRecord (s : State) (i : Nat) : State :=
  let t := s.withFaults { s.faults with records := Table.write none s.faults.records i none }
  let left := t.oldestFault
  (t.withFaults
    { t.faults with
      pending := left.isSome
      first := if s.faults.first = some i || left.isNone then left else s.faults.first }).quietAlert

/-- Clears overflow and the dropped count (R187). -/
def State.clearFaultOverflow (s : State) : State :=
  (s.withFaults { s.faults with overflow := false, dropped := 0 }).quietAlert

/-- The fault table becomes as after a full reset (R191). -/
def State.resetFaults (s : State) : State := s.withFaults .initial

end Sys2Proof.Machine
end

