-- ==== Sys2Proof/Machine/Levels.lean ====
section
/-! DEFINITION. Level arithmetic (R103 to R115): blends, master scaling, gain and saturation, ceilings. -/

namespace Sys2Proof.Machine

/-- "elapsed time t less the fade's start"; "where that difference is negative ... the elapsed time is 0" (R87). -/
def elapsed (t start : Int) : Nat := (t - start).toNat

/-- The progress of a fade, 0..4096 (R103). -/
def progress (e d : Nat) : Nat := if d = 0 ∨ d ≤ e then 4096 else 4096 * e / d

/-- The weight of a progress (R104). -/
def weight : Curve → Nat → Nat
  | .linear, p => p
  | .ease, p => p * p / 4096

/-- A + q, with q truncated toward zero (R105). -/
def mix (a b w : Nat) : Nat := if a ≤ b then a + (b - a) * w / 4096 else a - (a - b) * w / 4096

/-- The blend (R103 to R106). -/
def blend (c : Curve) (e d a b : Nat) : Nat := mix a b (weight c (progress e d))

/-- The blend of two looks, component by component (R87). -/
def blendLook (c : Curve) (e d : Nat) (a b : Look) : Look := Look.map2 (blend c e d) a b

/-- The master value of a fade at an instant (R70). -/
def MasterFade.value (m : MasterFade) (t : Int) : Nat :=
  blend .linear (elapsed t m.start) m.duration m.fromLevel m.toLevel

/-- Master scaling of a level (R107). -/
def scaleLevel (l m : Nat) : Nat := l * m / 4096

/-- Master scaling of a look (R107). -/
def scaleLook (l : Look) (m : Nat) : Look := ⟨scaleLevel l.red m, scaleLevel l.green m, scaleLevel l.blue m⟩

/-- The gained value (R108). -/
def gained (v g : Nat) : Nat := v * g / 4096

/-- The output level of a gained value, saturated at 4095 (R108). -/
def outputLevel (v g : Nat) : Nat := min 4095 (gained v g)

/-- The channel has clipped (R108). -/
def clipped (v g : Nat) : Bool := 4095 < gained v g

/-- The ceiling bands in index order. -/
def bandNumbers : List Nat := [0, 1, 2, 3, 4, 5, 6, 7]

/-- The present bands, in index order (R112). -/
def State.presentBands (s : State) : List (Nat × Band) :=
  (bandNumbers.map (fun i => (i, s.band i))).filter (fun p => p.2.present)

/-- Of two bands, the one that R112 prefers: the greater from, then the lower ceiling, then the first. -/
def preferBand (a b : Nat × Band) : Nat × Band :=
  if a.2.fromMs < b.2.fromMs ∨ (a.2.fromMs = b.2.fromMs ∧ b.2.ceiling < a.2.ceiling) then b else a

/-- The preferred band of a list in index order; none of an empty list. -/
def bestBand : List (Nat × Band) → Option (Nat × Band)
  | [] => none
  | b :: bs => some (bs.foldl preferBand b)

/-- The band in force at ms of day m (R112). -/
def bandInForce (present : List (Nat × Band)) (m : Nat) : Option (Nat × Band) :=
  match bestBand (present.filter (fun p => p.2.fromMs ≤ m)) with
  | some b => some b
  | none => bestBand present

/-- The lowest ceiling among the present bands, 4095 with none (R113). -/
def lowestCeiling (present : List (Nat × Band)) : Nat := present.foldl (fun c p => min c p.2.ceiling) 4095

/-- The ceiling in force (R112, R113). -/
def State.ceilingInForce (s : State) : Nat :=
  match s.towerTime with
  | some t => ((bandInForce s.presentBands t.ms).map (fun b => b.2.ceiling)).getD 4095
  | none => lowestCeiling s.presentBands

/-- The index of the band in force, absent under UNSET and with no band present (R112, R113, R115). -/
def State.bandIndexInForce (s : State) : Option Nat :=
  match s.towerTime with
  | some t => (bandInForce s.presentBands t.ms).map (·.1)
  | none => none

end Sys2Proof.Machine
end

