-- ==== Sys2Proof/Machine/Mixer.lean ====
section
/-! DEFINITION. The zone mixer's operations: evaluation of zones, ownership, layers, handovers, source loss and
return (R82 to R102). -/

namespace Sys2Proof.Machine

/-! ## Evaluation -/

/-- The current instant as a signed instant. -/
abbrev State.instant (s : State) : Int := s.now

/-- A present entry of the input bank in use names the source and covers the zone (R86). -/
def State.mapped (s : State) (source zone : Nat) : Bool :=
  (s.inputBank s.ingress.inUse).any (fun p =>
    p.2.present && decide (p.2.source = source) && decide (p.2.zoneFirst ≤ zone)
      && decide (zone < p.2.zoneFirst + p.2.zoneCount))

/-- The live look of a zone from a source: the stored look when mapped, otherwise 0 (R86). -/
def State.liveLook (s : State) (source zone : Nat) : Look :=
  if s.mapped source zone then s.stored source zone else .black

/-- What a layer fades toward in zone z (R88). -/
def State.layerTarget (s : State) (z : Nat) : LayerMode → Look
  | .look target => target
  | .follow _ _ fallback _ .fallen => fallback
  | .follow source _ _ _ .tracking => s.liveLook source z

/-- The layer value L(t) of a layer of zone z (R88). -/
def State.layerValue (s : State) (z : Nat) (l : Layer) (t : Int) : Look :=
  blendLook l.curve (elapsed t l.fadeStart) l.fadeDuration l.fadeFrom (s.layerTarget z l.mode)

/-- The layer of a slot in a zone (R84). -/
def State.layer (s : State) (k z : Nat) : Option Layer := Table.read none (s.zone z).layers k

/-- The master of a slot at an instant (R70); a FREE slot owns nothing. -/
def State.masterOf (s : State) (k : Nat) (t : Int) : Nat :=
  match s.slot k with
  | some p => p.master.value t
  | none => 0

/-- The owner value O(t) of a zone (R89). -/
def State.ownerValue (s : State) (z : Nat) (t : Int) : Look :=
  match (s.zone z).owner with
  | none => (s.zone z).house
  | some k =>
      match s.layer k z with
      | some l => scaleLook (s.layerValue z l t) (s.masterOf k t)
      | none => (s.zone z).house

/-- The zone value V(t) (R90). -/
def State.zoneValue (s : State) (z : Nat) (t : Int) : Look :=
  match (s.zone z).handover with
  | none => s.ownerValue z t
  | some h => blendLook .linear (elapsed t h.start) h.duration h.fromLook (s.ownerValue z t)

/-! ## Ownership -/

/-- A layer of a higher slot number beats one of a lower: priority, then run start, then slot number (R91). -/
def beats (l m : Layer) : Bool :=
  m.priority < l.priority || (m.priority = l.priority && m.runStart ≤ l.runStart)

/-- The better of the best layer so far and the layer of slot k, which is a higher slot (R91). -/
def pickOwner (best : Option (Nat × Layer)) (k : Nat) (l : Option Layer) : Option (Nat × Layer) :=
  match l, best with
  | none, _ => best
  | some l, none => some (k, l)
  | some l, some b => if beats l b.2 then some (k, l) else some b

/-- The owner by the ownership rule (R91). -/
def strongest (layers : Table (Option Layer)) : Option Nat :=
  (slotNumbers.foldl (fun best k => pickOwner best k (Table.read none layers k)) none).map (·.1)

/-- Puts a layer of slot k into zone z; a created layer recomputes the owner, and a new owner removes any handover
(R91, R94). -/
def State.putLayer (s : State) (k z : Nat) (l : Layer) : State :=
  let r := s.zone z
  let layers := Table.write none r.layers k (some l)
  match Table.read none r.layers k with
  | some _ => s.setZone z { r with layers := layers }
  | none =>
      if strongest layers = r.owner then s.setZone z { r with layers := layers }
      else s.setZone z { r with layers := layers, owner := strongest layers, handover := none }

/-- The handover that a drop at t leaves when the owner changes (R92). -/
def State.handoverAt (s : State) (z : Nat) (t : Int) : Option Handover :=
  if s.settings.handoverTime = 0 then none else some ⟨s.zoneValue z t, t, s.settings.handoverTime⟩

/-- Drops the layer of slot k in zone z at instant t, with the handover of R92 (R91, R92, R96). -/
def State.dropLayer (s : State) (k : Nat) (t : Int) (z : Nat) : State :=
  let r := s.zone z
  match Table.read none r.layers k with
  | none => s
  | some _ =>
      let layers := Table.write none r.layers k none
      if strongest layers = r.owner then s.setZone z { r with layers := layers }
      else s.setZone z { r with layers := layers, owner := strongest layers, handover := s.handoverAt z t }

/-! ## Cues that reach zones -/

/-- The zones of a range, ascending (R93). -/
def zoneRange (first count : Nat) : List Nat := (List.range count).map (first + ·)

/-- All zones, ascending. -/
def zoneNumbers : List Nat := List.range 240

/-- The layer a LOOK or FOLLOW cue leaves in one zone: priority and run start are "copied at creation" (R84, R94,
R95). -/
def State.cueLayer (s : State) (k : Nat) (p : Playback) (d : Int) (mode : LayerMode) (fade : Nat) (curve : Curve)
    (z : Nat) : Layer :=
  match s.layer k z with
  | some l => ⟨l.priority, l.runStart, mode, s.layerValue z l d, d, fade, curve⟩
  | none => ⟨p.priority, p.runStart, mode, s.zoneValue z d, d, fade, curve⟩

/-- A LOOK or FOLLOW cue in one zone, with the mode it gives the layer (R94, R95). -/
def State.cueZone (s : State) (k : Nat) (p : Playback) (d : Int) (mode : LayerMode) (fade : Nat) (curve : Curve)
    (z : Nat) : State :=
  s.putLayer k z (s.cueLayer k p d mode fade curve z)

/-- A LOOK or FOLLOW cue in every zone of its range (R93). -/
def State.cueZones (s : State) (k : Nat) (p : Playback) (d : Int) (mode : LayerMode) (fade : Nat) (curve : Curve)
    (first count : Nat) : State :=
  (zoneRange first count).foldl (fun s z => s.cueZone k p d mode fade curve z) s

/-- The substate a FOLLOW cue chooses from the source's state (R95). -/
def followSubstate : SourceState → Substate
  | .idle => .tracking
  | .live => .tracking
  | .lost => .fallen

/-- A RELEASE cue: drops the slot's layers in the range at d (R96). -/
def State.releaseZones (s : State) (k : Nat) (d : Int) (first count : Nat) : State :=
  (zoneRange first count).foldl (fun s z => s.dropLayer k d z) s

/-- A slot release: drops every layer of the slot at the instant it is taken (R96). -/
def State.dropLayers (s : State) (k : Nat) : State :=
  zoneNumbers.foldl (fun s z => s.dropLayer k s.now z) s

/-- The instant at which a handover ends (R82). -/
def Handover.finish (h : Handover) : Int := h.start + h.duration

/-- A drop of slot k's layer in zone z makes a handover: the slot holds a layer there, the owner changes, and the
handover time is above 0 (R92). -/
def State.dropMakes (s : State) (k z : Nat) : Bool :=
  (s.layer k z).isSome && decide (strongest (Table.write none (s.zone z).layers k none) ≠ (s.zone z).owner)
    && decide (s.settings.handoverTime ≠ 0)

/-- The zones in which a cue of slot k makes a handover: of the cues, only a RELEASE drops layers (R69, R96). The
release of a slot makes handovers too, but from the current instant, so that none of them has ended (R75, R92). -/
def State.cueMakes (s : State) (k : Nat) : Cue → List Nat
  | .release z n => (zoneRange z n).filter (s.dropMakes k)
  | _ => []

/-- Removes the handover of zone z when its end instant lies at or before the current instant (R82). -/
def State.settleZone (s : State) (z : Nat) : State :=
  match (s.zone z).handover with
  | some h => if h.finish ≤ s.instant then s.setZone z { s.zone z with handover := none } else s
  | none => s

/-- "A handover whose end instant already lies at or before the current instant when it is created is removed when
the event that created it is complete" (R82): made lists the zones in which that event made a handover. -/
def State.settleHandovers (s : State) (made : List Nat) : State := made.foldl State.settleZone s

/-! ## Sources lost and regained -/

/-- A layer of zone z on the loss of a source at t (R97). -/
def State.lossLayer (s : State) (source : Nat) (t : Int) (z : Nat) (l : Layer) : Layer :=
  match l.mode with
  | .follow src .toFallback fallback fade .tracking =>
      if src = source then
        { l with mode := .follow src .toFallback fallback fade .fallen, fadeFrom := s.layerValue z l t, fadeStart := t,
                 fadeDuration := fade }
      else l
  | _ => l

/-- A layer of zone z on the return of a source at t (R98). -/
def State.returnLayer (s : State) (source : Nat) (t : Int) (z : Nat) (l : Layer) : Layer :=
  match l.mode with
  | .follow src policy fallback fade sub =>
      if src = source ∧ (sub = .fallen ∨ policy = .holdLast) then
        { l with mode := .follow src policy fallback fade .tracking, fadeFrom := s.layerValue z l t, fadeStart := t,
                 fadeDuration := fade }
      else l
  | .look _ => l

/-- Changes every layer of every zone. -/
def State.mapLayers (s : State) (f : Nat → Layer → Layer) : State :=
  s.withMixer { s.mixer with
    zones := Table.mapVals .blank
      (fun z r => { r with layers := Table.mapVals none (fun _ l => l.map (f z)) r.layers }) s.mixer.zones }

/-- The loss of a source, "taken for all layers bound to s at the one instant t, in every zone" (R97). -/
def State.sourceLoss (s : State) (source : Nat) : State := s.mapLayers (s.lossLayer source s.now)

/-- The return of a source (R98). -/
def State.sourceReturn (s : State) (source : Nat) : State := s.mapLayers (s.returnLayer source s.now)

/-! ## House looks -/

/-- Sets the house look of the zones of a range (R83). -/
def State.setHouseLooks (s : State) (first count : Nat) (l : Look) : State :=
  (zoneRange first count).foldl (fun s z => s.setZone z { s.zone z with house := l }) s

end Sys2Proof.Machine
end

