-- ==== Sys2Proof/Machine/Operands.lean ====
section
/-! DEFINITION. The operand forms of the requests: identities and their ranges, quantities and their clamps
(R169, R170), for each record a request carries. -/

namespace Sys2Proof.Machine

/-- A zone range lies within the 240 zones (R48, R83). -/
def zonesFit (first count : Nat) : Bool :=
  decide (first ≤ 239) && decide (1 ≤ count) && decide (count ≤ 240) && decide (first + count ≤ 240)

/-- A patch run stays within channel 383 and zone 239 (R133, R155). -/
def runFits (firstChannel zoneFirst zoneCount : Nat) : Bool :=
  decide (firstChannel + 3 * zoneCount ≤ 384) && decide (zoneFirst + zoneCount ≤ 240)

/-- The members of a set of lanes, ascending. -/
def lanesOf (set : Nat) : List Nat := laneNumbers.filter (fun l => set.testBit l)

/-- A set of lanes names none above 23 (R153, R154). -/
def lanesInRange (set : Nat) : Bool := set < 16777216

/-- A look with each component clamped to 4095 (R50, R83). -/
def clampLook (l : Look) : Look := ⟨clamp 0 4095 l.red, clamp 0 4095 l.green, clamp 0 4095 l.blue⟩

/-- The calendar entry that a write gives, or none when a field lies outside its range (R19, R21, R199). -/
def calendarEntryOf (f : CalendarArgs) : Option CalendarEntry :=
  if f.firstDate ≤ 36524 ∧ f.lastDate ≤ 36524 ∧ f.weekdays < 128 ∧ f.start < msPerDay
      ∧ f.endAt.all (· < msPerDay) ∧ f.step.all (fun n => decide (1 ≤ n) && decide (n ≤ 366))
      ∧ f.showNo ≤ 63 ∧ f.priority ≤ 7 ∧ f.strayFlags = false then
    some ⟨.set, f.firstDate, f.lastDate, f.weekdays, f.start, f.endAt, f.step, f.showNo, f.priority, f.once, none⟩
  else none

/-- A cue record is stored as the kind uses its fields, its quantities clamped; the flag says whether any quantity
that the kind uses was clamped. none: the kind, or a loss policy or curve the kind uses, has no meaning, or the cue
flags are not 0 (R49, R50, R199). -/
def cueRecordOf (a : CueArgs) : Option (CueRecord × Bool) :=
  let lookClamped := clamps 0 4095 a.look.red || clamps 0 4095 a.look.green || clamps 0 4095 a.look.blue
  let fadeClamped := clamps 0 600000 a.fade
  let fade := clamp 0 600000 a.fade
  if a.strayFlags then none
  else
    match a.kind with
    | none => none
    | some .look =>
        match a.curve with
        | some c => some (⟨a.offset, .look a.zoneFirst a.zoneCount (clampLook a.look) fade c⟩, lookClamped || fadeClamped)
        | none => none
    | some .follow =>
        match a.curve, a.policy with
        | some c, some p =>
            some (⟨a.offset, .follow a.zoneFirst a.zoneCount (clampLook a.look) a.source p fade c⟩,
              lookClamped || fadeClamped)
        | _, _ => none
    | some .release => some (⟨a.offset, .release a.zoneFirst a.zoneCount⟩, false)
    | some .master =>
        some (⟨a.offset, .master (clamp 0 4096 a.master) fade⟩, clamps 0 4096 a.master || fadeClamped)
    | some .hold => some (⟨a.offset, .hold (clamp 0 3600 a.holdLimit)⟩, clamps 0 3600 a.holdLimit)
    | some .finish => some (⟨a.offset, .finish fade⟩, fadeClamped)

/-- The records of a WRITE_CUES, each as cueRecordOf gives it; none when any of them is none. -/
def cueRecords : List CueArgs → Option (List (CueRecord × Bool))
  | [] => some []
  | a :: as =>
      match cueRecordOf a, cueRecords as with
      | some r, some rs => some (r :: rs)
      | _, _ => none

/-- The input patch entry that a write gives, or none when a field lies outside its range or the run of a present
entry passes channel 383 or zone 239 (R133, R134). -/
def inputEntryOf (f : InputPatchArgs) : Option InputEntry :=
  match f.present, f.order with
  | some present, some order =>
      if f.source ≤ 7 ∧ f.sourceLane ≤ 15 ∧ f.firstChannel ≤ 383 ∧ f.zoneFirst ≤ 239 ∧ 1 ≤ f.zoneCount
          ∧ f.zoneCount ≤ 128 ∧ (present → runFits f.firstChannel f.zoneFirst f.zoneCount) then
        some ⟨present, f.source, f.sourceLane, f.firstChannel, f.zoneFirst, f.zoneCount, order⟩
      else none
  | _, _ => none

/-- The output patch entry that a write gives, its gain clamped, or none when another field lies outside its range
or the run of a present entry passes channel 383 or zone 239 (R155, R156). -/
def outputEntryOf (f : OutputPatchArgs) : Option OutputEntry :=
  match f.present, f.order with
  | some present, some order =>
      if f.lane ≤ 23 ∧ f.firstChannel ≤ 383 ∧ f.zoneFirst ≤ 239 ∧ 1 ≤ f.zoneCount ∧ f.zoneCount ≤ 128
          ∧ (present → runFits f.firstChannel f.zoneFirst f.zoneCount) then
        some ⟨present, f.lane, f.firstChannel, f.zoneFirst, f.zoneCount, order, clamp 0 8191 f.gain⟩
      else none
  | _, _ => none

/-- The configuration that a WRITE_LANE gives, with its quantities clamped, or none when the channel count is 0 or
above 384 or a flag has no meaning (R144). -/
def laneConfigOf (f : LaneArgs) : Option LaneConfig :=
  match f.configured, f.curfewExempt, f.autoRest with
  | some configured, some exempt, some rest =>
      if 1 ≤ f.channelCount ∧ f.channelCount ≤ 384 then
        some ⟨configured, f.channelCount, clamp 10 250 f.period, clamp 0 255 f.warmUp, exempt, rest⟩
      else none
  | _, _, _ => none

/-- A quantity of a WRITE_LANE is clamped (R144). -/
def laneClamped (f : LaneArgs) : Bool := clamps 10 250 f.period || clamps 0 255 f.warmUp

/-- A granularity that a REBUILD_AGENDA may name (R29). -/
def requestable : Granularity → Bool
  | .all => true
  | .show s => decide (s ≤ 63)
  | .entry e => decide (e ≤ 95)
  | .resume => false

/-- The range of a setting (R173); the alert mask's is 1 for on and 0 for off. -/
def settingRange : SettingName → Nat × Nat
  | .nodeAddress => (1, 254)
  | .stationAddress => (0, 255)
  | .timekeeperAddress => (0, 254)
  | .preludeLead => (0, 3600)
  | .restDelay => (0, 3600)
  | .handoverTime => (0, 10000)
  | .lateLimit => (0, 14400)
  | .receiptTime => (5, 250)
  | .retryLimit => (0, 7)
  | .alertMask => (0, 1)

/-- The settings of the identity class (R173). -/
def settingIdentity : SettingName → Bool
  | .nodeAddress => true
  | .stationAddress => true
  | .timekeeperAddress => true
  | .preludeLead => false
  | .restDelay => false
  | .handoverTime => false
  | .lateLimit => false
  | .receiptTime => false
  | .retryLimit => false
  | .alertMask => true

/-- The value of a setting (R173). -/
def Settings.value (t : Settings) : SettingName → Nat
  | .nodeAddress => t.nodeAddress
  | .stationAddress => t.stationAddress
  | .timekeeperAddress => t.timekeeperAddress
  | .preludeLead => t.preludeLead
  | .restDelay => t.restDelay
  | .handoverTime => t.handoverTime
  | .lateLimit => t.lateLimit
  | .receiptTime => t.receiptTime
  | .retryLimit => t.retryLimit
  | .alertMask => if t.alertMask then 1 else 0

/-- The settings with one of them stored (R175). -/
def Settings.store (t : Settings) (v : Nat) : SettingName → Settings
  | .nodeAddress => { t with nodeAddress := v }
  | .stationAddress => { t with stationAddress := v }
  | .timekeeperAddress => { t with timekeeperAddress := v }
  | .preludeLead => { t with preludeLead := v }
  | .restDelay => { t with restDelay := v }
  | .handoverTime => { t with handoverTime := v }
  | .lateLimit => { t with lateLimit := v }
  | .receiptTime => { t with receiptTime := v }
  | .retryLimit => { t with retryLimit := v }
  | .alertMask => { t with alertMask := decide (v = 1) }

end Sys2Proof.Machine
end

