-- ==== Sys2Proof/Machine/Lanes.lean ====
section
/-! DEFINITION. The lane controller's operations: the fixture transmit queue, adoption of bank and guard, entering
lane states, wake and rest, composition (R116, R141 to R165). -/

namespace Sys2Proof.Machine

/-! ## The fixture transmit queue -/

/-- s with the waiting frame of lane l replaced. -/
def State.setWaiting (s : State) (l : Nat) (w : Option Waiting) : State :=
  s.withLanes { s.lanes with waiting := Table.write none s.lanes.waiting l w }

/-- A waiting frame is a LANE_LEVELS. -/
def FixtureFrame.isLevels : FixtureFrame → Bool
  | .levels _ _ _ _ => true
  | .setup _ _ _ _ _ => false

/-- Places a frame of lane l in the queue (R151): it joins, or replaces the waiting frame and keeps its age; a
LANE_LEVELS replacing a LANE_LEVELS counts late. -/
def State.placeFrame (s : State) (l : Nat) (f : FixtureFrame) : State :=
  match s.waitingFrame l with
  | none => s.setWaiting l (some ⟨s.now, f⟩)
  | some w =>
      let t := s.setWaiting l (some ⟨w.age, f⟩)
      if w.frame.isLevels && f.isLevels then t.setLane l { s.lane l with late := satInc 65535 (s.lane l).late } else t

/-- The lane whose waiting frame the line takes: lowest age, then lower lane (R152). -/
def State.oldestWaiting (s : State) : Option (Nat × Waiting) :=
  laneNumbers.foldl
    (fun best l =>
      match s.waitingFrame l, best with
      | none, _ => best
      | some w, none => some (l, w)
      | some w, some b => if w.age < b.2.age then some (l, w) else some b)
    none

/-! ## Adoption -/

/-- The lane composes (WARMUP or EMITTING) and so adopts only at its period events (R158, R160). -/
def Lane.composing (r : Lane) : Bool := r.state = .warmup || r.state = .emitting

/-- A lane with the selected bank and the requested guard state adopted (R158, R160). -/
def State.adopted (s : State) (r : Lane) : Lane :=
  { r with bank := s.lanes.selected, guardInUse := s.lanes.requestedGuard }

/-- "if every lane's bank in use equals the selected bank, the output switch status becomes IDLE" (R158). -/
def State.settleSwitch (s : State) : State :=
  if laneNumbers.all (fun l => (s.lane l).bank = s.lanes.selected) then
    s.withLanes { s.lanes with switch := .idle }
  else s

/-- "if every lane's guard in use equals the requested state, the guard status becomes ENABLED for on and DISABLED
for off" (R160). -/
def State.settleGuard (s : State) : State :=
  if laneNumbers.all (fun l => (s.lane l).guardInUse = s.lanes.requestedGuard) then
    s.withLanes { s.lanes with guardStatus := if s.lanes.requestedGuard then .enabled else .disabled }
  else s

/-- Both statuses after an adoption (R158, R160). -/
def State.settleLanes (s : State) : State := s.settleSwitch.settleGuard

/-- A lane not in WARMUP or EMITTING adopts (R158, R160). -/
def State.adoptLane (s : State) (l : Nat) : State :=
  if (s.lane l).composing then s else s.setLane l (s.adopted (s.lane l))

/-- Every lane not in WARMUP or EMITTING adopts at once (R158, R160). -/
def State.adoptIdle (s : State) : State := (laneNumbers.foldl State.adoptLane s).settleLanes

/-! ## Entering states -/

/-- Enters OFF, REST or FAULTED: the waiting frame is removed, the timers stop, the lane adopts (R143). -/
def State.toDark (s : State) (l : Nat) (st : LaneState) : State :=
  ((s.setLane l { s.adopted (s.lane l) with state := st, receiptTimer := none, periodTimer := none }).setWaiting l
    none).settleLanes

/-- The LANE_SETUP of a lane's current attempt (R145, R147). -/
def State.setupFrame (s : State) (l : Nat) : FixtureFrame :=
  .setup s.settings.nodeAddress l (s.lane l).setupSequence (s.lane l).config.channelCount (s.lane l).config.period

/-- Enters SETUP: a new attempt begins (R143, R145). -/
def State.toSetup (s : State) (l : Nat) (cold : Bool) : State :=
  let t := s.setLane l
    { s.adopted (s.lane l) with
      state := .setup
      cold := cold
      setupSequence := ((s.lane l).setupSequence + 1) % 16
      retriesLeft := s.settings.retryLimit
      receiptTimer := none
      periodTimer := none }
  (t.placeFrame l (t.setupFrame l)).settleLanes

/-- Leaves SETUP for WARMUP or EMITTING at an ACCEPT (R148): the period timer is started with duration 0. -/
def State.toComposing (s : State) (l : Nat) : State :=
  let r := s.lane l
  let started := { r with frameNumber := 0, receiptTimer := none, periodTimer := some s.now }
  let next : Lane :=
    if r.cold && decide (0 < r.config.warmUp) then
      { started with state := .warmup, warmUpRemaining := r.config.warmUp }
    else { started with state := .emitting, cold := false }
  (s.setLane l next).setWaiting l none

/-! ## Wake and rest -/

/-- The eight guard ranges (R159). -/
def guardNumbers : List Nat := [0, 1, 2, 3, 4, 5, 6, 7]

/-- A range is enabled when its last channel is at or above its first (R159). -/
def Guard.enabled (g : Guard) : Bool := g.first ≤ g.last

/-- An enabled guard range names the lane. -/
def State.rangeNames (s : State) (l : Nat) : Bool :=
  guardNumbers.any (fun i => (s.guardRange i).enabled && decide ((s.guardRange i).lane = l))

/-- The lane is guarded (R153). -/
def State.guarded (s : State) (l : Nat) : Bool :=
  s.rangeNames l && ((s.lane l).guardInUse || s.lanes.requestedGuard)

/-- Wakes a lane that is in REST (R154). -/
def State.wakeLane (s : State) (l : Nat) : State := if (s.lane l).state = .rest then s.toSetup l true else s

/-- Wakes each lane of a list, in lane order, that is in REST (R154). -/
def State.wakeIfResting (s : State) (lanes : List Nat) : State := lanes.foldl State.wakeLane s

/-- Wakes every lane in REST: the wake timer and a playback start (R154). -/
def State.wakeResting (s : State) : State := s.wakeIfResting laneNumbers

/-- Wakes each lane in REST named by an enabled guard range (R154, R160, R164, R165). -/
def State.wakeGuarded (s : State) : State := s.wakeIfResting (laneNumbers.filter s.rangeNames)

/-- The lane is in SETUP, WARMUP or EMITTING. -/
def Lane.active (r : Lane) : Bool := r.state = .setup || r.state = .warmup || r.state = .emitting

/-- A rest request names the lane (R153). -/
def State.restLane (s : State) (l : Nat) : State :=
  if (s.lane l).active && !s.guarded l then s.toDark l .rest else s

/-- A rest request naming each lane of a list, in lane order (R153). -/
def State.restEach (s : State) (lanes : List Nat) : State := lanes.foldl State.restLane s

/-- The lanes a rest request keeps: active and guarded (R153). -/
def State.keptLanes (s : State) (lanes : List Nat) : List Nat :=
  lanes.filter (fun l => (s.lane l).active && s.guarded l)

/-! ## Composition -/

/-- The held value of the enabled guard range of lowest index that covers the channel of the lane (R116, R159). -/
def State.guardValue (s : State) (l c : Nat) : Option Nat :=
  (guardNumbers.find? (fun i =>
    let g := s.guardRange i
    g.enabled && decide (g.lane = l) && decide (g.first ≤ c) && decide (c ≤ g.last))).map
    (fun i => (s.guardRange i).held)

/-- The held value step 1 of R116 gives the channel; none when step 1 does not apply. -/
def State.guardStep (s : State) (l c : Nat) : Option Nat :=
  if (s.lane l).guardInUse then s.guardValue l c else none

/-- The present entry of the lane's bank in use that covers the channel (R116, R155). -/
def State.patchEntry (s : State) (l c : Nat) : Option OutputEntry :=
  ((s.outputBank (s.lane l).bank).find? (fun p =>
    p.2.present && decide (p.2.lane = l) && decide (p.2.firstChannel ≤ c)
      && decide (c < p.2.firstChannel + 3 * p.2.zoneCount))).map (·.2)

/-- The zone value component that an entry places on the channel at the current instant (R116). -/
def State.channelValue (s : State) (e : OutputEntry) (c : Nat) : Nat :=
  let n := c - e.firstChannel
  (s.zoneValue (e.zoneFirst + n / 3) s.now).comp (e.order.comp (n % 3))

/-- The level of an output level under the ceiling (R114). -/
def State.capped (s : State) (l level : Nat) : Nat :=
  if (s.lane l).config.curfewExempt then level else min level s.ceilingInForce

/-- The level emitted on a channel of a lane in EMITTING (R116). -/
def State.channelLevel (s : State) (l c : Nat) : Nat :=
  match s.guardStep l c with
  | some v => v
  | none =>
      match s.patchEntry l c with
      | none => 0
      | some e => s.capped l (outputLevel (s.channelValue e c) e.gain)

/-- The channel clips in this composition (R108, R109). -/
def State.channelClips (s : State) (l c : Nat) : Bool :=
  match s.guardStep l c with
  | some _ => false
  | none =>
      match s.patchEntry l c with
      | none => false
      | some e => clipped (s.channelValue e c) e.gain

/-- The channels of a lane's frame (R150). -/
def State.channels (s : State) (l : Nat) : List Nat := List.range (s.lane l).config.channelCount

/-- The levels of a frame of a lane in WARMUP: guarded channels held, others 0 (R116, R149). -/
def State.warmUpLevels (s : State) (l : Nat) : List Nat := (s.channels l).map (fun c => (s.guardStep l c).getD 0)

/-- The levels of a frame of a lane in EMITTING (R116). -/
def State.emittedLevels (s : State) (l : Nat) : List Nat := (s.channels l).map (s.channelLevel l)

/-- Some channel of the frame clips (R109). -/
def State.frameClips (s : State) (l : Nat) : Bool := (s.channels l).any (s.channelClips l)

/-- A lane after composing a frame: the frame number advances and the period timer restarts (R149, R150). -/
def State.afterFrame (s : State) (r : Lane) : Lane :=
  { r with frameNumber := (r.frameNumber + 1) % 256, periodTimer := some (s.now + r.config.period) }

/-- The lane in WARMUP after its frame (R149). -/
def warmUpStep (r : Lane) : Lane :=
  if r.warmUpRemaining ≤ 1 then { r with warmUpRemaining := 0, state := .emitting, cold := false }
  else { r with warmUpRemaining := r.warmUpRemaining - 1 }

/-- The lane with a clipped frame counted (R109). -/
def clipStep (clips : Bool) (r : Lane) : Lane :=
  if clips then { r with clipFlag := true, clipCount := satInc 65535 r.clipCount } else r

/-- Composes one frame of a lane that has adopted and places it in the queue (R149, R150). -/
def State.composeFrame (s : State) (l : Nat) : State :=
  let r := s.lane l
  if r.state = .warmup then
    (s.setLane l (warmUpStep (s.afterFrame r))).placeFrame l
      (.levels s.settings.nodeAddress l r.frameNumber (s.warmUpLevels l))
  else
    (s.setLane l (clipStep (s.frameClips l) (s.afterFrame r))).placeFrame l
      (.levels s.settings.nodeAddress l r.frameNumber (s.emittedLevels l))

/-! ## Resets -/

/-- A lane at a BLOCK_RESET naming LANES: from SETUP, WARMUP, EMITTING or FAULTED it goes to REST (R165). -/
def State.resetLane (s : State) (l : Nat) : State :=
  if (s.lane l).active || (s.lane l).state = .faulted then s.toDark l .rest else s

/-- BLOCK_RESET naming LANES (R165). -/
def State.blockResetLanes (s : State) : State :=
  let t := laneNumbers.foldl State.resetLane s
  let u := (t.withLanes { t.lanes with waiting := [] }).settleLanes
  if u.lanes.requestedGuard then u.wakeGuarded else u

end Sys2Proof.Machine
end

