-- ==== Sys2Proof/Machine/CueMemory.lean ====
section
/-! DEFINITION. The cue store's operations: runs of cue memory, allocation, validation (R43 to R57). -/

namespace Sys2Proof.Machine

/-- The run of records that belongs to a show, as base index and count (R44). -/
def ShowState.run : ShowState → Option (Nat × Nat)
  | .empty => none
  | .loading base count => some (base, count)
  | .ready base count => some (base, count)

/-- The run of a show that is READY: "validated and playable" (R43). -/
def ShowState.readyRun : ShowState → Option (Nat × Nat)
  | .ready base count => some (base, count)
  | _ => none

/-- The runs of all shows (R44). -/
def State.runs (s : State) : List (Nat × Nat) := s.cueStore.shows.filterMap (fun p => p.2.state.run)

/-- Records base through base + n - 1 exist and are all free (R44). -/
def isFreeRun (runs : List (Nat × Nat)) (base n : Nat) : Bool :=
  decide (base + n ≤ 4096) && runs.all (fun r => decide (base + n ≤ r.1) || decide (r.1 + r.2 ≤ base))

/-- The places at which the lowest free run of a length can begin: record 0, or just after a run. -/
def runCandidates (runs : List (Nat × Nat)) : List Nat := 0 :: runs.map (fun r => r.1 + r.2)

/-- The lowest of a list of indices. -/
def lowest : List Nat → Option Nat
  | [] => none
  | a :: as => some (as.foldl min a)

/-- An allocation of n records: the free run of length n with the lowest base (R44). -/
def allocate (runs : List (Nat × Nat)) (n : Nat) : Option Nat :=
  lowest ((runCandidates runs).filter (fun b => isFreeRun runs b n))

/-- The number of free records (R54): those that lie in no run. -/
def freeRecords (runs : List (Nat × Nat)) : Nat := (List.range 4096).countP (fun i => isFreeRun runs i 1)

/-- The length of the free run that begins at a record: up to the next run that holds a record, or to the end of cue
memory. -/
def freeLength (runs : List (Nat × Nat)) (base : Nat) : Nat :=
  if runs.any (fun r => decide (r.1 ≤ base) && decide (base < r.1 + r.2)) then 0
  else (runs.foldl (fun e r => if base ≤ r.1 ∧ 0 < r.2 then min e r.1 else e) 4096) - base

/-- The longest free run: its length and lowest base; none when there is no free record (R54). -/
def longestFree (runs : List (Nat × Nat)) : Option (Nat × Nat) :=
  (runCandidates runs).foldl
    (fun best b =>
      let n := freeLength runs b
      if n = 0 then best
      else
        match best with
        | none => some (n, b)
        | some (m, c) => if m < n ∨ (m = n ∧ b < c) then some (n, b) else best)
    none

/-- The index lies in a run. -/
def inRun (base count i : Nat) : Bool := decide (base ≤ i) && decide (i < base + count)

/-- A show becomes LOADING with a new run, its written marks clear (R46, R47). -/
def State.allocateShow (s : State) (sh base count : Nat) : State :=
  s.withCueStore
    { shows := Table.write .blank s.cueStore.shows sh { s.showRecord sh with state := .loading base count }
      cues := Table.keep (fun i => !inRun base count i) s.cueStore.cues }

/-- Writes records from index i of cue memory on, each with its written mark (R50). -/
def State.writeCueRecords (s : State) (i : Nat) (rs : List CueRecord) : State :=
  s.withCueStore { s.cueStore with
    cues := (rs.foldl (fun p r => (Table.write none p.1 p.2 (some r), p.2 + 1)) (s.cueStore.cues, i)).1 }

/-- The zone range of a cue, for the kinds that have one (R48). -/
def Cue.zones : Cue → Option (Nat × Nat)
  | .look z n _ _ _ => some (z, n)
  | .follow z n _ _ _ _ _ => some (z, n)
  | .release z n => some (z, n)
  | .master _ _ => none
  | .hold _ => none
  | .finish _ => none

/-- The source of a FOLLOW cue. -/
def Cue.source : Cue → Option Nat
  | .follow _ _ _ src _ _ _ => some src
  | _ => none

/-- The reason for which a record is bad, given the record before it (R51). -/
def badReason (previous : Option CueRecord) : Option CueRecord → Option BadReason
  | none => some .notWritten
  | some r =>
      if 14400000 < r.offset then some .offsetRange
      else if previous.any (fun p => decide (r.offset < p.offset)) then some .offsetOrder
      else if (r.cue.zones).any (fun z => !zonesFit z.1 z.2) then some .zoneRange
      else if r.cue.source.any (fun src => decide (7 < src)) then some .sourceRange
      else none

/-- The record before index i of a run; none for index 0. -/
def State.cueBefore (s : State) (base i : Nat) : Option CueRecord := if i = 0 then none else s.cue (base + i - 1)

/-- The first bad record of a show's run with its reason (R51). -/
def State.firstBad (s : State) (base count : Nat) : Option (Nat × BadReason) :=
  (List.range count).findSome? (fun i =>
    (badReason (s.cueBefore base i) (s.cue (base + i))).map (fun reason => (i, reason)))

/-- The number of a run's records whose written mark is set (R54). -/
def State.writtenCount (s : State) (base count : Nat) : Nat :=
  (List.range count).countP (fun i => (s.cue (base + i)).isSome)

/-- The show is READY (R55). -/
def State.showReady (s : State) (sh : Nat) : Bool := (s.showRecord sh).state.readyRun.isSome

/-- The cue at an index of a READY show (R55). -/
def State.showCue (s : State) (sh i : Nat) : Option CueRecord :=
  match (s.showRecord sh).state.readyRun with
  | some (base, count) => if i < count then s.cue (base + i) else none
  | none => none

/-- The cue count of a READY show. -/
def State.cueCount (s : State) (sh : Nat) : Nat :=
  match (s.showRecord sh).state.readyRun with
  | some (_, count) => count
  | none => 0

/-- A slot started event: the playing count rises (R45). -/
def State.slotStarted (s : State) (sh : Nat) : State :=
  s.setShow sh { s.showRecord sh with playing := (s.showRecord sh).playing + 1 }

/-- A slot freed event: the playing count falls (R45). -/
def State.slotFreed (s : State) (sh : Nat) : State :=
  s.setShow sh { s.showRecord sh with playing := (s.showRecord sh).playing - 1 }

end Sys2Proof.Machine
end

