-- ==== Sys2Proof/Machine/Slots.lean ====
section
/-! DEFINITION. The playback engine's operations: instants of a slot, release, cue execution, starts (R58 to R81). -/

namespace Sys2Proof.Machine

/-! ## Instants -/

/-- The show time of a slot at an instant (R60). -/
def Playback.showTime (p : Playback) (t : Int) : Int :=
  match p.phase with
  | .holding start _ => t - p.runStart - p.held - (t - start)
  | _ => t - p.runStart - p.held

/-- The due instant of a cue of the slot's show (R60). -/
def Playback.dueInstant (p : Playback) (c : CueRecord) : Int := p.runStart + p.held + c.offset

/-- The next cue of a RUNNING slot (R60). -/
def State.nextCue (s : State) (p : Playback) : Option CueRecord :=
  match p.phase with
  | .running => s.showCue p.showNo p.nextCue
  | _ => none

/-- The next-cue instant of a slot (R60). -/
def State.nextCueInstant (s : State) (p : Playback) : Option Int := (s.nextCue p).map p.dueInstant

/-- The hold expiry, absent with a limit of 0 (R61, R71). -/
def holdExpiry (start : Int) (limit : Nat) : Option Int :=
  if limit = 0 then none else some (start + 1000 * limit)

/-- The instant has been reached. -/
def State.reached (s : State) (i : Option Int) : Bool :=
  match i with
  | some i => decide (i ≤ s.instant)
  | none => false

/-! ## Release -/

/-- The all-free event starts the rest timer (R39, R75). -/
def State.allFreeEvent (s : State) : State :=
  if s.allFree then s.withCalendar { s.calendar with restTimer := some (s.now + 1000 * s.settings.restDelay) } else s

/-- Releases a slot (R75). -/
def State.release (s : State) (k : Nat) : State :=
  match s.slot k with
  | none => s
  | some p => (((s.dropLayers k).setSlot k none).slotFreed p.showNo).allFreeEvent

/-! ## Cue execution -/

/-- A slot that resumes at r from a hold begun at start (R74). -/
def Playback.resumed (p : Playback) (start r : Int) : Playback :=
  { p with phase := .running, held := p.held + (r - start) }

/-- A MASTER cue, or SET_MASTER, at d (R70, R78). -/
def Playback.fadeMaster (p : Playback) (d : Int) (level fade : Nat) : Playback :=
  { p with master := ⟨d, fade, p.master.value d, level⟩ }

/-- A slot that begins to end at d with a fade (R72, R77). -/
def Playback.ended (p : Playback) (d : Int) (fade : Nat) : Playback :=
  { p.fadeMaster d 0 fade with phase := .ending (d + fade) }

/-- A slot becomes ENDING at d, and is released at once when its release instant has passed (R72, R77). -/
def State.endSlot (s : State) (k : Nat) (p : Playback) (d : Int) (fade : Nat) : State :=
  let t := s.setSlot k (some (p.ended d fade))
  if d + fade ≤ s.instant then t.release k else t

/-- A HOLD cue at d: HOLDING, or resumed at once when its limit has passed (R71, R73). -/
def State.holdSlot (s : State) (k : Nat) (p : Playback) (d : Int) (limit : Nat) : State :=
  match holdExpiry d limit with
  | some r =>
      if r ≤ s.instant then s.setSlot k (some (p.resumed d r))
      else s.setSlot k (some { p with phase := .holding d limit })
  | none => s.setSlot k (some { p with phase := .holding d limit })

/-- Executes one cue of slot k at its due instant d; p has already advanced past it (R68 to R72). -/
def State.executeCue (s : State) (k : Nat) (p : Playback) (d : Int) : Cue → State
  | .look z n l fade curve => (s.setSlot k (some p)).cueZones k p d (.look l) fade curve z n
  | .follow z n fallback src policy fade curve =>
      (s.setSlot k (some p)).cueZones k p d (.follow src policy fallback fade (followSubstate (s.source src).state))
        fade curve z n
  | .release z n => (s.setSlot k (some p)).releaseZones k d z n
  | .master target fade => s.setSlot k (some (p.fadeMaster d target fade))
  | .hold limit => s.holdSlot k p d limit
  | .finish fade => s.endSlot k p d fade

/-- Cue execution in slot k, at most n cues (R68): every cue whose due instant has come, in list order. made gathers
the zones in which the run makes a handover (R82). -/
def runCues : Nat → Nat → List Nat → State → State × List Nat
  | 0, _, made, s => (s, made)
  | n + 1, k, made, s =>
      match s.slot k with
      | none => (s, made)
      | some p =>
          match s.nextCue p with
          | none => (s, made)
          | some c =>
              if p.dueInstant c ≤ s.instant then
                runCues n k (made ++ s.cueMakes k c.cue)
                  (s.executeCue k { p with nextCue := p.nextCue + 1 } (p.dueInstant c) c.cue)
              else (s, made)

/-- A cue execution run of slot k: one cue at most for each record of its show; then the handovers that the run
made and that have already ended are removed (R68, R82). -/
def State.cueExecution (s : State) (k : Nat) : State :=
  match s.slot k with
  | none => s
  | some p =>
      let run := runCues (s.cueCount p.showNo) k [] s
      run.1.settleHandovers run.2

/-- A HOLDING slot resumes at r (R74). -/
def State.resumeSlot (s : State) (k : Nat) (p : Playback) (start r : Int) : State :=
  (s.setSlot k (some (p.resumed start r))).cueExecution k

/-! ## Starts -/

/-- A start request (R32, R62); lateness and end as the calendar engine gives them. -/
structure StartRequest where
  showNo : Nat
  priority : Nat
  origin : Origin
  lateness : Nat
  endInstant : Option Int
deriving DecidableEq, Repr

/-- The slot a start makes of a FREE one (R66). -/
def State.startedSlot (s : State) (q : StartRequest) : Playback :=
  let start : Int := s.instant - q.lateness
  ⟨.running, q.showNo, q.origin, q.priority, start, 0, 0, q.endInstant, ⟨start, 0, 4096, 4096⟩⟩

/-- A start is made in slot k (R66). -/
def State.startInSlot (s : State) (k : Nat) (q : StartRequest) : State :=
  let t := (s.setSlot k (some (s.startedSlot q))).slotStarted q.showNo
  ((t.withCalendar { t.calendar with restTimer := none }).wakeResting).cueExecution k

/-- Of two slots of which b has the higher number, the better victim: lowest priority, earliest run start, lowest
number (R64). -/
def weaker (a b : Nat × Playback) : Nat × Playback :=
  if b.2.priority < a.2.priority ∨ (b.2.priority = a.2.priority ∧ b.2.runStart < a.2.runStart) then b else a

/-- The lowest-numbered FREE slot (R64). -/
def State.freeSlot (s : State) : Option Nat := slotNumbers.find? (fun k => (s.slot k).isNone)

/-- The victim of a start of the given priority (R64). -/
def State.victim (s : State) (priority : Nat) : Option (Nat × Playback) :=
  slotNumbers.foldl
    (fun best k =>
      match s.slot k, best with
      | none, _ => best
      | some p, none => if p.priority < priority then some (k, p) else none
      | some p, some b => if p.priority < priority then some (weaker b (k, p)) else some b)
    none

/-- Where a start goes (R64, R65). -/
inductive SlotChoice where
  | free (k : Nat)
  | preempt (k : Nat) (p : Playback)
  | refused
deriving DecidableEq, Repr

/-- Slot choice (R64, R65). -/
def State.chooseSlot (s : State) (priority : Nat) : SlotChoice :=
  match s.freeSlot with
  | some k => .free k
  | none =>
      match s.victim priority with
      | some (k, p) => .preempt k p
      | none => .refused

/-- The subject of a NO_SLOT fault (R65). -/
def Origin.subject : Origin → Option Nat
  | .entry e => some e
  | .manual => none

/-- A start that has passed its checks takes a slot, or records NO_SLOT (R64 to R66). -/
def State.placeStart (s : State) (q : StartRequest) : State :=
  match s.chooseSlot q.priority with
  | .free k => s.startInSlot k q
  | .preempt k _ => (s.release k).startInSlot k q
  | .refused => s.recordFault (.noSlot q.origin.subject)

/-- The end instant of a calendar start (R63). -/
def endInstantOf (runStart : Int) (startMs : Nat) (endAt : Option Nat) : Option Int :=
  endAt.map (fun e => runStart + (e - startMs : Int) + (if e ≤ startMs then (msPerDay : Int) else 0))

/-- A non-FREE slot carries the entry as its origin (R62). -/
def State.entryPlays (s : State) (e : Nat) : Bool :=
  slotNumbers.any (fun k => (s.slot k).any (fun p => decide (p.origin = .entry e)))

/-- A calendar start request: duplicates, expired starts, then slot choice (R62 to R66). -/
def State.calendarStart (s : State) (it : AgendaItem) (lateness : Nat) : State :=
  let fin := endInstantOf (s.instant - lateness) it.instant.ms it.endAt
  if s.entryPlays it.entry then
    s.withPlayback { s.playback with duplicateStarts := satInc 255 s.playback.duplicateStarts }
  else if fin.any (fun f => decide (f ≤ s.instant)) then
    s.withPlayback { s.playback with expiredStarts := satInc 255 s.playback.expiredStarts }
  else s.placeStart ⟨it.showNo, it.priority, .entry it.entry, lateness, fin⟩

/-- BLOCK_RESET naming PLAYBACK: releases every non-FREE slot in slot order (R81, R102). -/
def State.blockResetPlayback (s : State) : State := slotNumbers.foldl State.release s

end Sys2Proof.Machine
end

