-- ==== Sys2Proof/Machine/Agenda.lean ====
section
/-! DEFINITION. The calendar engine's operations: matching, builds, rebuild requests, firing, the wake timer and the
time events (R19 to R42). -/

namespace Sys2Proof.Machine

/-! ## Matching and order -/

/-- A date matches an entry (R20). -/
def CalendarEntry.matchesDay (e : CalendarEntry) (d : Nat) : Bool :=
  decide (e.state = .set) && decide (e.firstDate ≤ d) && decide (d ≤ e.lastDate) && e.weekdays.testBit ((d + 5) % 7)
    && e.step.all (fun n => decide ((d - e.firstDate) % n = 0))

/-- Agenda order: ascending instant, descending priority, ascending entry index (R23). -/
def AgendaItem.before (a b : AgendaItem) : Bool :=
  decide (a.instant.abs < b.instant.abs)
    || (decide (a.instant.abs = b.instant.abs)
        && (decide (b.priority < a.priority) || (decide (a.priority = b.priority) && decide (a.entry < b.entry))))

/-- Two items share both entry index and scheduled instant (R23). -/
def AgendaItem.sameStart (a b : AgendaItem) : Bool := decide (a.entry = b.entry) && decide (a.instant = b.instant)

/-- Puts an item in its place in a list in agenda order. -/
def insertItem (it : AgendaItem) : List AgendaItem → List AgendaItem
  | [] => [it]
  | a :: as => if it.before a then it :: a :: as else a :: insertItem it as

/-- Adds a result of a build as an item, unless the list holds the same start (R23, R27). -/
def addItem (agenda : List AgendaItem) (it : AgendaItem) : List AgendaItem :=
  if agenda.any it.sameStart then agenda else insertItem it agenda

/-! ## The wake timer -/

/-- The head as the manual's item: entry, scheduled instant, show, priority (R23). -/
def CalendarEngine.head (c : CalendarEngine) : Option (Nat × TowerTime × Nat × Nat) :=
  c.agenda.head?.map (fun it => (it.entry, it.instant, it.showNo, it.priority))

/-- The wake timer as recomputed (R38): S - P - T from now, at least 0; stopped with no head or no tower time. -/
def State.wakeTimerFor (s : State) : Option Nat :=
  match s.calendar.agenda.head?, s.towerTime with
  | some it, some t => some (s.now + (it.instant.abs - 1000 * s.settings.preludeLead - t.abs))
  | _, _ => none

/-- Recomputes the wake timer (R38). -/
def State.recomputeWake (s : State) : State := s.withCalendar { s.calendar with wakeTimer := s.wakeTimerFor }

/-- Recomputes the wake timer if the head differs from the one given (R30, R38). -/
def State.recomputeIfHead (s : State) (head : Option (Nat × TowerTime × Nat × Nat)) : State :=
  if s.calendar.head = head then s else s.recomputeWake

/-! ## Builds -/

/-- The entry is scanned, or the item of the entry replaced, by a build of the scope (R26). -/
def covers (g : Granularity) (entry showNo : Nat) : Bool :=
  match g with
  | .all => true
  | .resume => true
  | .show s => decide (showNo = s)
  | .entry e => decide (entry = e)

/-- The scope a request begins with: SHOW and ENTRY are performed as ALL while the agenda holds 24 items (R26). -/
def State.widened (s : State) (g : Granularity) : Granularity :=
  match g with
  | .show sh => if 24 ≤ s.calendar.agenda.length then .all else .show sh
  | .entry e => if 24 ≤ s.calendar.agenda.length then .all else .entry e
  | .all => .all
  | .resume => .resume

/-- The lower bound of a build's window (R26). -/
def State.lowerBound (s : State) (g : Granularity) (t : TowerTime) : TowerTime :=
  match g with
  | .resume => .ofAbs (t.abs - 1000 * s.settings.lateLimit)
  | _ => t

/-- The upper bound of a build's window, exclusive: 01:00 of the following day (R26). -/
def upperBound (t : TowerTime) : TowerTime := ⟨t.day + 1, 3600000⟩

/-- The dates a build examines (R26). -/
def buildDates (lower : TowerTime) (day : Nat) : List Nat :=
  ((List.range (day + 2 - lower.day)).map (lower.day + ·)).filter (fun d => decide (d ≤ lastDay))

/-- The result of one entry on one date, kept within the window (R26). -/
def resultOn (lower upper : TowerTime) (e : Nat) (c : CalendarEntry) (d : Nat) : Option AgendaItem :=
  let instant : TowerTime := ⟨d, c.start⟩
  if c.matchesDay d && decide (lower.abs ≤ instant.abs) && decide (instant.abs < upper.abs) then
    some ⟨e, instant, c.showNo, c.priority, c.endAt⟩
  else none

/-- The results of a build from the entries as they stand (R26). -/
def State.buildResults (s : State) (g : Granularity) (lower upper : TowerTime) (day : Nat) : List AgendaItem :=
  s.calendar.entries.flatMap (fun p =>
    if covers g p.1 p.2.showNo then (buildDates lower day).filterMap (resultOn lower upper p.1 p.2) else [])

/-- The build that a request of a scope begins at tower time t (R26). -/
def State.newBuild (s : State) (g : Granularity) (t : TowerTime) : Build :=
  let scope := s.widened g
  let lower := s.lowerBound scope t
  ⟨scope, lower, upperBound t, s.buildResults scope lower (upperBound t) t.day, [], s.now⟩

/-- A request begins as a build, with nothing pending (R26, R28); "a build begins with tower time present", and
without it no build is in flight. -/
def State.beginBuild (s : State) (g : Granularity) : State :=
  match s.towerTime with
  | some t => s.withCalendar { s.calendar with state := .building (s.newBuild g t) none }
  | none => s.withCalendar { s.calendar with state := .stale }

/-- The pending slot after a request meets it (R28). -/
def mergePending : Option Granularity → Granularity → Granularity
  | none, g => g
  | some p, g => if p = g then p else .all

/-- A rebuild request is taken (R28). -/
def State.rebuildRequest (s : State) (g : Granularity) : State :=
  match s.calendar.state with
  | .building b pending => s.withCalendar { s.calendar with state := .building b (some (mergePending pending g)) }
  | .stale => s.beginBuild g
  | .current => s.beginBuild g

/-! ## Firing -/

/-- Steps 1 to 3 of a firing (R30). -/
def State.fireEntry (s : State) (it : AgendaItem) : State :=
  let e := s.entry it.entry
  s.withCalendar
    { s.calendar with
      entries := Table.write .blank s.calendar.entries it.entry
        { e with lastFired := some it.instant, state := if e.once then .spent else e.state }
      agenda := s.calendar.agenda.filter (fun a =>
        !a.sameStart it && !(e.once && decide (a.entry = it.entry))) }

/-- Step 4 of a firing: the lateness decides (R31). -/
def State.offerStart (s : State) (it : AgendaItem) (lateness : Nat) : State :=
  if 1000 * s.settings.lateLimit < lateness then s.recordFault (.missedStart it.entry)
  else if s.showReady it.showNo then s.calendarStart it lateness
  else s.recordFault (.showNotReady it.entry)

/-- Fires an item, unless it has left the agenda meanwhile (R30, R31). -/
def State.fireItem (s : State) (it : AgendaItem) : State :=
  match s.towerTime with
  | none => s
  | some t =>
      if s.calendar.agenda.any it.sameStart then (s.fireEntry it).offerStart it (t.abs - it.instant.abs) else s

/-- Fires items in agenda order, then recomputes the wake timer if the head changed (R30). -/
def State.fireItems (s : State) (items : List AgendaItem) : State :=
  (items.foldl State.fireItem s).recomputeIfHead s.calendar.head

/-- The items with an instant after the first point and at or before the second (R4, R34). -/
def State.itemsBetween (s : State) (old new : TowerTime) : List AgendaItem :=
  s.calendar.agenda.filter (fun it => decide (old.abs < it.instant.abs) && decide (it.instant.abs ≤ new.abs))

/-- The items at or before a point (R27). -/
def State.itemsUpTo (s : State) (t : TowerTime) : List AgendaItem :=
  s.calendar.agenda.filter (fun it => decide (it.instant.abs ≤ t.abs))

/-! ## Completion of a build -/

/-- A result remains: its entry was not written since, it lies after the entry's last fired, the entry is not SPENT
(R27, steps 1 and 2). -/
def State.resultRemains (s : State) (b : Build) (it : AgendaItem) : Bool :=
  !b.discarded.contains it.entry && (s.entry it.entry).lastFired.all (fun t => decide (t.abs < it.instant.abs))
    && decide ((s.entry it.entry).state ≠ .spent)

/-- The agenda that a build leaves before truncation (R27, step 3). -/
def State.mergedAgenda (s : State) (b : Build) : List AgendaItem :=
  (b.results.filter (s.resultRemains b)).foldl addItem
    (s.calendar.agenda.filter (fun it => !covers b.scope it.entry it.showNo))

/-- Steps 3 to 5 of a completion (R27). -/
def State.installBuild (s : State) (b : Build) : State :=
  let agenda := s.mergedAgenda b
  let t := s.withCalendar { s.calendar with
    agenda := agenda.take 24, truncated := decide (24 < agenda.length), lastActual := some b.scope }
  if 24 < agenda.length then t.recordFault .agendaFull else t

/-- Step 6 of a completion: every item at or before the current tower time fires (R27). -/
def State.firePast (s : State) : State :=
  match s.towerTime with
  | some t => s.fireItems (s.itemsUpTo t)
  | none => s

/-- Step 7 of a completion: the pending request begins, or the state becomes CURRENT (R27). -/
def State.nextBuild (s : State) (pending : Option Granularity) : State :=
  match pending with
  | some g => s.beginBuild g
  | none => s.withCalendar { s.calendar with state := .current }

/-- A build completes (R27). -/
def State.completeBuild (s : State) (b : Build) (pending : Option Granularity) : State :=
  (((s.installBuild b).firePast).nextBuild pending).recomputeIfHead s.calendar.head

/-- The agenda state as reported (R24). -/
def AgendaState.phase : AgendaState → AgendaPhase
  | .stale => .stale
  | .current => .current
  | .building _ _ => .building

/-! ## Writes and time events -/

/-- An entry is written or cleared (R21): steps 1 to 4, with e the entry it becomes. -/
def State.replaceEntry (s : State) (i : Nat) (e : CalendarEntry) : State :=
  let state : AgendaState :=
    match s.calendar.state with
    | .current => .stale
    | .stale => .stale
    | .building b pending =>
        .building { b with discarded := if b.discarded.contains i then b.discarded else i :: b.discarded }
          (some (mergePending pending (.entry i)))
  (s.withCalendar
    { s.calendar with
      entries := Table.write .blank s.calendar.entries i e
      agenda := s.calendar.agenda.filter (fun a => decide (a.entry ≠ i))
      state := state }).recomputeIfHead s.calendar.head

/-- A time-loss event (R37). -/
def State.timeLossEvent (s : State) : State :=
  s.withCalendar { s.calendar with agenda := [], state := .stale, wakeTimer := none }

/-- A clock-set event (R33). -/
def State.clockSetEvent (s : State) : State := (s.beginBuild .resume).recomputeWake

/-- A rebuild of the whole agenda when the day number has changed (R34, R35). -/
def State.rebuildIfNewDay (s : State) (old new : TowerTime) : State :=
  if old.day = new.day then s else s.rebuildRequest .all

/-- A time-step event (R34, R35). -/
def State.timeStepEvent (s : State) (old new : TowerTime) : State :=
  ((s.fireItems (s.itemsBetween old new)).rebuildIfNewDay old new).recomputeWake

/-- A midnight event (R36). -/
def State.midnightEvent (s : State) : State := s.rebuildRequest .all

/-- BLOCK_RESET naming CALENDAR (R42). -/
def State.blockResetCalendar (s : State) : State :=
  s.withCalendar { s.calendar with agenda := [], state := .stale, truncated := false, wakeTimer := none }

end Sys2Proof.Machine
end

