-- ==== Sys2Proof/Machine/Clock.lean ====
section
/-! DEFINITION. The time unit's operations: the advance, slewing, slew or step, loss of tower time (R1 to R18). -/

namespace Sys2Proof.Machine

/-- The largest value of the run clock (R1). -/
def lastInstant : Nat := 281474976710655

/-- Tower time replaced, the clock state kept; absent stays absent (R7). -/
def TowerClock.retime (c : TowerClock) (t : TowerTime) : TowerClock :=
  match c with
  | .unset => .unset
  | .locked _ => .locked t
  | .freewheel _ => .freewheel t

/-- LOCKED becomes FREEWHEEL, tower time kept (R11, R16). -/
def TowerClock.freewheeling : TowerClock → TowerClock
  | .unset => .unset
  | .locked t => .freewheel t
  | .freewheel t => .freewheel t

/-- LOCKED, tower time kept (R9); UNSET has none to keep. -/
def TowerClock.locking : TowerClock → TowerClock
  | .unset => .unset
  | .locked t => .locked t
  | .freewheel t => .locked t

/-- The run clock advances by 1 (R1). After 2^48 - 1 its value is not stated: a free value (log entry 2). -/
def State.countRunClock (s : State) : State :=
  if s.now = lastInstant then
    (s.withTime { s.time with runClock := (Config.runClockAfterLast s.freeCount).toNat }).withFreeCount (s.freeCount + 1)
  else s.withTime { s.time with runClock := s.now + 1 }

/-- The advance to the current instant is a slewed one (R10). -/
def State.slewed (s : State) : Bool := decide (s.now % 50 = 0) && decide (s.time.remainder ≠ 0)

/-- How far tower time moves at an advance to the current instant (R3, R10). -/
def State.towerStep (s : State) : Nat :=
  if s.slewed then (if 0 < s.time.remainder then 2 else 0) else 1

/-- The remainder after an advance to the current instant (R10). -/
def State.slewedRemainder (s : State) : Int :=
  if s.slewed then (if 0 < s.time.remainder then s.time.remainder - 1 else s.time.remainder + 1) else s.time.remainder

/-- Tower time passes the end of its range (R14). -/
def State.endOfRange (s : State) : State :=
  ((s.withTime { s.time with clock := .unset, remainder := 0, lossTimer := none }).recordFault .timeLost).timeLossEvent

/-- The midnight event of an advance into a new day (R13). -/
def State.midnightIfNewDay (s : State) (old new : TowerTime) : State :=
  if old.day = new.day then s else s.midnightEvent

/-- Tower time moves from one point to the next within its range, with the midnight event of a new day (R3, R10,
R13). -/
def State.moveTower (s : State) (old new : TowerTime) : State :=
  (s.withTime { s.time with clock := s.time.clock.retime new, remainder := s.slewedRemainder }).midnightIfNewDay old new

/-- Tower time is carried from one point to another by an advance: past the end of its range it is discarded;
otherwise it moves, and the items it reaches fire (R3, R4, R10, R13, R14, R30; the order is log entry 7). -/
def State.carryTower (s : State) (old new : TowerTime) : State :=
  if lastDay < new.day then s.endOfRange
  else (s.moveTower old new).fireItems ((s.moveTower old new).itemsBetween old new)

/-- Tower time advances, the run clock having advanced (R3, R10). -/
def State.advanceTower (s : State) : State :=
  match s.towerTime with
  | none => s
  | some t => s.carryTower t (.ofAbs (t.abs + s.towerStep))

/-- The signed difference of R7. -/
def timeDifference (new old : TowerTime) : Int := (new.abs : Int) - (old.abs : Int)

/-- A new time p is applied to tower time t (R7). -/
def State.slewOrStep (s : State) (p t : TowerTime) : State :=
  if (timeDifference p t).natAbs ≤ 200 then s.withTime { s.time with remainder := timeDifference p t }
  else (s.withTime { s.time with clock := s.time.clock.retime p, remainder := 0 }).timeStepEvent t p

/-- Tower time is set from unset, the clock becoming as the cause names (R8). -/
def State.setFromUnset (s : State) (c : TowerClock) : State :=
  (s.withTime { s.time with clock := c, remainder := 0 }).clockSetEvent

/-- A point of tower time lies in its range (R5, R12). -/
def towerTimeFits (day ms : Nat) : Bool := decide (day ≤ lastDay) && decide (ms < msPerDay)

/-- A time frame is rejected as malformed (R5). -/
def State.malformedTime (s : State) : State :=
  s.withTime { s.time with malformedCount := satInc 255 s.time.malformedCount }

/-- The early window rejects a frame now (R6). -/
def State.early (s : State) : Bool := s.time.lastAccepted.any (fun i => decide (s.now < i + 900))

/-- A time frame is rejected as early (R6). -/
def State.rejectEarly (s : State) : State :=
  let t := s.time
  if t.earlyRun + 1 = 3 then
    (s.withTime { t with earlyCount := satInc 255 t.earlyCount, earlyRun := 0 }).recordFault .timeEarly
  else s.withTime { t with earlyCount := satInc 255 t.earlyCount, earlyRun := t.earlyRun + 1 }

/-- The time unit's own state at an accepted frame, before its time is applied (R9). -/
def State.noteAccepted (s : State) (tick : Nat) : State :=
  s.withTime
    { s.time with
      lastAccepted := some s.now
      lastTick := some tick
      earlyRun := 0
      acceptedCount := wrapInc s.time.acceptedCount
      lossTimer := some (s.now + 3000)
      clock := s.time.clock.locking }

/-- A time frame is accepted (R9). -/
def State.acceptTime (s : State) (p : TowerTime) (tick : Nat) : State :=
  match s.towerTime with
  | none => (s.noteAccepted tick).setFromUnset (.locked p)
  | some t => (s.noteAccepted tick).slewOrStep p t

/-- A TIME frame reaches the time unit (R5, R6, R9). -/
def State.deliverTime (s : State) (payload : List Octet) : State :=
  match cutFields [2, 4, 2] payload with
  | some [day, ms, tick] =>
      if !towerTimeFits day ms then s.malformedTime
      else if s.early then s.rejectEarly
      else s.acceptTime ⟨day, ms⟩ tick
  | _ => s.malformedTime

/-- BLOCK_RESET naming TIME (R17). -/
def State.blockResetTime (s : State) : State :=
  let t := s.withTime
    { s.time with
      clock := .unset, remainder := 0, lastAccepted := none, lastTick := none, earlyRun := 0, lossTimer := none }
  if s.towerTime.isSome then t.timeLossEvent else t

end Sys2Proof.Machine
end

