-- ==== Sys2Proof/Machine/Wire.lean ====
section
/-! DEFINITION. Frames as octets: the check word, the common frame, level packing (R198 to R200). -/

namespace Sys2Proof.Machine

/-- One bit of the reflected CRC with generator polynomial 0x04C11DB7 (R200). -/
def crcBit (c : CheckWord) : CheckWord := if c.getLsbD 0 then (c >>> 1) ^^^ 0xEDB88320#32 else c >>> 1

/-- One octet, least significant bit first (R200). -/
def crcOctet (c : CheckWord) (o : Octet) : CheckWord :=
  crcBit (crcBit (crcBit (crcBit (crcBit (crcBit (crcBit (crcBit (c ^^^ o.setWidth 32))))))))

/-- The check word of a sequence of octets (R200). -/
def checkWord (os : List Octet) : CheckWord := ~~~ (os.foldl crcOctet 0xFFFFFFFF#32)

/-- The check word as sent, least significant octet first (R200). -/
def checkOctets (c : CheckWord) : List Octet :=
  [c.extractLsb' 0 8, c.extractLsb' 8 8, c.extractLsb' 16 8, c.extractLsb' 24 8]

/-- An unsigned field of n octets, most significant octet first (12, opening words). -/
def beOctets : Nat → Nat → List Octet
  | 0, _ => []
  | n + 1, v => BitVec.ofNat 8 (v / 256 ^ n) :: beOctets n v

/-- A frame with its header and check word (R198, R199). -/
def frameOctets (cls dest origin : Nat) (payload : List Octet) : List Octet :=
  let body := beOctets 1 cls ++ beOctets 1 dest ++ beOctets 1 origin ++ beOctets 2 payload.length ++ payload
  body ++ checkOctets (checkWord body)

/-- Check 1 of R119: the frame that octets received hold, or none when their number is not 9 plus the payload length
the header carries or the check word differs (R200). -/
def parseFrame (os : List Octet) : Option Frame :=
  match os with
  | c :: d :: o :: l1 :: l0 :: rest =>
      let n := beNat [l1, l0]
      if os.length = 9 + n ∧ checkOctets (checkWord (os.take (5 + n))) = os.drop (5 + n) then
        some ⟨c.toNat, d.toNat, o.toNat, rest.take n⟩
      else none
  | _ => none

/-- Levels packed two to three octets (R199). -/
def packLevels : List Nat → List Octet
  | [] => []
  | [a] => [BitVec.ofNat 8 (a / 16), BitVec.ofNat 8 (a % 16 * 16)]
  | a :: b :: ls =>
      BitVec.ofNat 8 (a / 16) :: BitVec.ofNat 8 (a % 16 * 16 + b / 256) :: BitVec.ofNat 8 (b % 256) :: packLevels ls

/-- c levels out of packed octets; the pad nibble is not examined (R199). -/
def unpackLevels : Nat → List Octet → List Nat
  | 0, _ => []
  | 1, a :: b :: _ => [a.toNat * 16 + b.toNat / 16]
  | n + 2, a :: b :: c :: os =>
      (a.toNat * 16 + b.toNat / 16) :: (b.toNat % 16 * 256 + c.toNat) :: unpackLevels n os
  | _, _ => []

/-- "A count of c levels occupies floor((3c + 1) / 2) octets" (R199). -/
def packedLength (c : Nat) : Nat := (3 * c + 1) / 2

/-- The class codes of the frames the part takes (R198). -/
def classLevel : Nat := 0x01
/-- TIME (R198). -/
def classTime : Nat := 0x02
/-- MGMT_REQ (R198). -/
def classRequest : Nat := 0x03
/-- MGMT_REPLY (R198). -/
def classReply : Nat := 0x04
/-- ALERT (R198). -/
def classAlert : Nat := 0x05
/-- LANE_LEVELS (R198). -/
def classLaneLevels : Nat := 0x11
/-- LANE_SETUP (R198). -/
def classLaneSetup : Nat := 0x12
/-- RECEIPT (R198). -/
def classReceipt : Nat := 0x13

/-- The fields of a LEVEL frame's payload, and whether the frame agrees with its count (R125, R198, R199). -/
structure LevelFields where
  lane : Nat
  sequence : Nat
  firstChannel : Nat
  levels : List Nat
deriving DecidableEq, Repr

/-- The LEVEL frame a payload holds; none when malformed: a source lane above 15, a count of 0, or a payload length
that does not agree with the count (R125). -/
def levelFields (payload : List Octet) : Option LevelFields :=
  match payload with
  | l :: q :: f1 :: f0 :: c1 :: c0 :: os =>
      let count := beNat [c1, c0]
      if l.toNat ≤ 15 ∧ 1 ≤ count ∧ os.length = packedLength count then
        some ⟨l.toNat, q.toNat, beNat [f1, f0], unpackLevels count os⟩
      else none
  | _ => none

/-- The octets of a frame of the fixture transmit queue (R198, R199). -/
def fixtureOctets : FixtureFrame → List Octet
  | .levels origin lane number levels =>
      frameOctets classLaneLevels 255 origin
        (beOctets 1 lane ++ beOctets 1 number ++ beOctets 2 levels.length ++ packLevels levels)
  | .setup origin lane sequence channelCount period =>
      frameOctets classLaneSetup 255 origin
        (beOctets 1 lane ++ beOctets 1 sequence ++ beOctets 2 channelCount ++ beOctets 1 period)

end Sys2Proof.Machine
end

