-- ==== Sys2Proof/Machine/Sources.lean ====
section
/-! DEFINITION. The ingress processor's operations: arrival, take, level frames, sources, the input switch
(R119 to R140). -/

namespace Sys2Proof.Machine

/-! ## Arrival -/

/-- A frame fails check 1: the bad-frame count rises, and passing 127 to 128 records BAD_FRAMES (R119, R120). -/
def State.badFrame (s : State) : State :=
  let t := s.count (fun c => { c with badFrame := satInc 255 c.badFrame })
  if s.ingress.counters.badFrame = 127 then t.recordFault .badFrames else t

/-- A frame fails check 4: the queue-full count rises, and passing 0 to 1 records QUEUE_OVERFLOW (R119, R120). -/
def State.queueFull (s : State) : State :=
  let t := s.count (fun c => { c with queueFull := satInc 65535 c.queueFull })
  if s.ingress.counters.queueFull = 0 then t.recordFault .queueOverflow else t

/-- The arrival checks (R119). -/
def State.arrive (s : State) (os : List Octet) : State :=
  match parseFrame os with
  | none => s.badFrame
  | some f =>
      if 820 < os.length then s.count (fun c => { c with oversize := satInc 65535 c.oversize })
      else if ¬ (f.dest = s.settings.nodeAddress ∨ f.dest = 255) then
        s.count (fun c => { c with notMine := satInc 65535 c.notMine })
      else if 12 ≤ s.ingress.queue.length then s.queueFull
      else s.withIngress { s.ingress with queue := s.ingress.queue ++ [f] }

/-! ## The input switch -/

/-- A waiting switch completes when the processor is idle (R137). -/
def State.completeSwitch (s : State) : State :=
  match s.ingress.switch, s.ingress.processing with
  | .switching, none => s.withIngress { s.ingress with inUse := s.ingress.inUse.other, switch := .idle }
  | _, _ => s

/-- Two runs of numbers, each by its first number and its length, share at least one number. -/
def runsShare (a m b n : Nat) : Bool := max a b < min (a + m) (b + n)

/-- Two present entries of an input bank overlap (R136): they name one source and their zone runs share a zone. -/
def inputConflict (a b : InputEntry) : Bool :=
  a.present && b.present && decide (a.source = b.source) && runsShare a.zoneFirst a.zoneCount b.zoneFirst b.zoneCount

/-- Two present entries of an output bank overlap (R157): they name one lane and their channel runs share a channel. -/
def outputConflict (a b : OutputEntry) : Bool :=
  a.present && b.present && decide (a.lane = b.lane)
    && runsShare a.firstChannel (3 * a.zoneCount) b.firstChannel (3 * b.zoneCount)

/-! ## Take -/

/-- A frame is dropped at its take: its counter rises, and a switch its completion would have released completes
(R121, R137). -/
def State.dropAtTake (s : State) (f : ShowPortCounters → ShowPortCounters) : State := (s.count f).completeSwitch

/-- A frame becomes the frame in processing, with its snapshot (R121). -/
def State.process (s : State) (f : Frame) (snap : Snapshot) : State :=
  s.withIngress { s.ingress with processing := some ⟨f, snap, s.now⟩ }

/-- The matched source: the lowest-numbered entry that is enabled and whose origin is not 0 and equals the frame's
(R125). -/
def State.matchedSource (s : State) (origin : Nat) : Option Nat :=
  sourceNumbers.find? (fun i =>
    (s.source i).enabled && decide ((s.source i).origin ≠ 0) && decide ((s.source i).origin = origin))

/-- The results of the sequence check (R126). -/
inductive SequenceCheck where
  | accepted
  | duplicate
  | stale
deriving DecidableEq, Repr

/-- The sequence check (R126). -/
def sequenceCheck (stored : Option Nat) (n : Nat) : SequenceCheck :=
  match stored with
  | none => .accepted
  | some q =>
      if n = q then .duplicate else if 128 ≤ (n + 256 - q) % 256 then .stale else .accepted

/-- The stored sequence of a source's lane (R129). -/
def Source.sequence (x : Source) (lane : Nat) : Option Nat := Table.read none x.sequences lane

/-- The take of a LEVEL frame (R125, R126). -/
def State.takeLevel (s : State) (f : Frame) : State :=
  match s.matchedSource f.origin with
  | none => s.dropAtTake (fun c => { c with unknownSource := satInc 65535 c.unknownSource })
  | some i =>
      match levelFields f.payload with
      | none => s.dropAtTake (fun c => { c with malformedLevel := satInc 65535 c.malformedLevel })
      | some v =>
          let x := s.source i
          match sequenceCheck (x.sequence v.lane) v.sequence with
          | .duplicate => (s.setSource i { x with duplicate := satInc 65535 x.duplicate }).completeSwitch
          | .stale => (s.setSource i { x with stale := satInc 65535 x.stale }).completeSwitch
          | .accepted => s.process f (.level i x.enabled x.origin s.ingress.inUse)

/-- The take of a TIME frame (R123). -/
def State.takeTime (s : State) (f : Frame) : State :=
  let a := s.settings.timekeeperAddress
  if a ≠ 0 ∧ a = f.origin then s.process f (.time a)
  else s.dropAtTake (fun c => { c with foreignTime := satInc 65535 c.foreignTime })

/-- The take of a MGMT_REQ frame (R124). -/
def State.takeRequest (s : State) (f : Frame) : State :=
  let a := s.settings.stationAddress
  if a = 255 ∨ (a ≠ 0 ∧ a = f.origin) then s.process f (.request a)
  else s.dropAtTake (fun c => { c with foreignRequest := satInc 65535 c.foreignRequest })

/-- A taken frame is handled by its class (R122). -/
def State.classify (s : State) (f : Frame) : State :=
  if f.cls = classLevel then s.takeLevel f
  else if f.cls = classTime then s.takeTime f
  else if f.cls = classRequest then s.takeRequest f
  else s.dropAtTake (fun c => { c with unknownClass := satInc 65535 c.unknownClass })

/-! ## Completion -/

/-- The processor is idle after a completion, and a waiting switch completes (R121, R137). -/
def State.idleIngress (s : State) : State :=
  (s.withIngress { s.ingress with processing := none }).completeSwitch

/-- The level a LEVEL frame carries for a channel: none when it does not carry it or discards it (R125, R127). -/
def LevelFields.level (v : LevelFields) (c : Nat) : Option Nat :=
  if v.firstChannel ≤ c ∧ c < 384 then v.levels[c - v.firstChannel]? else none

/-- Stores the channels of one zone of an entry: i is the zone's place in the entry (R127, R133). -/
def storeZone (v : LevelFields) (e : InputEntry) (live : Table Look) (i : Nat) : Table Look :=
  let idx := liveIndex e.source (e.zoneFirst + i)
  let look := [0, 1, 2].foldl
    (fun l j =>
      match v.level (e.firstChannel + 3 * i + j) with
      | some x => l.setComp x (e.order.comp j)
      | none => l)
    (Table.read .black live idx)
  Table.write .black live idx look

/-- Stores the levels of a frame through one entry (R127). -/
def storeEntry (v : LevelFields) (live : Table Look) (e : InputEntry) : Table Look :=
  (List.range e.zoneCount).foldl (storeZone v e) live

/-- The entries of a bank that a frame of a source and source lane writes through (R127). -/
def entriesFor (bank : Table InputEntry) (source lane : Nat) : List InputEntry :=
  (bank.filter (fun p => p.2.present && decide (p.2.source = source) && decide (p.2.sourceLane = lane))).map (·.2)

/-- The write to the live store (R127). -/
def State.writeLevels (s : State) (source : Nat) (bank : BankNo) (v : LevelFields) : State :=
  s.withMixer { s.mixer with live := (entriesFor (s.inputBank bank) source v.lane).foldl (storeEntry v) s.mixer.live }

/-- The source makes LIVE at a completion: it is enabled and its origin is the snapshot's (R128). -/
def Source.answers (x : Source) (origin : Nat) : Bool := x.enabled && decide (x.origin = origin)

/-- The source record after an accepted frame (R128). -/
def State.acceptedSource (s : State) (x : Source) (origin : Nat) (v : LevelFields) : Source :=
  let counted := { x with
    accepted := wrapInc x.accepted
    sequences := if x.origin = origin then Table.write none x.sequences v.lane (some v.sequence) else x.sequences }
  if x.answers origin then { counted with timer := some (s.now + x.lossTime), state := .live } else counted

/-- A LEVEL frame completes (R127, R128, R98): "the return first, then the write", then the source's record. -/
def State.completeLevel (s : State) (i origin : Nat) (bank : BankNo) (v : LevelFields) : State :=
  let x := s.source i
  let t := if x.answers origin && decide (x.state = .lost) then s.sourceReturn i else s
  (t.writeLevels i bank v).setSource i (s.acceptedSource x origin v)

/-! ## Sources -/

/-- The loss of a LIVE source (R130, R131, R140). -/
def State.lossIfLive (s : State) (i : Nat) (was : SourceState) : State :=
  if was = .live then s.sourceLoss i else s

/-- The source record that WRITE_SOURCE leaves (R131). -/
def Source.written (x : Source) (enabled : Bool) (origin lossTime : Nat) : Source :=
  let kept := { x with
    enabled := enabled, origin := origin, lossTime := lossTime
    sequences := if x.origin = origin then x.sequences else [] }
  if x.enabled = enabled then kept else { kept with state := .idle, timer := none }

/-- A source at a BLOCK_RESET naming INGRESS (R140). -/
def State.idleSource (s : State) (i : Nat) : State :=
  (s.setSource i { s.source i with state := .idle, timer := none, sequences := [] }).lossIfLive i (s.source i).state

/-- BLOCK_RESET naming INGRESS (R140, R102). -/
def State.blockResetIngress (s : State) : State :=
  let emptied := s.withIngress { s.ingress with queue := [], processing := none }
  let idled := sourceNumbers.foldl State.idleSource emptied
  (idled.withMixer { idled.mixer with live := [] }).completeSwitch

end Sys2Proof.Machine
end

