-- ==== Sys2Proof/Machine/Power.lean ====
section
/-! DEFINITION. The image store and the full resets (R16, R41, R56, R80, R101, R118, R139, R164, R181, R191 to R197). -/

namespace Sys2Proof.Machine

/-! ## The image -/

/-- A calendar entry as an image holds it: last fired is not saved (R192). -/
def CalendarEntry.saved (e : CalendarEntry) : CalendarEntry := { e with lastFired := none }

/-- A directory record as an image holds it: READY as it stands with no playing count, others EMPTY (R192). -/
def ShowRecord.saved (r : ShowRecord) : ShowRecord :=
  match r.state with
  | .ready base count => ⟨.ready base count, 0⟩
  | _ => .blank

/-- The record of cue memory belongs to a READY show (R192). -/
def State.inReadyShow (s : State) (i : Nat) : Bool :=
  s.cueStore.shows.any (fun p => p.2.state.readyRun.any (fun r => inRun r.1 r.2 i))

/-- The configuration of a source (R129, R192). -/
def Source.config (x : Source) : SourceConfig := ⟨x.enabled, x.origin, x.lossTime⟩

/-- The image contents as they stand (R192, R193). -/
def State.snapshot (s : State) : Image where
  settings := s.settings
  entries := Table.mapVals .blank (fun _ e => e.saved) s.calendar.entries
  shows := Table.mapVals .blank (fun _ r => r.saved) s.cueStore.shows
  cues := Table.keep s.inReadyShow s.cueStore.cues
  sources := Table.mapVals .blank (fun _ x => x.config) s.ingress.sources
  inputBank := s.inputBank s.ingress.inUse
  outputBank := s.outputBank s.lanes.selected
  lanes := Table.mapVals .blank (fun _ r => r.config) s.lanes.lanes
  houseLooks := Table.mapVals .black (fun _ z => z.house) s.mixer.zones
  bands := s.mixer.bands
  guards := s.lanes.guards
  requestedGuard := s.lanes.requestedGuard

/-- The image store after a SAVE_IMAGE is taken: "The write first discards the stored image" (R193, R194). -/
def State.beginSave (s : State) : State :=
  s.withImage { s.image with state := .saving s.snapshot s.now, stored := .failing }

/-- A write ends (R194). -/
def State.endSave (s : State) (snapshot : Image) (agrees : Bool) : State :=
  if agrees then s.withImage { s.image with state := .saved, stored := .image snapshot }
  else (s.withImage { s.image with state := .failed, stored := .failing }).recordFault .imageWrite

/-! ## Restore -/

/-- The stored copy that a full reset examines: a write is cut off by it (R194, R195). -/
def ImageStore.storedAtReset (i : ImageStore) : StoredImage :=
  match i.state with
  | .saving _ _ => .failing
  | .empty => i.stored
  | .saved => i.stored
  | .failed => i.stored

/-- The image every owner is restored from: the stored image, or the defaults (R195). -/
def StoredImage.restored : StoredImage → Image
  | .image i => i
  | .blank => .defaults
  | .failing => .defaults

/-- The image state after the restore (R195). -/
def StoredImage.stateAfter : StoredImage → ImageState
  | .blank => .empty
  | .failing => .failed
  | .image _ => .saved

/-- The image store after the restore, with the causes of the reset and IMAGE_BAD (R195, R196). -/
def ImageStore.restored (i : ImageStore) (causes : ResetCauses) : ImageStore :=
  ⟨i.storedAtReset, i.storedAtReset.stateAfter, { causes with imageBad := decide (i.storedAtReset = .failing) }⟩

/-- A source restored from its configuration (R139). -/
def SourceConfig.source (c : SourceConfig) : Source :=
  { Source.blank with enabled := c.enabled, origin := c.origin, lossTime := c.lossTime }

/-- Every block as it comes up from an image, before the events of R197; the queue of waiting commands and the
free-value counter are the model's own and stay. -/
def State.comeUp (s : State) (img : Image) (clock : TowerClock) (image : ImageStore) : State where
  time := { TimeUnit.initial with clock := clock }
  calendar := { CalendarEngine.initial with entries := img.entries }
  cueStore := ⟨img.shows, img.cues⟩
  playback := ⟨[], 0, 0⟩
  mixer := ⟨Table.mapVals .blank (fun _ l => { Zone.blank with house := l }) img.houseLooks, [], img.bands⟩
  ingress :=
    { IngressProcessor.initial with
      sources := Table.mapVals .blank (fun _ c => c.source) img.sources, bank0 := img.inputBank }
  lanes :=
    { LaneController.initial with
      lanes := Table.mapVals .blank (fun _ c => Lane.initial c) img.lanes
      bank0 := img.outputBank
      guards := img.guards
      requestedGuard := img.requestedGuard
      guardStatus := if img.requestedGuard then .settling else .disabled }
  mgmt := { ManagementUnit.initial with settings := img.settings }
  faults := .initial
  image := image
  pending := s.pending
  freeCount := s.freeCount

/-- With the requested guard state restored on, every lane adopts and guarded lanes are woken (R164, R197). -/
def State.restoreGuard (s : State) : State :=
  if s.lanes.requestedGuard then s.adoptIdle.wakeGuarded else s

/-- With tower time present, a RESUME build begins (R41, R197). -/
def State.resumeIfTime (s : State) : State := if s.towerTime.isSome then s.beginBuild .resume else s

/-- A full reset, with the clock it leaves and the causes it records (R195, R197). -/
def State.fullReset (s : State) (clock : TowerClock) (causes : ResetCauses) : State :=
  ((s.comeUp s.image.storedAtReset.restored clock (s.image.restored causes)).restoreGuard).resumeIfTime

/-- Tower time after it has gone on advancing for a number of milliseconds; past the end of its range it is
discarded (R14, R16). -/
def TowerClock.after (c : TowerClock) (ms : Nat) : TowerClock :=
  match c.time with
  | none => .unset
  | some t => if lastDay < (TowerTime.ofAbs (t.abs + ms)).day then .unset else c.retime (.ofAbs (t.abs + ms))

/-- The clock that the RESET line and RESTART leave (R16). -/
def State.keptClock (s : State) (ms : Nat) : TowerClock := (s.time.clock.after ms).freewheeling

/-- Power-on (R15, R196). -/
def State.powerOnReset (s : State) : State := s.fullReset .unset ⟨true, false, false, false⟩

/-- The RESET line, held for a number of milliseconds (R16, R196). -/
def State.lineReset (s : State) (ms : Nat) : State :=
  s.fullReset (s.keptClock ms) { s.image.causes with resetLine := true }

/-- RESTART takes effect (R16, R180, R196). -/
def State.restartReset (s : State) : State := s.fullReset (s.keptClock 0) { s.image.causes with restart := true }

end Sys2Proof.Machine
end

