-- ==== Sys2Proof/Machine/Requests.lean ====
section
/-! DEFINITION. The management unit's operations: the take of a request, its reply, the show-port line (R166 to
R172, R180). -/

namespace Sys2Proof.Machine

/-- What an owner answers a request with: the outcome, the results, the state it leaves, and what the end of the
reply's transmission does. -/
structure Answer where
  outcome : Verdict
  result : Result
  state : State
  atEnd : ReplyEnd := .nothing
deriving DecidableEq, Repr

/-- A refusal without results: "changes no state of its owner" (R168, R169). -/
def State.refuse (s : State) (v : Verdict) : Answer := ⟨v, .none, s, .nothing⟩

/-- A request carried out as asked, without results. -/
def State.answerOk (s : State) : Answer := ⟨.ok, .none, s, .nothing⟩

/-- A read request: OK, nothing changed. -/
def State.report (s : State) (r : Result) : Answer := ⟨.ok, r, s, .nothing⟩

/-- A request carried out, ADJUSTED when a quantity was clamped (R170). -/
def State.answerClamped (s : State) (clamped : Bool) : Answer := ⟨okOrAdjusted clamped, .none, s, .nothing⟩

/-- The unit may take a request (R167, second and third condition). -/
def State.mayTake (s : State) : Bool := decide (s.mgmt.outbound.length < 8) && !s.mgmt.restartPending

/-- s with the requests in the queue replaced. -/
def State.withRequests (s : State) (rs : List Instr) : State := s.withMgmt { s.mgmt with requests := rs }

/-- A request joins the tail of the request queue, or is dropped when it holds 4 (R124, R166). -/
def State.joinRequests (s : State) (c : Instr) : State :=
  if s.mgmt.requests.length < 4 then s.withRequests (s.mgmt.requests ++ [c])
  else s.count (fun k => { k with managementDrop := satInc 65535 k.managementDrop })

/-- The reply of a request, composed at the take (R168): node is the node address in force at the take. -/
def replyOf (h : ReqHead) (kind : Option Nat) (node : Nat) (a : Answer) : Reply :=
  ⟨h.origin, node, kind.map (fun k => (h.tag, k)), a.outcome, a.result, a.atEnd⟩

/-- The state in which a request is carried out: a place of the outbound queue is reserved (R167). -/
def State.reserve (s : State) : State := s.withMgmt { s.mgmt with replyReserved := true }

/-- The reply is put in the reserved place (R167). -/
def State.placeReply (s : State) (r : Reply) : State :=
  s.withMgmt { s.mgmt with outbound := s.mgmt.outbound ++ [.reply r], replyReserved := false }

/-- The take of a request that has left the queue (R167 to R169): a request whose arguments do not fit its kind is
answered REFUSED_RANGE, any other by its owner. -/
def State.carryOut (s : State) (h : ReqHead) (kind : Option Nat) (owner : State → Answer) : State :=
  let a := if h.fits then owner s.reserve else s.reserve.refuse .refusedRange
  a.state.placeReply (replyOf h kind s.settings.nodeAddress a)

/-- The command of a request c (R166, R167; log entry 4): taken at once when the unit may take and c is the oldest
request, or when no request waits; otherwise it joins the queue, or stays in it. -/
def State.request (s : State) (c : Instr) (h : ReqHead) (owner : State → Answer) : State :=
  match s.mgmt.requests with
  | [] => if s.mayTake then s.carryOut h c.kindNumber owner else s.joinRequests c
  | oldest :: rest =>
      if oldest = c then (if s.mayTake then (s.withRequests rest).carryOut h c.kindNumber owner else s)
      else s.joinRequests c

/-- The line begins the oldest frame of the outbound queue (R171), and the fault table is told of the freed place:
a pending alert is placed, unless a waiting request is to claim the one free place first (R167, R189, log entry 6). -/
def State.beginLine (s : State) (f : OutFrame) (rest : List OutFrame) (takeFirst : Bool) : State :=
  let t := s.withMgmt { s.mgmt with outbound := rest, line := some ⟨f, s.now⟩ }
  if takeFirst && !t.mgmt.requests.isEmpty && !t.mgmt.restartPending && decide (7 ≤ rest.length) then t
  else t.sendPendingAlert

/-- The pending node address becomes the node address, at the end of the reply that last set it (R176). -/
def State.endNodeChange (s : State) (serial : Nat) : State :=
  match s.mgmt.pendingNode with
  | some p =>
      if p.serial = serial then
        s.withMgmt { s.mgmt with settings := { s.settings with nodeAddress := p.value }, pendingNode := none }
      else s
  | none => s

/-- What the end of a reply's transmission does (R176, R180). -/
def State.endReply (s : State) : ReplyEnd → State
  | .nothing => s.sendPendingAlert
  | .nodeAddress serial => (s.endNodeChange serial).sendPendingAlert
  | .restart => if s.mgmt.restartPending then s.restartReset else s.sendPendingAlert

/-- A transmission on the show-port line ends (R171, R176, R180, R189). -/
def State.endLine (s : State) (f : OutFrame) : State :=
  let t := s.withMgmt { s.mgmt with line := none }
  match f with
  | .reply r => t.endReply r.atEnd
  | .alert _ => t.sendPendingAlert

end Sys2Proof.Machine
end

