-- ==== Sys2Proof/Machine/CalendarCommands.lean ====
section
/-! DEFINITION. The meanings of the calendar engine's commands (02): WAKE_TIMER_EXPIRY, REST_TIMER_EXPIRY,
BUILD_COMPLETION, the calendar requests. -/

namespace Sys2Proof.Machine

/-- WAKE_TIMER_EXPIRY (R38), when the timer is due. -/
def execWakeTimerExpiry (s : State) : Host.Outcome State Fault Refusal :=
  .next
    (if timerDue s.calendar.wakeTimer s.now then
      (s.withCalendar { s.calendar with wakeTimer := none }).wakeResting
    else s)

/-- The second condition of R40: no start is near. -/
def State.noStartNear (s : State) : Bool :=
  match s.calendar.agenda.head?, s.towerTime with
  | none, _ => true
  | some it, some t => decide (t.abs + 1000 * s.settings.preludeLead < it.instant.abs)
  | some _, none => false

/-- The lanes whose auto-rest allowed flag is set (R153). -/
def State.autoRestLanes (s : State) : List Nat := laneNumbers.filter (fun l => (s.lane l).config.autoRest)

/-- REST_TIMER_EXPIRY (R40), when the timer is due. -/
def execRestTimerExpiry (s : State) : Host.Outcome State Fault Refusal :=
  .next
    (if timerDue s.calendar.restTimer s.now then
      let t := s.withCalendar { s.calendar with restTimer := none }
      if t.allFree && t.noStartNear then t.restEach t.autoRestLanes else t
    else s)

/-- BUILD_COMPLETION (R27), at an instant later than the build's beginning. -/
def execBuildCompletion (s : State) : Host.Outcome State Fault Refusal :=
  .next
    (match s.calendar.state with
    | .building b pending => if b.begun < s.now then s.completeBuild b pending else s
    | _ => s)

/-- What WRITE_CALENDAR_ENTRY answers (R21). -/
def writeCalendarEntryAnswer (i : Nat) (f : CalendarArgs) (s : State) : Answer :=
  if 95 < i then s.refuse .refusedRange
  else
    match calendarEntryOf f with
    | some e => (s.replaceEntry i e).answerOk
    | none => s.refuse .refusedRange

/-- WRITE_CALENDAR_ENTRY (R21). -/
def execWriteCalendarEntry (h : ReqHead) (i : Nat) (f : CalendarArgs) (s : State) :
    Host.Outcome State Fault Refusal :=
  .next (s.request (.writeCalendarEntry h i f) h (writeCalendarEntryAnswer i f))

/-- What CLEAR_CALENDAR_ENTRY answers (R21): the entry becomes EMPTY, keeping the field values it held (R22). -/
def clearCalendarEntryAnswer (i : Nat) (s : State) : Answer :=
  if 95 < i then s.refuse .refusedRange
  else (s.replaceEntry i { s.entry i with state := .empty, lastFired := none }).answerOk

/-- CLEAR_CALENDAR_ENTRY (R21). -/
def execClearCalendarEntry (h : ReqHead) (i : Nat) (s : State) : Host.Outcome State Fault Refusal :=
  .next (s.request (.clearCalendarEntry h i) h (clearCalendarEntryAnswer i))

/-- What READ_CALENDAR_ENTRY answers (R22). -/
def readCalendarEntryAnswer (i : Nat) (s : State) : Answer :=
  if 95 < i then s.refuse .refusedRange else s.report (.calendarEntry (s.entry i))

/-- READ_CALENDAR_ENTRY (R22). -/
def execReadCalendarEntry (h : ReqHead) (i : Nat) (s : State) : Host.Outcome State Fault Refusal :=
  .next (s.request (.readCalendarEntry h i) h (readCalendarEntryAnswer i))

/-- The granularity of the build in flight (R25). -/
def AgendaState.scope : AgendaState → Option Granularity
  | .building b _ => some b.scope
  | _ => none

/-- The pending request (R25). -/
def AgendaState.waiting : AgendaState → Option Granularity
  | .building _ pending => pending
  | _ => none

/-- READ_AGENDA's results (R25). -/
def State.agendaReport (s : State) : AgendaReport :=
  ⟨s.calendar.state.phase, s.calendar.agenda, s.calendar.state.scope, s.calendar.state.waiting, s.calendar.truncated,
    s.calendar.lastActual⟩

/-- What READ_AGENDA answers (R25). -/
def readAgendaAnswer (s : State) : Answer := s.report (.agenda s.agendaReport)

/-- READ_AGENDA (R25). -/
def execReadAgenda (h : ReqHead) (s : State) : Host.Outcome State Fault Refusal :=
  .next (s.request (.readAgenda h) h readAgendaAnswer)

/-- Where a rebuild request goes and the granularity that results (R29). -/
def State.rebuildResult (s : State) (g : Granularity) : Result :=
  match s.calendar.state with
  | .building _ pending => .rebuild .pending (mergePending pending g)
  | .stale => .rebuild .begun (s.widened g)
  | .current => .rebuild .begun (s.widened g)

/-- What REBUILD_AGENDA answers (R29). -/
def rebuildAgendaAnswer (g : Option Granularity) (s : State) : Answer :=
  match g with
  | none => s.refuse .refusedRange
  | some g =>
      if !requestable g then s.refuse .refusedRange
      else if s.towerTime.isNone then s.refuse .refusedState
      else ⟨.ok, s.rebuildResult g, s.rebuildRequest g, .nothing⟩

/-- REBUILD_AGENDA (R29). -/
def execRebuildAgenda (h : ReqHead) (g : Option Granularity) (s : State) : Host.Outcome State Fault Refusal :=
  .next (s.request (.rebuildAgenda h g) h (rebuildAgendaAnswer g))

end Sys2Proof.Machine
end

