-- ==== Sys2Proof/Machine/FaultCommands.lean ====
section
/-! DEFINITION. The meanings of the fault table's requests (10): READ_FAULTS, CLEAR_FAULT, CLEAR_OVERFLOW. -/

namespace Sys2Proof.Machine

/-- READ_FAULTS's results (R185). -/
def State.faultReport (s : State) : FaultReport where
  records := faultNumbers.map s.faultRecord
  nextWrite := s.faults.nextWrite
  pending := s.faults.pending
  first := s.faults.first
  present := s.presentFaults
  overflow := s.faults.overflow
  dropped := s.faults.dropped
  alertPending := s.faults.alertPending

/-- What READ_FAULTS answers (R185). -/
def readFaultsAnswer (s : State) : Answer := s.report (.faults s.faultReport)

/-- READ_FAULTS (R185). -/
def execReadFaults (h : ReqHead) (s : State) : Host.Outcome State Fault Refusal :=
  .next (s.request (.readFaults h) h readFaultsAnswer)

/-- The state a CLEAR_FAULT leaves: a record that is not present changes nothing (R186). -/
def State.clearIfPresent (s : State) (i : Nat) : State :=
  if (s.faultRecord i).isSome then s.clearFaultRecord i else s.quietAlert

/-- What CLEAR_FAULT answers (R186). -/
def clearFaultAnswer (i : Nat) (s : State) : Answer :=
  if 7 < i then s.refuse .refusedRange
  else
    ⟨.ok, .faultCleared (s.clearIfPresent i).faults.pending (s.clearIfPresent i).presentFaults, s.clearIfPresent i,
      .nothing⟩

/-- CLEAR_FAULT (R186). -/
def execClearFault (h : ReqHead) (i : Nat) (s : State) : Host.Outcome State Fault Refusal :=
  .next (s.request (.clearFault h i) h (clearFaultAnswer i))

/-- What CLEAR_OVERFLOW answers (R187): the dropped count as it stood before the clear. -/
def clearOverflowAnswer (s : State) : Answer :=
  ⟨.ok, .overflowCleared s.faults.dropped, s.clearFaultOverflow, .nothing⟩

/-- CLEAR_OVERFLOW (R187). -/
def execClearOverflow (h : ReqHead) (s : State) : Host.Outcome State Fault Refusal :=
  .next (s.request (.clearOverflow h) h clearOverflowAnswer)

end Sys2Proof.Machine
end

