-- ==== Sys2Proof/Machine/ImageCommands.lean ====
section
/-! DEFINITION. The meanings of the full resets' and the image store's commands (11): POWER_ON, RESET_LINE,
IMAGE_WRITE_END, SAVE_IMAGE, CLEAR_RESET_CAUSE. -/

namespace Sys2Proof.Machine

/-- POWER_ON (R15, R197). -/
def execPowerOn (s : State) : Host.Outcome State Fault Refusal := .next s.powerOnReset

/-- RESET_LINE (R16, R197). -/
def execResetLine (heldMs : Nat) (s : State) : Host.Outcome State Fault Refusal := .next (s.lineReset heldMs)

/-- IMAGE_WRITE_END (R194), at an instant later than the take of the SAVE_IMAGE. -/
def execImageWriteEnd (agrees : Bool) (s : State) : Host.Outcome State Fault Refusal :=
  .next
    (match s.image.state with
    | .saving snapshot begun => if begun < s.now then s.endSave snapshot agrees else s
    | _ => s)

/-- A write is going on (R193). -/
def ImageState.isSaving : ImageState → Bool
  | .saving _ _ => true
  | _ => false

/-- What SAVE_IMAGE answers (R193). -/
def saveImageAnswer (s : State) : Answer :=
  if s.image.state.isSaving then s.refuse .refusedState else s.beginSave.answerOk

/-- SAVE_IMAGE (R193, R194). -/
def execSaveImage (h : ReqHead) (s : State) : Host.Outcome State Fault Refusal :=
  .next (s.request (.saveImage h) h saveImageAnswer)

/-- The reset-cause record with the flags of a set cleared (R196, R201). -/
def ResetCauses.clear (c : ResetCauses) (flags : Nat) : ResetCauses :=
  ⟨c.powerOn && !flags.testBit 0, c.resetLine && !flags.testBit 1, c.restart && !flags.testBit 2,
    c.imageBad && !flags.testBit 3⟩

/-- What CLEAR_RESET_CAUSE answers (R196). -/
def clearResetCauseAnswer (flags : Nat) (s : State) : Answer :=
  if 15 < flags then s.refuse .refusedRange
  else
    ⟨.ok, .resetCauses (s.image.causes.clear flags),
      s.withImage { s.image with causes := s.image.causes.clear flags }, .nothing⟩

/-- CLEAR_RESET_CAUSE (R196). -/
def execClearResetCause (h : ReqHead) (flags : Nat) (s : State) : Host.Outcome State Fault Refusal :=
  .next (s.request (.clearResetCause h flags) h (clearResetCauseAnswer flags))

end Sys2Proof.Machine
end

