-- ==== Sys2Proof/Machine/IngressCommands.lean ====
section
/-! DEFINITION. The meanings of the ingress processor's commands (07): SHOW_PORT_ARRIVAL, INGRESS_TAKE,
LEVEL_FRAME_COMPLETION, LIVENESS_TIMER_EXPIRY, the source and input patch requests. -/

namespace Sys2Proof.Machine

/-- SHOW_PORT_ARRIVAL (R119, R120, R200). -/
def execShowPortArrival (os : List Octet) (s : State) : Host.Outcome State Fault Refusal := .next (s.arrive os)

/-- INGRESS_TAKE (R121, R122), when the processor is idle and the queue holds a frame. -/
def execIngressTake (s : State) : Host.Outcome State Fault Refusal :=
  .next
    (match s.ingress.processing, s.ingress.queue with
    | none, f :: rest => (s.withIngress { s.ingress with queue := rest }).classify f
    | _, _ => s)

/-- LEVEL_FRAME_COMPLETION (R127, R128, R137), at an instant later than the take. -/
def execLevelFrameCompletion (s : State) : Host.Outcome State Fault Refusal :=
  .next
    (match s.ingress.processing with
    | some ⟨f, .level i _ origin bank, taken⟩ =>
        match levelFields f.payload with
        | some v => if taken < s.now then (s.completeLevel i origin bank v).idleIngress else s
        | none => s
    | _ => s)

/-- A LIVE source becomes LOST (R130). -/
def State.loseSource (s : State) (i : Nat) : State :=
  ((s.setSource i { s.source i with state := .lost, timer := none }).recordFault (.sourceLost i)).sourceLoss i

/-- LIVENESS_TIMER_EXPIRY (R130), when the timer is due. -/
def execLivenessTimerExpiry (i : Nat) (s : State) : Host.Outcome State Fault Refusal :=
  .next (if timerDue (s.source i).timer s.now then s.loseSource i else s)

/-- The effect of a WRITE_SOURCE (R131): a loss is sent when a LIVE source is disabled. -/
def State.writeSourceEntry (s : State) (i : Nat) (enabled : Bool) (origin lossTime : Nat) : State :=
  let x := s.source i
  let t := s.setSource i (x.written enabled origin lossTime)
  if x.enabled && !enabled then t.lossIfLive i x.state else t

/-- What WRITE_SOURCE answers (R131). -/
def writeSourceAnswer (i : Nat) (enabled : Option Bool) (origin lossTime : Nat) (s : State) : Answer :=
  match enabled with
  | none => s.refuse .refusedRange
  | some on =>
      if 7 < i ∨ 254 < origin then s.refuse .refusedRange
      else (s.writeSourceEntry i on origin (clamp 100 10000 lossTime)).answerClamped (clamps 100 10000 lossTime)

/-- WRITE_SOURCE (R131). -/
def execWriteSource (h : ReqHead) (i : Nat) (enabled : Option Bool) (origin lossTime : Nat) (s : State) :
    Host.Outcome State Fault Refusal :=
  .next (s.request (.writeSource h i enabled origin lossTime) h (writeSourceAnswer i enabled origin lossTime))

/-- What FORGET_SEQUENCE answers (R132). -/
def forgetSequenceAnswer (i : Nat) (s : State) : Answer :=
  if 7 < i then s.refuse .refusedRange else (s.setSource i { s.source i with sequences := [] }).answerOk

/-- FORGET_SEQUENCE (R132). -/
def execForgetSequence (h : ReqHead) (i : Nat) (s : State) : Host.Outcome State Fault Refusal :=
  .next (s.request (.forgetSequence h i) h (forgetSequenceAnswer i))

/-- READ_SOURCE's results (R132). -/
def State.sourceReport (s : State) (i : Nat) : SourceReport where
  config := (s.source i).config
  state := (s.source i).state
  remaining := timeLeft (s.source i).timer s.now
  sequences := (List.range 16).map (s.source i).sequence
  accepted := (s.source i).accepted
  duplicate := (s.source i).duplicate
  stale := (s.source i).stale

/-- What READ_SOURCE answers (R132). -/
def readSourceAnswer (i : Nat) (s : State) : Answer :=
  if 7 < i then s.refuse .refusedRange else s.report (.source (s.sourceReport i))

/-- READ_SOURCE (R132). -/
def execReadSource (h : ReqHead) (i : Nat) (s : State) : Host.Outcome State Fault Refusal :=
  .next (s.request (.readSource h i) h (readSourceAnswer i))

/-- The standby input bank (R133). -/
def State.standbyInput (s : State) : BankNo := s.ingress.inUse.other

/-- What WRITE_INPUT_PATCH answers (R134). -/
def writeInputPatchAnswer (i : Nat) (f : InputPatchArgs) (s : State) : Answer :=
  if 95 < i then s.refuse .refusedRange
  else
    match inputEntryOf f with
    | none => s.refuse .refusedRange
    | some e =>
        if s.ingress.switch = .switching then s.refuse .refusedState
        else (s.setInputBank s.standbyInput (Table.write .blank (s.inputBank s.standbyInput) i e)).answerOk

/-- WRITE_INPUT_PATCH (R134). -/
def execWriteInputPatch (h : ReqHead) (i : Nat) (f : InputPatchArgs) (s : State) : Host.Outcome State Fault Refusal :=
  .next (s.request (.writeInputPatch h i f) h (writeInputPatchAnswer i f))

/-- The number of the bank that a name names, given the bank in use. -/
def namedBank (inUse : BankNo) : BankName → BankNo
  | .inUse => inUse
  | .standby => inUse.other

/-- What READ_INPUT_PATCH answers (R134). -/
def readInputPatchAnswer (bank : Option BankName) (i : Nat) (s : State) : Answer :=
  match bank with
  | none => s.refuse .refusedRange
  | some name =>
      if 95 < i then s.refuse .refusedRange
      else
        s.report (.inputEntry (Table.read .blank (s.inputBank (namedBank s.ingress.inUse name)) i)
          (namedBank s.ingress.inUse name))

/-- READ_INPUT_PATCH (R134). -/
def execReadInputPatch (h : ReqHead) (bank : Option BankName) (i : Nat) (s : State) :
    Host.Outcome State Fault Refusal :=
  .next (s.request (.readInputPatch h bank i) h (readInputPatchAnswer bank i))

/-- What COPY_INPUT_BANK answers (R135). -/
def copyInputBankAnswer (s : State) : Answer :=
  if s.ingress.switch = .switching then s.refuse .refusedState
  else (s.setInputBank s.standbyInput (s.inputBank s.ingress.inUse)).answerOk

/-- COPY_INPUT_BANK (R135). -/
def execCopyInputBank (h : ReqHead) (s : State) : Host.Outcome State Fault Refusal :=
  .next (s.request (.copyInputBank h) h copyInputBankAnswer)

/-- What SWITCH_INPUT_BANK answers (R136, R137). -/
def switchInputBankAnswer (s : State) : Answer :=
  if s.ingress.switch = .switching then s.refuse .refusedState
  else
    match Table.firstPair inputConflict (s.inputBank s.standbyInput) with
    | some (i, j) => ⟨.overlap, .overlapping i j, s, .nothing⟩
    | none => ((s.withIngress { s.ingress with switch := .switching }).completeSwitch).answerOk

/-- SWITCH_INPUT_BANK (R136, R137). -/
def execSwitchInputBank (h : ReqHead) (s : State) : Host.Outcome State Fault Refusal :=
  .next (s.request (.switchInputBank h) h switchInputBankAnswer)

end Sys2Proof.Machine
end

