-- ==== Sys2Proof/Machine/LaneCommands.lean ====
section
/-! DEFINITION. The meanings of the lane controller's commands (08): receipts, the receipt timer, the period event,
the fixture line, the lane, output patch and guard requests. -/

namespace Sys2Proof.Machine

/-! ## Receipts and timers -/

/-- A lane enters FAULTED and a fault is recorded (R147, R148). -/
def State.faultLane (s : State) (l : Nat) (k : FaultKind) : State := (s.toDark l .faulted).recordFault k

/-- A current receipt acts by its verdict (R148). -/
def State.currentReceipt (s : State) (l : Nat) (accept : Bool) : State :=
  if accept then s.toComposing l else s.faultLane l (.laneRejected l)

/-- A receipt is taken by the lane controller (R148). -/
def State.takeReceipt (s : State) (l sequence : Nat) (accept : Bool) : State :=
  let r := s.lane l
  if r.state = .setup ∧ sequence = r.setupSequence then s.currentReceipt l accept
  else s.setLane l { r with staleReceipts := satInc 65535 r.staleReceipts }

/-- A verdict octet (R198). -/
def verdictOf : Nat → Option Bool
  | 1 => some true
  | 2 => some false
  | _ => none

/-- A RECEIPT's lane, sequence and verdict; none when malformed (R161, check 3). -/
def receiptFields (payload : List Octet) : Option (Nat × Nat × Bool) :=
  match payload with
  | [l, q, v] =>
      match verdictOf v.toNat with
      | some accept => if l.toNat ≤ 23 then some (l.toNat, q.toNat, accept) else none
      | none => none
  | _ => none

/-- s with the fixture bad-frame count raised (R161, check 1). -/
def State.fixtureBadFrame (s : State) : State :=
  s.withLanes { s.lanes with badFrame := satInc 255 s.lanes.badFrame }

/-- The arrival checks of the fixture port (R161). -/
def State.fixtureArrive (s : State) (os : List Octet) : State :=
  match parseFrame os with
  | none => s.fixtureBadFrame
  | some f =>
      if 820 < os.length then s.fixtureBadFrame
      else if f.cls ≠ classReceipt then
        s.withLanes { s.lanes with foreignClass := satInc 65535 s.lanes.foreignClass }
      else
        match receiptFields f.payload with
        | none => s.withLanes { s.lanes with malformedReceipt := satInc 65535 s.lanes.malformedReceipt }
        | some (l, q, accept) => s.takeReceipt l q accept

/-- RECEIPT_ARRIVAL (R148, R161). -/
def execReceiptArrival (os : List Octet) (s : State) : Host.Outcome State Fault Refusal := .next (s.fixtureArrive os)

/-- A receipt timer expires (R147). -/
def State.receiptExpired (s : State) (l : Nat) : State :=
  let r := s.lane l
  if 0 < r.retriesLeft then
    let t := s.setLane l { r with receiptTimer := none, retriesLeft := r.retriesLeft - 1 }
    t.placeFrame l (t.setupFrame l)
  else s.faultLane l (.noReceipt l)

/-- RECEIPT_TIMER_EXPIRY (R147), when the timer is due. -/
def execReceiptTimerExpiry (l : Nat) (s : State) : Host.Outcome State Fault Refusal :=
  .next (if timerDue (s.lane l).receiptTimer s.now then s.receiptExpired l else s)

/-- A period event: the lane adopts a pending bank and guard state, then composes (R149, R158, R160). -/
def State.period (s : State) (l : Nat) : State := ((s.setLane l (s.adopted (s.lane l))).settleLanes).composeFrame l

/-- PERIOD_EVENT (R149), when the period timer is due. -/
def execPeriodEvent (l : Nat) (s : State) : Host.Outcome State Fault Refusal :=
  .next (if (s.lane l).composing && timerDue (s.lane l).periodTimer s.now then s.period l else s)

/-! ## The fixture line -/

/-- The emitted count of a frame's lane, at the beginning of its transmission (R152). -/
def State.countEmitted (s : State) (l : Nat) (f : FixtureFrame) : State :=
  if f.isLevels then s.setLane l { s.lane l with emitted := wrapInc (s.lane l).emitted } else s

/-- The line takes the waiting frame of lane l (R152). -/
def State.beginFixture (s : State) (l : Nat) (w : Waiting) : State :=
  let t := s.setWaiting l none
  (t.withLanes { t.lanes with line := some ⟨w.frame, s.now⟩ }).countEmitted l w.frame

/-- FIXTURE_TRANSMIT_START (R152), when the line is idle and a frame waits. -/
def execFixtureTransmitStart (s : State) : Host.Outcome State Fault Refusal :=
  .next
    (match s.lanes.line, s.oldestWaiting with
    | none, some (l, w) => s.beginFixture l w
    | _, _ => s)

/-- The end of a frame's transmission: a LANE_SETUP of the current attempt starts the receipt timer (R146, R152). -/
def State.endFixture (s : State) (f : FixtureFrame) : State :=
  let t := s.withLanes { s.lanes with line := none }
  match f with
  | .setup _ l sequence _ _ =>
      if (t.lane l).state = .setup ∧ sequence = (t.lane l).setupSequence then
        t.setLane l { t.lane l with receiptTimer := some (t.now + t.settings.receiptTime) }
      else t
  | .levels _ _ _ _ => t

/-- FIXTURE_TRANSMIT_END (R146, R152), at an instant later than the beginning. -/
def execFixtureTransmitEnd (s : State) : Host.Outcome State Fault Refusal :=
  .next
    (match s.lanes.line with
    | some w => if w.begun < s.now then s.endFixture w.frame else s
    | none => s)

/-! ## Lane requests -/

/-- s with a lane's configuration replaced. -/
def State.setConfig (s : State) (l : Nat) (c : LaneConfig) : State := s.setLane l { s.lane l with config := c }

/-- The effect of a WRITE_LANE by the lane's state (R144). -/
def State.configureLane (s : State) (l : Nat) (c : LaneConfig) : State :=
  let r := s.lane l
  let t := s.setConfig l c
  match r.state, c.configured with
  | .off, true => t.toDark l .rest
  | .off, false => t
  | .rest, true => t
  | .faulted, true => t.toSetup l true
  | .setup, true => if c.channelCount ≠ r.config.channelCount ∨ c.period ≠ r.config.period then t.toSetup l r.cold else t
  | .warmup, true => if c.channelCount ≠ r.config.channelCount ∨ c.period ≠ r.config.period then t.toSetup l r.cold else t
  | .emitting, true =>
      if c.channelCount ≠ r.config.channelCount ∨ c.period ≠ r.config.period then t.toSetup l r.cold else t
  | _, false => t.toDark l .off

/-- What WRITE_LANE answers (R144). -/
def writeLaneAnswer (l : Nat) (f : LaneArgs) (s : State) : Answer :=
  if 23 < l then s.refuse .refusedRange
  else
    match laneConfigOf f with
    | none => s.refuse .refusedRange
    | some c => (s.configureLane l c).answerClamped (laneClamped f)

/-- WRITE_LANE (R144). -/
def execWriteLane (h : ReqHead) (l : Nat) (f : LaneArgs) (s : State) : Host.Outcome State Fault Refusal :=
  .next (s.request (.writeLane h l f) h (writeLaneAnswer l f))

/-- The class of a waiting frame (R163). -/
def Waiting.cls (w : Waiting) : WaitingClass := if w.frame.isLevels then .levels else .setup

/-- READ_LANE's results (R163). -/
def State.laneReport (s : State) (l : Nat) : LaneReport where
  config := (s.lane l).config
  state := (s.lane l).state
  cold := (s.lane l).cold
  setupSequence := (s.lane l).setupSequence
  retriesLeft := (s.lane l).retriesLeft
  receiptRemaining := timeLeft (s.lane l).receiptTimer s.now
  periodRemaining := timeLeft (s.lane l).periodTimer s.now
  warmUpRemaining := (s.lane l).warmUpRemaining
  frameNumber := (s.lane l).frameNumber
  bank := (s.lane l).bank
  guardInUse := (s.lane l).guardInUse
  waiting := (s.waitingFrame l).map (·.cls)

/-- What READ_LANE answers (R163). -/
def readLaneAnswer (l : Nat) (s : State) : Answer :=
  if 23 < l then s.refuse .refusedRange else s.report (.lane (s.laneReport l))

/-- READ_LANE (R163). -/
def execReadLane (h : ReqHead) (l : Nat) (s : State) : Host.Outcome State Fault Refusal :=
  .next (s.request (.readLane h l) h (readLaneAnswer l))

/-- What REST_LANES answers (R153): the reply lists the lanes kept. -/
def restLanesAnswer (set : Nat) (s : State) : Answer :=
  if !lanesInRange set then s.refuse .refusedRange
  else ⟨.ok, .laneList (s.keptLanes (lanesOf set)), s.restEach (lanesOf set), .nothing⟩

/-- REST_LANES (R153). -/
def execRestLanes (h : ReqHead) (set : Nat) (s : State) : Host.Outcome State Fault Refusal :=
  .next (s.request (.restLanes h set) h (restLanesAnswer set))

/-- The lane is in REST or FAULTED, so that WAKE_LANES reaches it (R154). -/
def Lane.wakeable (r : Lane) : Bool := r.state = .rest || r.state = .faulted

/-- WAKE_LANES of one lane (R154). -/
def State.wakeNamed (s : State) (l : Nat) : State := if (s.lane l).wakeable then s.toSetup l true else s

/-- WAKE_LANES of a list of lanes, in lane order (R154). -/
def State.wakeEach (s : State) (lanes : List Nat) : State := lanes.foldl State.wakeNamed s

/-- What WAKE_LANES answers (R154): the reply lists the lanes woken. -/
def wakeLanesAnswer (set : Nat) (s : State) : Answer :=
  if !lanesInRange set then s.refuse .refusedRange
  else
    ⟨.ok, .laneList ((lanesOf set).filter (fun l => (s.lane l).wakeable)), s.wakeEach (lanesOf set), .nothing⟩

/-- WAKE_LANES (R154). -/
def execWakeLanes (h : ReqHead) (set : Nat) (s : State) : Host.Outcome State Fault Refusal :=
  .next (s.request (.wakeLanes h set) h (wakeLanesAnswer set))

/-! ## Output patch requests -/

/-- The standby output bank (R155). -/
def State.standbyOutput (s : State) : BankNo := s.lanes.selected.other

/-- What WRITE_OUTPUT_PATCH answers (R156). -/
def writeOutputPatchAnswer (i : Nat) (f : OutputPatchArgs) (s : State) : Answer :=
  if 191 < i then s.refuse .refusedRange
  else
    match outputEntryOf f with
    | none => s.refuse .refusedRange
    | some e =>
        if s.lanes.switch = .switching then s.refuse .refusedState
        else
          (s.setOutputBank s.standbyOutput (Table.write .blank (s.outputBank s.standbyOutput) i e)).answerClamped
            (clamps 0 8191 f.gain)

/-- WRITE_OUTPUT_PATCH (R156). -/
def execWriteOutputPatch (h : ReqHead) (i : Nat) (f : OutputPatchArgs) (s : State) :
    Host.Outcome State Fault Refusal :=
  .next (s.request (.writeOutputPatch h i f) h (writeOutputPatchAnswer i f))

/-- The number of the output bank that a name names: IN_USE is the selected bank (R156). -/
def State.namedOutput (s : State) : BankName → BankNo
  | .inUse => s.lanes.selected
  | .standby => s.standbyOutput

/-- What READ_OUTPUT_PATCH answers (R156). -/
def readOutputPatchAnswer (bank : Option BankName) (i : Nat) (s : State) : Answer :=
  match bank with
  | none => s.refuse .refusedRange
  | some name =>
      if 191 < i then s.refuse .refusedRange
      else s.report (.outputEntry (Table.read .blank (s.outputBank (s.namedOutput name)) i) (s.namedOutput name))

/-- READ_OUTPUT_PATCH (R156). -/
def execReadOutputPatch (h : ReqHead) (bank : Option BankName) (i : Nat) (s : State) :
    Host.Outcome State Fault Refusal :=
  .next (s.request (.readOutputPatch h bank i) h (readOutputPatchAnswer bank i))

/-- What COPY_OUTPUT_BANK answers (R156). -/
def copyOutputBankAnswer (s : State) : Answer :=
  if s.lanes.switch = .switching then s.refuse .refusedState
  else (s.setOutputBank s.standbyOutput (s.outputBank s.lanes.selected)).answerOk

/-- COPY_OUTPUT_BANK (R156). -/
def execCopyOutputBank (h : ReqHead) (s : State) : Host.Outcome State Fault Refusal :=
  .next (s.request (.copyOutputBank h) h copyOutputBankAnswer)

/-- A switch of the output bank is accepted (R157, R158). -/
def State.acceptOutputSwitch (s : State) : State :=
  (s.withLanes { s.lanes with selected := s.standbyOutput, switch := .switching }).adoptIdle

/-- What SWITCH_OUTPUT_BANK answers (R157, R158). -/
def switchOutputBankAnswer (s : State) : Answer :=
  if s.lanes.switch = .switching then s.refuse .refusedState
  else
    match Table.firstPair outputConflict (s.outputBank s.standbyOutput) with
    | some (i, j) => ⟨.overlap, .overlappingOutputs i j, s, .nothing⟩
    | none => s.acceptOutputSwitch.answerOk

/-- SWITCH_OUTPUT_BANK (R157, R158). -/
def execSwitchOutputBank (h : ReqHead) (s : State) : Host.Outcome State Fault Refusal :=
  .next (s.request (.switchOutputBank h) h switchOutputBankAnswer)

/-! ## Guard requests -/

/-- What WRITE_GUARD answers (R159). -/
def writeGuardAnswer (i lane first last held : Nat) (s : State) : Answer :=
  if 7 < i ∨ 23 < lane ∨ 383 < first ∨ 383 < last then s.refuse .refusedRange
  else if s.lanes.guardStatus ≠ .disabled then s.refuse .refusedState
  else
    (s.withLanes { s.lanes with
      guards := Table.write .blank s.lanes.guards i ⟨lane, first, last, clamp 0 4095 held⟩ }).answerClamped
      (clamps 0 4095 held)

/-- WRITE_GUARD (R159). -/
def execWriteGuard (h : ReqHead) (i lane first last held : Nat) (s : State) : Host.Outcome State Fault Refusal :=
  .next (s.request (.writeGuard h i lane first last held) h (writeGuardAnswer i lane first last held))

/-- What READ_GUARD answers (R159). -/
def readGuardAnswer (s : State) : Answer :=
  s.report (.guards (guardNumbers.map s.guardRange) s.lanes.requestedGuard s.lanes.guardStatus)

/-- READ_GUARD (R159). -/
def execReadGuard (h : ReqHead) (s : State) : Host.Outcome State Fault Refusal :=
  .next (s.request (.readGuard h) h readGuardAnswer)

/-- The requested guard state is set, and lanes not composing adopt it (R160). -/
def State.requestGuard (s : State) (on : Bool) : State :=
  (s.withLanes { s.lanes with requestedGuard := on, guardStatus := .settling }).adoptIdle

/-- What SET_GUARD_ENABLE answers (R160). -/
def setGuardEnableAnswer (on : Option Bool) (s : State) : Answer :=
  match on with
  | none => s.refuse .refusedRange
  | some v =>
      if s.lanes.guardStatus = .settling then s.refuse .refusedState
      else if v then ((s.requestGuard true).wakeGuarded).answerOk
      else (s.requestGuard false).answerOk

/-- SET_GUARD_ENABLE (R160). -/
def execSetGuardEnable (h : ReqHead) (on : Option Bool) (s : State) : Host.Outcome State Fault Refusal :=
  .next (s.request (.setGuardEnable h on) h (setGuardEnableAnswer on))

end Sys2Proof.Machine
end

