-- ==== Sys2Proof/Machine/ManagementCommands.lean ====
section
/-! DEFINITION. The meanings of the management unit's commands (09): MGMT_REQ_COMPLETION, the show-port line,
UNKNOWN_REQUEST, settings, READ_STATUS, READ_COUNTERS, BLOCK_RESET, RESTART. -/

namespace Sys2Proof.Machine

/-! ## Events -/

/-- MGMT_REQ_COMPLETION (R124, R166), at an instant later than the take. -/
def execMgmtReqCompletion (s : State) : Host.Outcome State Fault Refusal :=
  .next
    (match s.ingress.processing with
    | some ⟨f, .request _, taken⟩ =>
        if taken < s.now then (s.joinRequests (decodeRequest f.origin f.dest f.payload)).idleIngress else s
    | _ => s)

/-- SHOW_PORT_TRANSMIT_START (R171, R189), when the line is idle and the outbound queue holds a frame. -/
def execShowPortTransmitStart (takeFirst : Bool) (s : State) : Host.Outcome State Fault Refusal :=
  .next
    (match s.mgmt.line, s.mgmt.outbound with
    | none, f :: rest => s.beginLine f rest takeFirst
    | _, _ => s)

/-- SHOW_PORT_TRANSMIT_END (R171, R176, R180), at an instant later than the beginning. -/
def execShowPortTransmitEnd (s : State) : Host.Outcome State Fault Refusal :=
  .next
    (match s.mgmt.line with
    | some w => if w.begun < s.now then s.endLine w.frame else s
    | none => s)

/-! ## Requests -/

/-- What a request of no defined kind, or too short to carry one, is answered (R169, checks 1 and 2). -/
def unknownRequestAnswer (s : State) : Answer := s.refuse .unknownRequest

/-- UNKNOWN_REQUEST (R169): checks 1 and 2 come before check 3, so the arguments are not looked at. -/
def execUnknownRequest (h : ReqHead) (kind : Option Nat) (s : State) : Host.Outcome State Fault Refusal :=
  .next (s.request (.unknownRequest h kind) { h with fits := true } unknownRequestAnswer)

/-- The pending node address, reported for the node address alone (R174). -/
def State.pendingFor (s : State) (name : SettingName) : Option Nat :=
  if name = .nodeAddress then s.mgmt.pendingNode.map (·.value) else none

/-- What GET_SETTING answers (R174). -/
def getSettingAnswer (setting : Option SettingName) (s : State) : Answer :=
  match setting with
  | none => s.refuse .refusedRange
  | some name => s.report (.settingValue name (s.settings.value name) (s.pendingFor name))

/-- GET_SETTING (R174). -/
def execGetSetting (h : ReqHead) (setting : Option SettingName) (s : State) : Host.Outcome State Fault Refusal :=
  .next (s.request (.getSetting h setting) h (getSettingAnswer setting))

/-- The number of a node address change: one more than that of the change it replaces. -/
def ManagementUnit.nextSerial (m : ManagementUnit) : Nat :=
  match m.pendingNode with
  | some p => p.serial + 1
  | none => 0

/-- SET_SETTING of the node address with a value in range (R176). -/
def State.changeNode (s : State) (v : Nat) : Answer :=
  if s.mgmt.pendingNode.isNone ∧ v = s.settings.nodeAddress then ⟨.ok, .settingStored .nodeAddress v, s, .nothing⟩
  else
    ⟨.ok, .settingStored .nodeAddress v,
      s.withMgmt { s.mgmt with pendingNode := some ⟨v, s.mgmt.nextSerial⟩ }, .nodeAddress s.mgmt.nextSerial⟩

/-- What a newly stored setting reaches at the take (R175): the wake timer, and a pending alert. -/
def State.settingReaches (s : State) (changed : Bool) : SettingName → State
  | .preludeLead => if changed then s.recomputeWake else s
  | .alertMask => s.sendPendingAlert
  | .nodeAddress => s
  | .stationAddress => s
  | .timekeeperAddress => s
  | .restDelay => s
  | .handoverTime => s
  | .lateLimit => s
  | .receiptTime => s
  | .retryLimit => s

/-- A setting other than the node address is stored (R175). -/
def State.storeSetting (s : State) (name : SettingName) (v : Nat) : State :=
  (s.withMgmt { s.mgmt with settings := s.settings.store v name }).settingReaches
    (decide (s.settings.value name ≠ v)) name

/-- What SET_SETTING answers (R175, R176). -/
def setSettingAnswer (setting : Option SettingName) (value : Nat) (s : State) : Answer :=
  match setting with
  | none => s.refuse .refusedRange
  | some name =>
      let lo := (settingRange name).1
      let hi := (settingRange name).2
      if settingIdentity name && clamps lo hi value then s.refuse .refusedRange
      else if name = .nodeAddress then s.changeNode value
      else
        ⟨okOrAdjusted (clamps lo hi value), .settingStored name (clamp lo hi value),
          s.storeSetting name (clamp lo hi value), .nothing⟩

/-- SET_SETTING (R175, R176). -/
def execSetSetting (h : ReqHead) (setting : Option SettingName) (value : Nat) (s : State) :
    Host.Outcome State Fault Refusal :=
  .next (s.request (.setSetting h setting value) h (setSettingAnswer setting value))

/-- The state of a slot as reported (R59). -/
def slotPhase : Option Playback → SlotPhase
  | none => .free
  | some p =>
      match p.phase with
      | .running => .running
      | .holding _ _ => .holding
      | .ending _ => .ending

/-- The image state as reported (R194). -/
def ImageState.phase : ImageState → ImagePhase
  | .empty => .empty
  | .saving _ _ => .saving
  | .saved => .saved
  | .failed => .failed

/-- READ_STATUS's results (R177). -/
def State.statusReport (s : State) : StatusReport where
  runInstant := s.now
  clock := s.time.clock.phase
  towerTime := s.towerTime
  remainder := s.time.remainder
  lastAccepted := s.time.lastAccepted
  lastTick := s.time.lastTick
  agenda := s.calendar.state.phase
  itemCount := s.calendar.agenda.length
  truncated := s.calendar.truncated
  lastActual := s.calendar.lastActual
  slots := slotNumbers.map (fun k => slotPhase (s.slot k))
  inputSwitch := s.ingress.switch
  inputBank := s.ingress.inUse
  outputBank := s.lanes.selected
  outputSwitch := s.lanes.switch
  requestedGuard := s.lanes.requestedGuard
  guardStatus := s.lanes.guardStatus
  image := s.image.state.phase
  faultPending := s.faults.pending
  overflow := s.faults.overflow
  alertPending := s.faults.alertPending
  causes := s.image.causes
  requests := s.mgmt.requests.length
  outbound := s.outboundUsed
  pendingNode := s.mgmt.pendingNode.map (·.value)

/-- What READ_STATUS answers (R177). -/
def readStatusAnswer (s : State) : Answer := s.report (.status s.statusReport)

/-- READ_STATUS (R177). -/
def execReadStatus (h : ReqHead) (s : State) : Host.Outcome State Fault Refusal :=
  .next (s.request (.readStatus h) h readStatusAnswer)

/-- A counter group names a source or lane that exists (R178). -/
def groupExists : CounterGroup → Bool
  | .showPort => true
  | .fixturePort => true
  | .source i => decide (i ≤ 7)
  | .lane l => decide (l ≤ 23)

/-- The counters of a group as they stand (R178). -/
def State.groupCounters (s : State) : CounterGroup → Result
  | .showPort =>
      .showPortCounters s.ingress.counters s.time.acceptedCount s.time.earlyCount s.time.malformedCount
  | .fixturePort => .fixturePortCounters s.lanes.badFrame s.lanes.foreignClass s.lanes.malformedReceipt
  | .source i => .sourceCounters (s.source i).accepted (s.source i).duplicate (s.source i).stale
  | .lane l =>
      .laneCounters (s.lane l).emitted (s.lane l).late (s.lane l).staleReceipts (s.lane l).clipFlag (s.lane l).clipCount

/-- Every counter of a group set to 0, a clip flag cleared (R178). -/
def State.clearGroup (s : State) : CounterGroup → State
  | .showPort =>
      (s.count (fun _ => .zero)).withTime { s.time with acceptedCount := 0, earlyCount := 0, malformedCount := 0 }
  | .fixturePort => s.withLanes { s.lanes with badFrame := 0, foreignClass := 0, malformedReceipt := 0 }
  | .source i => s.setSource i { s.source i with accepted := 0, duplicate := 0, stale := 0 }
  | .lane l =>
      s.setLane l { s.lane l with emitted := 0, late := 0, staleReceipts := 0, clipFlag := false, clipCount := 0 }

/-- What READ_COUNTERS answers (R178). -/
def readCountersAnswer (group : Option CounterGroup) (clear : Option Bool) (s : State) : Answer :=
  match group, clear with
  | some g, some c =>
      if !groupExists g then s.refuse .refusedRange
      else ⟨.ok, s.groupCounters g, if c then s.clearGroup g else s, .nothing⟩
  | _, _ => s.refuse .refusedRange

/-- READ_COUNTERS (R178). -/
def execReadCounters (h : ReqHead) (group : Option CounterGroup) (clear : Option Bool) (s : State) :
    Host.Outcome State Fault Refusal :=
  .next (s.request (.readCounters h group clear) h (readCountersAnswer group clear))

/-- A member of a BLOCK_RESET acts when its bit of the set is set. -/
def State.resetMember (s : State) (members bit : Nat) (f : State → State) : State :=
  if members.testBit bit then f s else s

/-- The members of a BLOCK_RESET, "one after another in the order of the table" (R179). -/
def State.blockReset (s : State) (members : Nat) : State :=
  (((((s.resetMember members 0 State.blockResetTime).resetMember members 1 State.blockResetCalendar).resetMember
    members 2 State.blockResetPlayback).resetMember members 3 State.blockResetIngress).resetMember members 4
    State.blockResetLanes).resetMember members 5 State.resetFaults

/-- What BLOCK_RESET answers (R179). -/
def blockResetAnswer (members : Nat) (s : State) : Answer :=
  if 63 < members then s.refuse .refusedRange
  else ⟨.ok, .resetMembers members, s.blockReset members, .nothing⟩

/-- BLOCK_RESET (R179). -/
def execBlockReset (h : ReqHead) (members : Nat) (s : State) : Host.Outcome State Fault Refusal :=
  .next (s.request (.blockReset h members) h (blockResetAnswer members))

/-- What RESTART answers (R180). -/
def restartAnswer (s : State) : Answer :=
  ⟨.ok, .none, s.withMgmt { s.mgmt with restartPending := true }, .restart⟩

/-- RESTART (R180). -/
def execRestart (h : ReqHead) (s : State) : Host.Outcome State Fault Refusal :=
  .next (s.request (.restart h) h restartAnswer)

end Sys2Proof.Machine
end

