-- ==== Sys2Proof/Machine/PlaybackCommands.lean ====
section
/-! DEFINITION. The meanings of the playback engine's commands (04): the four instants of a slot, START_SHOW, GO,
STOP_PLAYBACK, SET_MASTER, READ_PLAYBACK. -/

namespace Sys2Proof.Machine

/-- NEXT_CUE_INSTANT (R60, R68), when the slot's next-cue instant has come. -/
def execNextCueInstant (k : Nat) (s : State) : Host.Outcome State Fault Refusal :=
  .next
    (match s.slot k with
    | some p => if s.reached (s.nextCueInstant p) then s.cueExecution k else s
    | none => s)

/-- A HOLDING slot at its hold expiry (R61, R74). -/
def State.expireHold (s : State) (k : Nat) (p : Playback) : State :=
  match p.phase with
  | .holding start limit =>
      match holdExpiry start limit with
      | some r => if r ≤ s.instant then s.resumeSlot k p start r else s
      | none => s
  | _ => s

/-- HOLD_EXPIRY (R61, R74), when the hold expiry has come. -/
def execHoldExpiry (k : Nat) (s : State) : Host.Outcome State Fault Refusal :=
  .next
    (match s.slot k with
    | some p => s.expireHold k p
    | none => s)

/-- The release instant of an ENDING slot (R58). -/
def Phase.releaseInstant : Phase → Option Int
  | .ending r => some r
  | _ => none

/-- RELEASE_INSTANT (R76), when the release instant has come. -/
def execReleaseInstant (k : Nat) (s : State) : Host.Outcome State Fault Refusal :=
  .next
    (match s.slot k with
    | some p => if s.reached p.phase.releaseInstant then s.release k else s
    | none => s)

/-- The end instant as watched: in RUNNING and HOLDING (R61, R76). -/
def Playback.watchedEnd (p : Playback) : Option Int :=
  match p.phase with
  | .ending _ => none
  | _ => p.endInstant

/-- END_INSTANT (R76), when the end instant has come. -/
def execEndInstant (k : Nat) (s : State) : Host.Outcome State Fault Refusal :=
  .next
    (match s.slot k with
    | some p => if s.reached p.watchedEnd then s.release k else s
    | none => s)

/-- What START_SHOW answers (R62, R64, R65, R67). -/
def startShowAnswer (sh priority : Nat) (s : State) : Answer :=
  let q : StartRequest := ⟨sh, priority, .manual, 0, none⟩
  if 63 < sh ∨ 7 < priority then s.refuse .refusedRange
  else if !s.showReady sh then s.refuse .notReady
  else
    match s.chooseSlot priority with
    | .free k => ⟨.ok, .started k none, s.placeStart q, .nothing⟩
    | .preempt k p => ⟨.ok, .started k (some (p.showNo, p.origin)), s.placeStart q, .nothing⟩
    | .refused => ⟨.refusedState, .none, s.placeStart q, .nothing⟩

/-- START_SHOW (R62 to R67). -/
def execStartShow (h : ReqHead) (sh priority : Nat) (s : State) : Host.Outcome State Fault Refusal :=
  .next (s.request (.startShow h sh priority) h (startShowAnswer sh priority))

/-- What GO answers (R74). -/
def goAnswer (k : Nat) (s : State) : Answer :=
  if 3 < k then s.refuse .refusedRange
  else
    match s.slot k with
    | none => s.refuse .refusedState
    | some p =>
        match p.phase with
        | .holding start _ => (s.resumeSlot k p start s.instant).answerOk
        | _ => s.refuse .refusedState

/-- GO (R74). -/
def execGo (h : ReqHead) (k : Nat) (s : State) : Host.Outcome State Fault Refusal :=
  .next (s.request (.go h k) h (goAnswer k))

/-- The effect of STOP_PLAYBACK by the slot's state (R77). -/
def State.stopSlot (s : State) (k : Nat) (p : Playback) (fade : Nat) : State :=
  match p.phase with
  | .running => s.endSlot k p s.instant fade
  | .holding start _ => s.endSlot k (p.resumed start s.instant) s.instant fade
  | .ending _ => s.release k

/-- What STOP_PLAYBACK answers (R77). -/
def stopPlaybackAnswer (k fade : Nat) (s : State) : Answer :=
  if 3 < k then s.refuse .refusedRange
  else
    match s.slot k with
    | none => s.refuse .refusedState
    | some p => (s.stopSlot k p (clamp 0 600000 fade)).answerClamped (clamps 0 600000 fade)

/-- STOP_PLAYBACK (R77). -/
def execStopPlayback (h : ReqHead) (k fade : Nat) (s : State) : Host.Outcome State Fault Refusal :=
  .next (s.request (.stopPlayback h k fade) h (stopPlaybackAnswer k fade))

/-- What SET_MASTER answers (R78). -/
def setMasterAnswer (k level fade : Nat) (s : State) : Answer :=
  if 3 < k then s.refuse .refusedRange
  else
    match s.slot k with
    | none => s.refuse .refusedState
    | some p =>
        (s.setSlot k (some (p.fadeMaster s.instant (clamp 0 4096 level) (clamp 0 600000 fade)))).answerClamped
          (clamps 0 4096 level || clamps 0 600000 fade)

/-- SET_MASTER (R78). -/
def execSetMaster (h : ReqHead) (k level fade : Nat) (s : State) : Host.Outcome State Fault Refusal :=
  .next (s.request (.setMaster h k level fade) h (setMasterAnswer k level fade))

/-- READ_PLAYBACK's results (R79). -/
def State.playbackReport (s : State) (k : Nat) : PlaybackReport where
  slot := s.slot k
  showTime := (s.slot k).map (fun p => p.showTime s.instant)
  master := (s.slot k).map (fun p => p.master.value s.instant)
  nextCueInstant := (s.slot k).bind s.nextCueInstant
  duplicateStarts := s.playback.duplicateStarts
  expiredStarts := s.playback.expiredStarts

/-- What READ_PLAYBACK answers (R79). -/
def readPlaybackAnswer (k : Nat) (s : State) : Answer :=
  if 3 < k then s.refuse .refusedRange else s.report (.playback (s.playbackReport k))

/-- READ_PLAYBACK (R79). -/
def execReadPlayback (h : ReqHead) (k : Nat) (s : State) : Host.Outcome State Fault Refusal :=
  .next (s.request (.readPlayback h k) h (readPlaybackAnswer k))

end Sys2Proof.Machine
end

