-- ==== Sys2Proof/Machine/ShowCommands.lean ====
section
/-! DEFINITION. The meanings of the cue store's requests (03): OPEN_SHOW, WRITE_CUES, CLOSE_SHOW, DELETE_SHOW,
READ_CUES, READ_SHOW. -/

namespace Sys2Proof.Machine

/-- An allocation for a show out of the given runs, or NO_ROOM (R44, R46). -/
def State.openIn (s : State) (runs : List (Nat × Nat)) (sh count : Nat) : Answer :=
  match allocate runs count with
  | some base => ⟨.ok, .showOpened base, s.allocateShow sh base count, .nothing⟩
  | none => s.refuse .noRoom

/-- The runs once a show's own run is freed (R47). -/
def State.runsWithout (s : State) (sh : Nat) : List (Nat × Nat) := (s.setShow sh .blank).runs

/-- What OPEN_SHOW answers (R46, R47). -/
def openShowAnswer (sh count : Nat) (s : State) : Answer :=
  if 63 < sh ∨ count = 0 ∨ 4096 < count then s.refuse .refusedRange
  else
    match (s.showRecord sh).state with
    | .empty => s.openIn s.runs sh count
    | .ready _ _ => if 0 < (s.showRecord sh).playing then s.refuse .refusedState else s.openIn (s.runsWithout sh) sh count
    | .loading _ _ => s.refuse .refusedState

/-- OPEN_SHOW (R46, R47). -/
def execOpenShow (h : ReqHead) (sh count : Nat) (s : State) : Host.Outcome State Fault Refusal :=
  .next (s.request (.openShow h sh count) h (openShowAnswer sh count))

/-- WRITE_CUES of a show in LOADING with records that R48 names (R49, R50). -/
def State.storeCues (s : State) (base count first : Nat) (rs : List (CueRecord × Bool)) : Answer :=
  if count < first + rs.length then s.refuse .refusedRange
  else
    ⟨okOrAdjusted (rs.any (·.2)), .cuesStored rs.length, s.writeCueRecords (base + first) (rs.map (·.1)), .nothing⟩

/-- What WRITE_CUES answers (R49, R50). -/
def writeCuesAnswer (sh first : Nat) (records : List CueArgs) (s : State) : Answer :=
  if 63 < sh then s.refuse .refusedRange
  else
    match (s.showRecord sh).state with
    | .empty => s.refuse .refusedState
    | .ready _ _ =>
        if records.length = 0 ∨ 16 < records.length ∨ (cueRecords records).isNone then s.refuse .refusedRange
        else s.refuse .refusedState
    | .loading base count =>
        if records.length = 0 ∨ 16 < records.length then s.refuse .refusedRange
        else
          match cueRecords records with
          | none => s.refuse .refusedRange
          | some rs => s.storeCues base count first rs

/-- WRITE_CUES (R49, R50). -/
def execWriteCues (h : ReqHead) (sh first : Nat) (records : List CueArgs) (s : State) :
    Host.Outcome State Fault Refusal :=
  .next (s.request (.writeCues h sh first records) h (writeCuesAnswer sh first records))

/-- What CLOSE_SHOW answers (R51). -/
def closeShowAnswer (sh : Nat) (s : State) : Answer :=
  if 63 < sh then s.refuse .refusedRange
  else
    match (s.showRecord sh).state with
    | .loading base count =>
        match s.firstBad base count with
        | none => (s.setShow sh { s.showRecord sh with state := .ready base count }).answerOk
        | some (i, reason) => ⟨.notReady, .badRecord i reason, s, .nothing⟩
    | _ => s.refuse .refusedState

/-- CLOSE_SHOW (R51). -/
def execCloseShow (h : ReqHead) (sh : Nat) (s : State) : Host.Outcome State Fault Refusal :=
  .next (s.request (.closeShow h sh) h (closeShowAnswer sh))

/-- What DELETE_SHOW answers (R52). -/
def deleteShowAnswer (sh : Nat) (s : State) : Answer :=
  if 63 < sh then s.refuse .refusedRange
  else if 0 < (s.showRecord sh).playing then s.refuse .refusedState
  else (s.setShow sh { s.showRecord sh with state := .empty }).answerOk

/-- DELETE_SHOW (R52). -/
def execDeleteShow (h : ReqHead) (sh : Nat) (s : State) : Host.Outcome State Fault Refusal :=
  .next (s.request (.deleteShow h sh) h (deleteShowAnswer sh))

/-- What READ_CUES answers (R53). -/
def readCuesAnswer (sh first number : Nat) (s : State) : Answer :=
  if 63 < sh then s.refuse .refusedRange
  else
    match (s.showRecord sh).state.run with
    | none => s.refuse .notReady
    | some (base, count) =>
        if number = 0 ∨ 16 < number ∨ count < first + number then s.refuse .refusedRange
        else s.report (.cues ((List.range number).map (fun i => s.cue (base + first + i))))

/-- READ_CUES (R53). -/
def execReadCues (h : ReqHead) (sh first number : Nat) (s : State) : Host.Outcome State Fault Refusal :=
  .next (s.request (.readCues h sh first number) h (readCuesAnswer sh first number))

/-- The written count that READ_SHOW reports (R54). -/
def State.reportedWritten (s : State) : ShowState → Option Nat
  | .empty => none
  | .loading base count => some (s.writtenCount base count)
  | .ready _ count => some count

/-- READ_SHOW's results (R54). -/
def State.showReport (s : State) (sh : Nat) : ShowReport where
  state := (s.showRecord sh).state
  playing := (s.showRecord sh).playing
  written := s.reportedWritten (s.showRecord sh).state
  freeRecords := freeRecords s.runs
  largestRun := ((longestFree s.runs).map (·.1)).getD 0
  lowestBase := (longestFree s.runs).map (·.2)

/-- What READ_SHOW answers (R54). -/
def readShowAnswer (sh : Nat) (s : State) : Answer :=
  if 63 < sh then s.refuse .refusedRange else s.report (.showRecord (s.showReport sh))

/-- READ_SHOW (R54). -/
def execReadShow (h : ReqHead) (sh : Nat) (s : State) : Host.Outcome State Fault Refusal :=
  .next (s.request (.readShow h sh) h (readShowAnswer sh))

end Sys2Proof.Machine
end

