-- ==== Sys2Proof/Machine/TimeCommands.lean ====
section
/-! DEFINITION. The meanings of the time unit's commands (01): RUN_CLOCK_ADVANCE, LOSS_TIMER_EXPIRY,
TIME_FRAME_COMPLETION, SET_TIME. -/

namespace Sys2Proof.Machine

/-- RUN_CLOCK_ADVANCE (R1, R3, R10, R13, R14, R30). -/
def execRunClockAdvance (s : State) : Host.Outcome State Fault Refusal := .next s.countRunClock.advanceTower

/-- The loss timer's expiry (R11). -/
def State.loseTimekeeper (s : State) : State :=
  (s.withTime { s.time with clock := s.time.clock.freewheeling, remainder := 0, lossTimer := none }).recordFault .timeLost

/-- LOSS_TIMER_EXPIRY (R11), when the timer is due. -/
def execLossTimerExpiry (s : State) : Host.Outcome State Fault Refusal :=
  .next (if timerDue s.time.lossTimer s.now then s.loseTimekeeper else s)

/-- TIME_FRAME_COMPLETION (R5, R6, R9, R121), at an instant later than the take. -/
def execTimeFrameCompletion (s : State) : Host.Outcome State Fault Refusal :=
  .next
    (match s.ingress.processing with
    | some ⟨f, .time _, taken⟩ => if taken < s.now then (s.deliverTime f.payload).idleIngress else s
    | _ => s)

/-- What SET_TIME answers (R12). -/
def setTimeAnswer (day ms : Nat) (s : State) : Answer :=
  if !towerTimeFits day ms then s.refuse .refusedRange
  else
    match s.towerTime with
    | none => ⟨.ok, .timeApplied .set none, s.setFromUnset (.freewheel ⟨day, ms⟩), .nothing⟩
    | some t =>
        let d := timeDifference ⟨day, ms⟩ t
        ⟨.ok, .timeApplied (if d.natAbs ≤ 200 then .slewed else .stepped) (some d), s.slewOrStep ⟨day, ms⟩ t, .nothing⟩

/-- SET_TIME (R12). -/
def execSetTime (h : ReqHead) (day ms : Nat) (s : State) : Host.Outcome State Fault Refusal :=
  .next (s.request (.setTime h day ms) h (setTimeAnswer day ms))

end Sys2Proof.Machine
end

