-- ==== Sys2Proof/Machine/ZoneCommands.lean ====
section
/-! DEFINITION. The meanings of the zone mixer's commands (05, 06): HANDOVER_END, WRITE_HOUSE_LOOK, READ_ZONE, the
ceiling requests. -/

namespace Sys2Proof.Machine

/-- HANDOVER_END (R82), when the run clock has reached the handover's end instant. -/
def execHandoverEnd (z : Nat) (s : State) : Host.Outcome State Fault Refusal :=
  .next
    (match (s.zone z).handover with
    | some h => if h.finish ≤ s.instant then s.setZone z { s.zone z with handover := none } else s
    | none => s)

/-- A component of a look is clamped (R83). -/
def lookClamps (l : Look) : Bool := clamps 0 4095 l.red || clamps 0 4095 l.green || clamps 0 4095 l.blue

/-- What WRITE_HOUSE_LOOK answers (R83). -/
def writeHouseLookAnswer (first count : Nat) (l : Look) (s : State) : Answer :=
  if !zonesFit first count then s.refuse .refusedRange
  else (s.setHouseLooks first count (clampLook l)).answerClamped (lookClamps l)

/-- WRITE_HOUSE_LOOK (R83). -/
def execWriteHouseLook (h : ReqHead) (first count : Nat) (l : Look) (s : State) :
    Host.Outcome State Fault Refusal :=
  .next (s.request (.writeHouseLook h first count l) h (writeHouseLookAnswer first count l))

/-- The layer of slot k as READ_ZONE reports it (R100). -/
def State.layerReport (s : State) (z k : Nat) : Option LayerReport :=
  (s.layer k z).map (fun l => ⟨k, l, s.layerValue z l s.instant⟩)

/-- READ_ZONE's results (R100). -/
def State.zoneReport (s : State) (z : Nat) : ZoneReport where
  owner := (s.zone z).owner
  house := (s.zone z).house
  handover := (s.zone z).handover
  layers := slotNumbers.filterMap (s.layerReport z)
  ownerValue := s.ownerValue z s.instant
  value := s.zoneValue z s.instant
  live := sourceNumbers.map (fun i => (s.stored i z, s.mapped i z))

/-- What READ_ZONE answers (R100). -/
def readZoneAnswer (z : Nat) (s : State) : Answer :=
  if 239 < z then s.refuse .refusedRange else s.report (.zone (s.zoneReport z))

/-- READ_ZONE (R100). -/
def execReadZone (h : ReqHead) (z : Nat) (s : State) : Host.Outcome State Fault Refusal :=
  .next (s.request (.readZone h z) h (readZoneAnswer z))

/-- s with a ceiling band replaced. -/
def State.setBand (s : State) (i : Nat) (b : Band) : State :=
  s.withMixer { s.mixer with bands := Table.write .blank s.mixer.bands i b }

/-- What WRITE_CEILING_BAND answers (R111). -/
def writeCeilingBandAnswer (i fromMs ceiling : Nat) (s : State) : Answer :=
  if 7 < i ∨ msPerDay ≤ fromMs then s.refuse .refusedRange
  else (s.setBand i ⟨true, fromMs, clamp 0 4095 ceiling⟩).answerClamped (clamps 0 4095 ceiling)

/-- WRITE_CEILING_BAND (R111). -/
def execWriteCeilingBand (h : ReqHead) (i fromMs ceiling : Nat) (s : State) : Host.Outcome State Fault Refusal :=
  .next (s.request (.writeCeilingBand h i fromMs ceiling) h (writeCeilingBandAnswer i fromMs ceiling))

/-- What CLEAR_CEILING_BAND answers (R111). -/
def clearCeilingBandAnswer (i : Nat) (s : State) : Answer :=
  if 7 < i then s.refuse .refusedRange else (s.setBand i { s.band i with present := false }).answerOk

/-- CLEAR_CEILING_BAND (R111). -/
def execClearCeilingBand (h : ReqHead) (i : Nat) (s : State) : Host.Outcome State Fault Refusal :=
  .next (s.request (.clearCeilingBand h i) h (clearCeilingBandAnswer i))

/-- READ_CEILING's results (R115). -/
def State.ceilingReport (s : State) : CeilingReport where
  bands := bandNumbers.map s.band
  basis := s.towerTime.map (·.ms)
  inForce := s.bandIndexInForce
  ceiling := s.ceilingInForce

/-- What READ_CEILING answers (R115). -/
def readCeilingAnswer (s : State) : Answer := s.report (.ceiling s.ceilingReport)

/-- READ_CEILING (R115). -/
def execReadCeiling (h : ReqHead) (s : State) : Host.Outcome State Fault Refusal :=
  .next (s.request (.readCeiling h) h readCeilingAnswer)

end Sys2Proof.Machine
end

