-- ==== Sys2Proof/Machine/Dispatch.lean ====
section
/-! DEFINITION. The meaning of every command: one arm per constructor of Instr, each a call of its meaning. -/

namespace Sys2Proof.Machine

/-- What a command does to everything but the queue of waiting commands. -/
def exec (i : Instr) (s : State) : Host.Outcome State Fault Refusal :=
  match i with
  | .powerOn => Sys2Proof.Machine.execPowerOn s
  | .resetLine heldMs => Sys2Proof.Machine.execResetLine heldMs s
  | .runClockAdvance => Sys2Proof.Machine.execRunClockAdvance s
  | .lossTimerExpiry => Sys2Proof.Machine.execLossTimerExpiry s
  | .wakeTimerExpiry => Sys2Proof.Machine.execWakeTimerExpiry s
  | .restTimerExpiry => Sys2Proof.Machine.execRestTimerExpiry s
  | .buildCompletion => Sys2Proof.Machine.execBuildCompletion s
  | .nextCueInstant slot => Sys2Proof.Machine.execNextCueInstant slot s
  | .holdExpiry slot => Sys2Proof.Machine.execHoldExpiry slot s
  | .releaseInstant slot => Sys2Proof.Machine.execReleaseInstant slot s
  | .endInstant slot => Sys2Proof.Machine.execEndInstant slot s
  | .handoverEnd zone => Sys2Proof.Machine.execHandoverEnd zone s
  | .showPortArrival octets => Sys2Proof.Machine.execShowPortArrival octets s
  | .ingressTake => Sys2Proof.Machine.execIngressTake s
  | .levelFrameCompletion => Sys2Proof.Machine.execLevelFrameCompletion s
  | .timeFrameCompletion => Sys2Proof.Machine.execTimeFrameCompletion s
  | .mgmtReqCompletion => Sys2Proof.Machine.execMgmtReqCompletion s
  | .livenessTimerExpiry source => Sys2Proof.Machine.execLivenessTimerExpiry source s
  | .showPortTransmitStart takeFirst => Sys2Proof.Machine.execShowPortTransmitStart takeFirst s
  | .showPortTransmitEnd => Sys2Proof.Machine.execShowPortTransmitEnd s
  | .receiptArrival octets => Sys2Proof.Machine.execReceiptArrival octets s
  | .receiptTimerExpiry lane => Sys2Proof.Machine.execReceiptTimerExpiry lane s
  | .periodEvent lane => Sys2Proof.Machine.execPeriodEvent lane s
  | .fixtureTransmitStart => Sys2Proof.Machine.execFixtureTransmitStart s
  | .fixtureTransmitEnd => Sys2Proof.Machine.execFixtureTransmitEnd s
  | .imageWriteEnd agrees => Sys2Proof.Machine.execImageWriteEnd agrees s
  | .unknownRequest h kind => Sys2Proof.Machine.execUnknownRequest h kind s
  | .setTime h day ms => Sys2Proof.Machine.execSetTime h day ms s
  | .writeCalendarEntry h index fields => Sys2Proof.Machine.execWriteCalendarEntry h index fields s
  | .clearCalendarEntry h index => Sys2Proof.Machine.execClearCalendarEntry h index s
  | .readCalendarEntry h index => Sys2Proof.Machine.execReadCalendarEntry h index s
  | .readAgenda h => Sys2Proof.Machine.execReadAgenda h s
  | .rebuildAgenda h g => Sys2Proof.Machine.execRebuildAgenda h g s
  | .openShow h showNo count => Sys2Proof.Machine.execOpenShow h showNo count s
  | .writeCues h showNo first records => Sys2Proof.Machine.execWriteCues h showNo first records s
  | .closeShow h showNo => Sys2Proof.Machine.execCloseShow h showNo s
  | .deleteShow h showNo => Sys2Proof.Machine.execDeleteShow h showNo s
  | .readCues h showNo first number => Sys2Proof.Machine.execReadCues h showNo first number s
  | .readShow h showNo => Sys2Proof.Machine.execReadShow h showNo s
  | .startShow h showNo priority => Sys2Proof.Machine.execStartShow h showNo priority s
  | .go h slot => Sys2Proof.Machine.execGo h slot s
  | .stopPlayback h slot fade => Sys2Proof.Machine.execStopPlayback h slot fade s
  | .setMaster h slot level fade => Sys2Proof.Machine.execSetMaster h slot level fade s
  | .readPlayback h slot => Sys2Proof.Machine.execReadPlayback h slot s
  | .writeHouseLook h zoneFirst zoneCount look => Sys2Proof.Machine.execWriteHouseLook h zoneFirst zoneCount look s
  | .readZone h zone => Sys2Proof.Machine.execReadZone h zone s
  | .writeCeilingBand h index fromMs ceiling => Sys2Proof.Machine.execWriteCeilingBand h index fromMs ceiling s
  | .clearCeilingBand h index => Sys2Proof.Machine.execClearCeilingBand h index s
  | .readCeiling h => Sys2Proof.Machine.execReadCeiling h s
  | .writeSource h source enabled origin lossTime => Sys2Proof.Machine.execWriteSource h source enabled origin lossTime s
  | .forgetSequence h source => Sys2Proof.Machine.execForgetSequence h source s
  | .readSource h source => Sys2Proof.Machine.execReadSource h source s
  | .writeInputPatch h index fields => Sys2Proof.Machine.execWriteInputPatch h index fields s
  | .readInputPatch h bank index => Sys2Proof.Machine.execReadInputPatch h bank index s
  | .copyInputBank h => Sys2Proof.Machine.execCopyInputBank h s
  | .switchInputBank h => Sys2Proof.Machine.execSwitchInputBank h s
  | .writeLane h lane fields => Sys2Proof.Machine.execWriteLane h lane fields s
  | .readLane h lane => Sys2Proof.Machine.execReadLane h lane s
  | .restLanes h set => Sys2Proof.Machine.execRestLanes h set s
  | .wakeLanes h set => Sys2Proof.Machine.execWakeLanes h set s
  | .writeOutputPatch h index fields => Sys2Proof.Machine.execWriteOutputPatch h index fields s
  | .readOutputPatch h bank index => Sys2Proof.Machine.execReadOutputPatch h bank index s
  | .copyOutputBank h => Sys2Proof.Machine.execCopyOutputBank h s
  | .switchOutputBank h => Sys2Proof.Machine.execSwitchOutputBank h s
  | .writeGuard h index lane first last held => Sys2Proof.Machine.execWriteGuard h index lane first last held s
  | .readGuard h => Sys2Proof.Machine.execReadGuard h s
  | .setGuardEnable h on => Sys2Proof.Machine.execSetGuardEnable h on s
  | .getSetting h setting => Sys2Proof.Machine.execGetSetting h setting s
  | .setSetting h setting value => Sys2Proof.Machine.execSetSetting h setting value s
  | .readStatus h => Sys2Proof.Machine.execReadStatus h s
  | .readCounters h group clear => Sys2Proof.Machine.execReadCounters h group clear s
  | .blockReset h members => Sys2Proof.Machine.execBlockReset h members s
  | .restart h => Sys2Proof.Machine.execRestart h s
  | .readFaults h => Sys2Proof.Machine.execReadFaults h s
  | .clearFault h index => Sys2Proof.Machine.execClearFault h index s
  | .clearOverflow h => Sys2Proof.Machine.execClearOverflow h s
  | .saveImage h => Sys2Proof.Machine.execSaveImage h s
  | .clearResetCause h flags => Sys2Proof.Machine.execClearResetCause h flags s

end Sys2Proof.Machine
end

