-- ==== Sys2Proof/Safety.lean ====
section
/-! DEFINITION. The terms of the claims: when a request is taken and what its reply leaves, the invariants that every
step keeps, which records of cue memory are free and which cues are out of range, and what firings, starts, losses, full
resets and lane frames leave. -/

namespace Sys2Proof.Machine

/-! ## Requests -/

/-- The command of request c is taken when it comes: the unit may take (R167), and no request waits or c is the
oldest that does. -/
def State.Free (s : State) (c : Instr) : Prop :=
  s.mgmt.outbound.length < 8 ∧ s.mgmt.restartPending = false ∧
    (s.mgmt.requests = [] ∨ s.mgmt.requests.head? = some c)

/-- Request c, with head h, is taken when its command comes, and its arguments fit its kind (R167, R169). -/
def State.Takes (s : State) (c : Instr) (h : ReqHead) : Prop := s.Free c ∧ h.fits = true

/-- A management unit once request c, with head h, has left the request queue and its reply stands at the tail of the
outbound queue: to the frame's origin, from the node address n, with the frame's tag and kind (R166 to R168). -/
def ManagementUnit.replied (m : ManagementUnit) (c : Instr) (h : ReqHead) (n : Nat) (v : Verdict) (r : Result)
    (e : ReplyEnd := .nothing) : ManagementUnit :=
  { m with
    requests := m.requests.tail
    outbound := m.outbound ++ [.reply ⟨h.origin, n, c.kindNumber.map (fun k => (h.tag, k)), v, r, e⟩]
    replyReserved := false }

/-- The management unit of s once request c is answered (R166 to R168). -/
def State.replied (s : State) (c : Instr) (h : ReqHead) (v : Verdict) (r : Result) (e : ReplyEnd := .nothing) :
    ManagementUnit := s.mgmt.replied c h s.settings.nodeAddress v r e

/-- The effect of request c is no more than its reply: no other state changes. -/
def State.repliesOnly (s : State) (c : Instr) (h : ReqHead) (v : Verdict) (r : Result) : State :=
  s.withMgmt (s.replied c h v r)

/-- The ingress processor once a frame's processing or its drop is over: idle, with a waiting switch completed
(R121, R137). -/
def IngressProcessor.released (g : IngressProcessor) : IngressProcessor :=
  { g with
    processing := none
    inUse := if g.switch = .switching then g.inUse.other else g.inUse
    switch := .idle }

/-! ## Invariants -/

/-- No queue holds more than its places, and no place is reserved between commands (R119, R124, R166, R167, R171). -/
def State.QueuesBounded (s : State) : Prop :=
  s.ingress.queue.length ≤ 12 ∧ s.mgmt.requests.length ≤ 4 ∧ s.mgmt.outbound.length ≤ 8 ∧
    s.mgmt.replyReserved = false

/-- The fault table's flags agree with its records (R182 to R189): pending is set exactly when a record is present,
the first-pending index then names a present record, nothing is counted as dropped without overflow, and an alert is
pending only while pending or overflow is set. -/
def FaultTable.Agrees (f : FaultTable) : Prop :=
  Table.wf none f.records = true ∧ (∀ p ∈ f.records, p.1 < 8) ∧ f.nextWrite < 8 ∧
    (f.pending = true ↔ f.records ≠ []) ∧
    (f.first.isSome = f.pending) ∧ (∀ i, f.first = some i → (Table.read none f.records i).isSome = true) ∧
    f.dropped ≤ 255 ∧ (f.overflow = false → f.dropped = 0) ∧
    (f.alertPending = true → f.pending = true ∨ f.overflow = true)

/-- The time unit's state is in the ranges of its table, and its clock state, remainder and loss timer agree (01,
opening tables). -/
def TimeUnit.Consistent (t : TimeUnit) : Prop :=
  t.runClock ≤ lastInstant ∧ t.remainder.natAbs ≤ 200 ∧ t.earlyRun ≤ 2 ∧ t.earlyCount ≤ 255 ∧
    t.malformedCount ≤ 255 ∧ t.acceptedCount < 4294967296 ∧
    (∀ p, t.clock.time = some p → p.day ≤ lastDay ∧ p.ms < msPerDay) ∧
    (t.clock = .unset → t.remainder = 0) ∧ (t.lossTimer.isSome = true ↔ t.clock.phase = .locked)

/-- Without tower time the agenda is empty and STALE and the wake timer is stopped (R37, R38, R41). -/
def State.TimelessIsStale (s : State) : Prop :=
  s.towerTime = none → s.calendar.agenda = [] ∧ s.calendar.state = .stale ∧ s.calendar.wakeTimer = none

/-- The agenda holds at most 24 items, none before an earlier one in agenda order, no two of the same start (R23). -/
def CalendarEngine.Ordered (c : CalendarEngine) : Prop :=
  c.agenda.length ≤ 24 ∧ c.agenda.Pairwise (fun a b => b.before a = false) ∧
    c.agenda.Pairwise (fun a b => a.sameStart b = false)

/-- The number of slots that play a show. -/
def State.slotsPlaying (s : State) (sh : Nat) : Nat :=
  slotNumbers.countP (fun k => (s.slot k).any (fun p => decide (p.showNo = sh)))

/-- An image holds no playing count (R192). -/
def Image.Silent (i : Image) : Prop := ∀ p ∈ i.shows, p.2.playing = 0

/-- Neither the stored image nor a snapshot being written holds a playing count (R192). -/
def ImageStore.Silent (i : ImageStore) : Prop :=
  (∀ img, i.stored = .image img → img.Silent) ∧ (∀ img begun, i.state = .saving img begun → img.Silent)

/-- Every playing count is the number of slots that play the show, and a slot plays only a READY show (R43, R45,
R47, R52, R62). -/
def State.PlayingCounts (s : State) : Prop :=
  (∀ p ∈ s.playback.slots, p.1 < 4) ∧ (∀ sh, (s.showRecord sh).playing = s.slotsPlaying sh) ∧
    (∀ k p, s.slot k = some p → s.showReady p.showNo = true) ∧ s.image.Silent

/-- A zone's layers are in the canonical form and its owner is the one that the ownership rule gives (R91). -/
def Zone.Owned (r : Zone) : Prop := Table.wf none r.layers = true ∧ r.owner = strongest r.layers

/-- Every zone is owned by the strongest of its layers (R91, R92). -/
def State.ZonesOwned (s : State) : Prop := Table.wf .blank s.mixer.zones = true ∧ ∀ p ∈ s.mixer.zones, p.2.Owned

/-- A layer of a zone belongs to a slot that is not FREE (R75, R84). -/
def State.LayersHaveSlots (s : State) : Prop :=
  s.ZonesOwned ∧ ∀ z k, z < 240 → (s.layer k z).isSome = true → (s.slot k).isSome = true

/-- A switch of the input bank waits only for a frame in processing (R137). -/
def IngressProcessor.SwitchWaits (g : IngressProcessor) : Prop := g.switch = .switching → g.processing.isSome = true

/-- The two statuses of the lane controller tell what its lanes use, a lane that does not compose uses what is
selected and requested, and its timers run only in the states that start them (R142, R143, R158, R160). -/
def State.LanesAgree (s : State) : Prop :=
  (s.lanes.switch = .idle → ∀ l ∈ laneNumbers, (s.lane l).bank = s.lanes.selected) ∧
    (s.lanes.guardStatus ≠ .settling →
      (∀ l ∈ laneNumbers, (s.lane l).guardInUse = s.lanes.requestedGuard) ∧
        (s.lanes.guardStatus = .enabled ↔ s.lanes.requestedGuard = true)) ∧
    (∀ l ∈ laneNumbers, (s.lane l).composing = false →
      (s.lane l).bank = s.lanes.selected ∧ (s.lane l).guardInUse = s.lanes.requestedGuard) ∧
    (∀ l, (s.lane l).receiptTimer.isSome = true → (s.lane l).state = .setup) ∧
    (∀ l, (s.lane l).periodTimer.isSome = true ↔ (s.lane l).composing = true)

/-- The output switch is IDLE and guarding is not SETTLING as soon as every lane has adopted (R158, R160). -/
def State.LanesSettled (s : State) : Prop :=
  ((∀ l ∈ laneNumbers, (s.lane l).bank = s.lanes.selected) → s.lanes.switch = .idle) ∧
    ((∀ l ∈ laneNumbers, (s.lane l).guardInUse = s.lanes.requestedGuard) → s.lanes.guardStatus ≠ .settling)

/-- The settings are in the ranges of R173. -/
def Settings.InRange (t : Settings) : Prop :=
  ∀ name, (settingRange name).1 ≤ t.value name ∧ t.value name ≤ (settingRange name).2

/-- Every setting in force, pending, stored or being written is in its range (R173, R175, R176, R192). -/
def State.SettingsLegal (s : State) : Prop :=
  s.settings.InRange ∧ (∀ p, s.mgmt.pendingNode = some p → 1 ≤ p.value ∧ p.value ≤ 254) ∧
    (∀ img, s.image.stored = .image img → img.settings.InRange) ∧
    (∀ img begun, s.image.state = .saving img begun → img.settings.InRange)

/-! ## Firing and the wake timer -/

/-- The wake timer as recomputed for an agenda at tower time t: the head's instant less the prelude lead and t, at
least 0, from now; stopped with no head (R38). -/
def State.wakeAt (s : State) (agenda : List AgendaItem) (t : TowerTime) : Option Nat :=
  agenda.head?.map (fun it => s.now + (it.instant.abs - 1000 * s.settings.preludeLead - t.abs))

/-- What is left of an agenda once the items of due have fired: neither those items nor, for a once-entry of theirs,
any item of that entry (R30, steps 1 and 3). -/
def State.agendaAfter (s : State) (agenda due : List AgendaItem) : List AgendaItem :=
  agenda.filter (fun a => due.all (fun it =>
    !a.sameStart it && !((s.entry a.entry).once && decide (it.entry = a.entry))))

/-- Entry e once the items of due have fired in their order: a once-entry has fired its first item there and is SPENT,
any other has fired all of them; last fired is the instant of the last that fired (R30, steps 2 and 3). -/
def State.entryAfter (s : State) (due : List AgendaItem) (e : Nat) : CalendarEntry :=
  let mine := due.filter (fun it => decide (it.entry = e))
  if (s.entry e).once then
    match mine.head? with
    | some it => { s.entry e with lastFired := some it.instant, state := .spent }
    | none => s.entry e
  else
    match mine.getLast? with
    | some it => { s.entry e with lastFired := some it.instant }
    | none => s.entry e

/-- s once an item has left the agenda and marked its entry, before its start: last fired is the item's instant, and a
once-entry is SPENT and has no other item left (R30, steps 1 to 3). -/
def State.marked (s : State) (it : AgendaItem) : State :=
  let t := s.setEntry it.entry
    { s.entry it.entry with
      lastFired := some it.instant
      state := if (s.entry it.entry).once then .spent else (s.entry it.entry).state }
  t.withCalendar { t.calendar with agenda := s.agendaAfter s.calendar.agenda [it] }

/-- The firing of one item at a lateness leads from s to u (R30, R31): nothing happens when the item has left the agenda;
otherwise, once its entry is marked, MISSED_START is recorded past the late limit, SHOW_NOT_READY within it when the show
is not READY, and within it a READY show's start goes to the playback engine. -/
def State.FiredItem (s u : State) (it : AgendaItem) (lateness : Nat) : Prop :=
  ((∀ a ∈ s.calendar.agenda, ¬ (a.entry = it.entry ∧ a.instant = it.instant)) → u = s) ∧
    ((∃ a ∈ s.calendar.agenda, a.entry = it.entry ∧ a.instant = it.instant) →
      (1000 * s.settings.lateLimit < lateness → u = (s.marked it).recordFault (.missedStart it.entry)) ∧
      (lateness ≤ 1000 * s.settings.lateLimit → s.showReady it.showNo = false →
        u = (s.marked it).recordFault (.showNotReady it.entry)) ∧
      (lateness ≤ 1000 * s.settings.lateLimit → s.showReady it.showNo = true →
        u = (s.marked it).calendarStart it lateness))

/-- The firings of the items of a list at tower time p, one after another, lead from s to t (R30, R31). -/
def State.FireRun (p : TowerTime) : List AgendaItem → State → State → Prop
  | [], s, t => t = s
  | it :: rest, s, t => ∃ u, s.FiredItem u it (p.abs - it.instant.abs) ∧ State.FireRun p rest u t

/-- The calendar of t is that of s after a time-step event from old to new (R34, R35): the items passed over have
fired; a new day makes a build in flight wait for a rebuild of ALL and otherwise begins one, from the entries as the
firings left them; the wake timer is recomputed; the rest timer can change only by a start. -/
def State.CalendarStepped (s t : State) (old new : TowerTime) : Prop :=
  t.calendar.agenda = s.agendaAfter s.calendar.agenda (s.itemsBetween old new) ∧
    (s.calendar.Ordered → ∀ e, t.entry e = s.entryAfter (s.itemsBetween old new) e) ∧
    t.calendar.truncated = s.calendar.truncated ∧ t.calendar.lastActual = s.calendar.lastActual ∧
    (old.day = new.day → t.calendar.state = s.calendar.state) ∧
    (old.day ≠ new.day →
      (∀ b q, s.calendar.state = .building b q → t.calendar.state = .building b (some .all)) ∧
      ((s.calendar.state = .stale ∨ s.calendar.state = .current) →
        t.calendar.state = .building (t.newBuild .all new) none)) ∧
    t.calendar.wakeTimer = t.wakeAt t.calendar.agenda new ∧
    (s.itemsBetween old new = [] → t.calendar.restTimer = s.calendar.restTimer)

/-! ## Starts -/

/-- Every lane in REST has entered SETUP with cold set and a new attempt, its LANE_SETUP waiting; every other lane is
as before (R143, R145, R154). -/
def State.WakesResting (s t : State) : Prop :=
  ∀ l, l < 24 →
    ((s.lane l).state = .rest →
      t.lane l =
        { s.adopted (s.lane l) with
          state := .setup, cold := true, setupSequence := ((s.lane l).setupSequence + 1) % 16
          retriesLeft := s.settings.retryLimit, receiptTimer := none, periodTimer := none } ∧
      ∃ age, t.waitingFrame l = some ⟨age, .setup s.settings.nodeAddress l (((s.lane l).setupSequence + 1) % 16)
        (s.lane l).config.channelCount (s.lane l).config.period⟩) ∧
    ((s.lane l).state ≠ .rest → t.lane l = s.lane l ∧ t.waitingFrame l = s.waitingFrame l)

/-- u is s with playback p put into slot k, before any of its cues: with a victim, the slot was released first, its
layers dropped with the handovers of R92 and its show's playing count lowered; the playing count of p's show rises, the
rest timer stops, and the lanes in REST are woken (R64, R66 steps 1 to 3, R75). -/
def State.Filled (s u : State) (k : Nat) (p : Playback) (victim : Option Playback) : Prop :=
  u.slot k = some p ∧ (∀ j, j ≠ k → u.slot j = s.slot j) ∧
    u.playback.duplicateStarts = s.playback.duplicateStarts ∧
    u.playback.expiredStarts = s.playback.expiredStarts ∧ u.cueStore.cues = s.cueStore.cues ∧
    (∀ x, u.showRecord x =
      { s.showRecord x with
        playing := (s.showRecord x).playing - (if victim.any (fun v => decide (v.showNo = x)) then 1 else 0)
          + (if x = p.showNo then 1 else 0) }) ∧
    u.calendar = { s.calendar with restTimer := none } ∧ s.WakesResting u ∧
    u.time = s.time ∧ u.ingress = s.ingress ∧ u.mgmt = s.mgmt ∧ u.faults = s.faults ∧ u.image = s.image ∧
    u.pending = s.pending ∧ u.freeCount = s.freeCount ∧
    u.mixer.live = s.mixer.live ∧ u.mixer.bands = s.mixer.bands ∧ (victim = none → u.mixer = s.mixer) ∧
    (victim ≠ none → ∀ z, z < 240 → u.layer k z = none ∧ (∀ j, j ≠ k → u.layer j z = s.layer j z) ∧
      (u.zone z).house = (s.zone z).house ∧
      ((s.zone z).Owned → (u.zone z).Owned ∧
        ((s.zone z).owner ≠ some k → (u.zone z).handover = (s.zone z).handover) ∧
        ((s.zone z).owner = some k → (u.zone z).handover =
          if s.settings.handoverTime = 0 then none
          else some ⟨s.zoneValue z s.now, s.now, s.settings.handoverTime⟩)))

/-! ## Cue memory -/

/-- Record i exists and belongs to no show (R44). -/
def State.recordFree (s : State) (i : Nat) : Bool :=
  decide (i < 4096) && s.runs.all (fun r => decide (i < r.1 ∨ r.1 + r.2 ≤ i))

/-- Show sh holds the run of records r, as base index and count: it is LOADING or READY with it (R43, R44). -/
def State.HoldsRun (s : State) (sh : Nat) (r : Nat × Nat) : Prop :=
  (s.showRecord sh).state = .loading r.1 r.2 ∨ (s.showRecord sh).state = .ready r.1 r.2

/-- A cue that reaches zones names a range that is not within the 240 zones (R51, check 4). -/
def Cue.ZonesOutside (c : Cue) : Prop :=
  ∃ z n, ((∃ l f v, c = .look z n l f v) ∨ (∃ l src p f v, c = .follow z n l src p f v) ∨ c = .release z n) ∧
    (239 < z ∨ n = 0 ∨ 240 < n ∨ 240 < z + n)

/-- A FOLLOW cue names a source above 7 (R51, check 5). -/
def Cue.SourceOutside (c : Cue) : Prop := ∃ z n l src p f v, c = .follow z n l src p f v ∧ 7 < src

/-! ## Losses and full resets -/

/-- The loss of the sources that lost names: every tracking FOLLOW layer bound to one of them with the policy TO_FALLBACK
falls, from its value now, over its follow fade time; every other layer stays, and so do the owners, the handovers and the
house looks (R97). -/
def State.LayersFall (s t : State) (lost : Nat → Prop) : Prop :=
  (∀ z, (t.zone z).owner = (s.zone z).owner ∧ (t.zone z).handover = (s.zone z).handover ∧
    (t.zone z).house = (s.zone z).house) ∧
  (∀ k z, s.layer k z = none → t.layer k z = none) ∧
  (∀ k z l i fallback fade, s.layer k z = some l → l.mode = .follow i .toFallback fallback fade .tracking → lost i →
    t.layer k z = some { l with
      mode := .follow i .toFallback fallback fade .fallen, fadeFrom := s.layerValue z l s.now
      fadeStart := s.now, fadeDuration := fade }) ∧
  (∀ k z l, s.layer k z = some l →
    (∀ i fallback fade, l.mode = .follow i .toFallback fallback fade .tracking → ¬ lost i) → t.layer k z = some l)

/-- Every block of t but the time unit and the image store is as a full reset restores it from an image (R41, R56, R80,
R101, R118, R139, R164, R181, R191, R195); the agenda state is left to R41. -/
def State.RestoredFrom (t : State) (img : Image) : Prop :=
  t.faults = .initial ∧ t.playback = ⟨[], 0, 0⟩ ∧
    t.calendar = { CalendarEngine.initial with entries := img.entries, state := t.calendar.state } ∧
    t.cueStore = ⟨img.shows, img.cues⟩ ∧ t.mgmt = { ManagementUnit.initial with settings := img.settings } ∧
    t.mixer.live = [] ∧ t.mixer.bands = img.bands ∧
    (∀ z, t.zone z = ⟨none, none, Table.read .black img.houseLooks z, []⟩) ∧
    t.ingress = { IngressProcessor.initial with sources := t.ingress.sources, bank0 := img.inputBank } ∧
    (∀ i x, Table.read .blank img.sources i = x →
      t.source i = ⟨x.enabled, x.origin, x.lossTime, .idle, none, [], 0, 0, 0⟩) ∧
    t.lanes = { LaneController.initial with
      lanes := t.lanes.lanes, waiting := t.lanes.waiting, bank0 := img.outputBank, guards := img.guards
      requestedGuard := img.requestedGuard, guardStatus := if img.requestedGuard then .enabled else .disabled } ∧
    (img.requestedGuard = false →
      (∀ l, t.lane l = Lane.initial (Table.read .blank img.lanes l)) ∧ t.lanes.waiting = []) ∧
    (img.requestedGuard = true → ∀ l c, l < 24 → Table.read .blank img.lanes l = c →
      ((c.configured && t.rangeNames l) = true →
        t.lane l =
          { Lane.initial c with
            guardInUse := true, state := .setup, cold := true, setupSequence := 1
            retriesLeft := img.settings.retryLimit } ∧
        t.waitingFrame l = some ⟨0, .setup img.settings.nodeAddress l 1 c.channelCount c.period⟩) ∧
      ((c.configured && t.rangeNames l) = false →
        t.lane l = { Lane.initial c with guardInUse := true } ∧ t.waitingFrame l = none))

/-! ## Lane frames -/

/-- A present output patch entry covers channel c of lane l (R116, R155). -/
def OutputEntry.Covers (e : OutputEntry) (l c : Nat) : Prop :=
  e.present = true ∧ e.lane = l ∧ e.firstChannel ≤ c ∧ c < e.firstChannel + 3 * e.zoneCount

/-- No guard range holds channel c of lane l when the requested guard state is in use (R116, R159). -/
def State.Unguarded (s : State) (l c : Nat) : Prop :=
  s.lanes.requestedGuard = false ∨ ∀ i, i < 8 →
    ¬ ((s.guardRange i).lane = l ∧ (s.guardRange i).first ≤ c ∧ c ≤ (s.guardRange i).last)

/-- The gained value that an output patch entry places on channel c now: the zone value component times the gain over
4096 (R108, R116). -/
def State.gainedAt (s : State) (e : OutputEntry) (c : Nat) : Nat :=
  (s.zoneValue (e.zoneFirst + (c - e.firstChannel) / 3) s.now).comp (e.order.comp ((c - e.firstChannel) % 3))
    * e.gain / 4096

/-! ## The canonical form -/

/-- Every table of an image is in the canonical form. -/
def Image.Canonical (i : Image) : Prop :=
  Table.wf .blank i.entries = true ∧ Table.wf .blank i.shows = true ∧ Table.wf none i.cues = true ∧
    Table.wf .blank i.sources = true ∧ Table.wf .blank i.inputBank = true ∧ Table.wf .blank i.outputBank = true ∧
    Table.wf .blank i.lanes = true ∧ Table.wf .black i.houseLooks = true ∧ Table.wf .blank i.bands = true ∧
    Table.wf .blank i.guards = true

/-- Every table of the state is in the canonical form: equal contents are equal data. -/
def State.Canonical (s : State) : Prop :=
  Table.wf .blank s.calendar.entries = true ∧ Table.wf .blank s.cueStore.shows = true ∧
    Table.wf none s.cueStore.cues = true ∧ Table.wf none s.playback.slots = true ∧
    (Table.wf .blank s.mixer.zones = true ∧ ∀ p ∈ s.mixer.zones, Table.wf none p.2.layers = true) ∧
    Table.wf .black s.mixer.live = true ∧ Table.wf .blank s.mixer.bands = true ∧
    (Table.wf .blank s.ingress.sources = true ∧ ∀ p ∈ s.ingress.sources, Table.wf none p.2.sequences = true) ∧
    Table.wf .blank s.ingress.bank0 = true ∧ Table.wf .blank s.ingress.bank1 = true ∧
    Table.wf .blank s.lanes.lanes = true ∧ Table.wf .blank s.lanes.bank0 = true ∧
    Table.wf .blank s.lanes.bank1 = true ∧ Table.wf .blank s.lanes.guards = true ∧
    Table.wf none s.lanes.waiting = true ∧ Table.wf none s.faults.records = true ∧
    (∀ img, s.image.stored = .image img → img.Canonical) ∧
    (∀ img begun, s.image.state = .saving img begun → img.Canonical)

end Sys2Proof.Machine
end

