-- ==== Sys2Proof/Certificates/Slice0/Obligations.lean ====
section
/-! DEFINITION. The statements for the provers, family by family. Each docstring names the rules of spec/ it rests on;
where a statement says what the model chose, it names the log entry. -/

section Statements
open Sys2Proof Sys2Proof.Machine

/-! ## The queue of waiting commands -/

/-- A step takes the command at the front of the queue and carries it out with the queue's rest. -/
def Obligations.StepRunsFrontCommand : Prop :=
  ∀ (s : State) (c : Instr) (rest : List Instr), s.pending = c :: rest → step s = exec c (s.withPending rest)

/-- MODEL'S CHOICES (log entries 8 and 4): on an empty queue of commands a step changes nothing; the command of a request that
cannot be taken joins the tail of the request queue, is dropped and counted when the queue holds 4, and stays where it
is when it is the oldest. -/
def Obligations.IdleStepAndWaitingRequests : Prop :=
  (∀ s : State, s.pending = [] → step s = .next s) ∧
  (∀ (c : Instr) (h : ReqHead) (s : State), c.head = some h →
     (((s.mgmt.requests = [] ∧ s.mayTake = false) ∨ (s.mgmt.requests ≠ [] ∧ s.mgmt.requests.head? ≠ some c)) →
       (s.mgmt.requests.length < 4 →
         exec c s = .next (s.withMgmt { s.mgmt with requests := s.mgmt.requests ++ [c] })) ∧
       (4 ≤ s.mgmt.requests.length →
         exec c s = .next (s.withIngress { s.ingress with
           counters := { s.ingress.counters with
             managementDrop := satInc 65535 s.ingress.counters.managementDrop } }))) ∧
     ((s.mgmt.requests.head? = some c ∧ s.mayTake = false) → exec c s = .next s))

/-- MODEL'S CHOICES (log entries 3, 8 and 19): every command answers a next state, an event whose condition does not
hold among them (entry 3), and none touches the queue of commands, which is the model's own (entry 8) and which full
resets keep (entry 19). No rule of spec/ says so. -/
def Obligations.EveryCommandRunsAndKeepsQueue : Prop :=
  ∀ (c : Instr) (s : State), ∃ t, exec c s = .next t ∧ t.pending = s.pending

/-! ## Requests in general (09) -/

/-- A request whose arguments do not fit its kind is answered REFUSED_RANGE, one of no defined kind or too short to carry
one UNKNOWN_REQUEST, and nothing but the reply changes (R169). -/
def Obligations.BadRequestsOnlyAnswered : Prop :=
  (∀ (c : Instr) (h : ReqHead) (s : State), c.head = some h → (∀ k, c ≠ .unknownRequest h k) → s.Free c →
     h.fits = false → exec c s = .next (s.repliesOnly c h .refusedRange .none)) ∧
  (∀ (h : ReqHead) (kind : Option Nat) (s : State), s.Free (.unknownRequest h kind) →
     exec (.unknownRequest h kind) s = .next (s.repliesOnly (.unknownRequest h kind) h .unknownRequest .none))

/-- MGMT_REQ_COMPLETION: the request the frame carries joins the tail of the request queue, or is dropped and counted
when the queue holds 4; the processor is idle and a waiting switch completes (R124, R137). -/
def Obligations.RequestJoinsAtCompletion : Prop :=
  ∀ (s : State) (f : Frame) (station taken : Nat), s.ingress.processing = some ⟨f, .request station, taken⟩ →
    taken < s.now →
    (s.mgmt.requests.length < 4 →
      exec .mgmtReqCompletion s = .next ((s.withMgmt
        { s.mgmt with requests := s.mgmt.requests ++ [decodeRequest f.origin f.dest f.payload] }).withIngress
          s.ingress.released)) ∧
    (4 ≤ s.mgmt.requests.length →
      exec .mgmtReqCompletion s = .next (s.withIngress { s.ingress.released with
        counters := { s.ingress.counters with managementDrop := satInc 65535 s.ingress.counters.managementDrop } }))

/-- The show-port line takes the oldest frame of the outbound queue and ends it at a later instant. A pending alert is
placed in the place that was freed while the mask is off, and stays pending while it is on (R171, R189). MODEL'S CHOICE
(log entry 6): when a waiting request and a pending alert could both claim the freed place of a full queue, which R167
leaves open, the operand of SHOW_PORT_TRANSMIT_START says which comes first: with takeFirst set the alert stays pending
for the take, and in every other case (takeFirst clear, no request waiting, a restart pending, or a queue that was not
full) it is placed. -/
def Obligations.ShowPortLineSendsOldestFrame : Prop :=
  (∀ (s : State) (f : OutFrame) (rest : List OutFrame) (b : Bool), s.mgmt.line = none →
    s.mgmt.outbound = f :: rest → s.faults.alertPending = false →
    exec (.showPortTransmitStart b) s =
      .next (s.withMgmt { s.mgmt with outbound := rest, line := some ⟨f, s.now⟩ })) ∧
  (∀ (s : State) (f : OutFrame) (rest : List OutFrame) (takeFirst : Bool), s.mgmt.line = none →
    s.mgmt.outbound = f :: rest → s.faults.alertPending = true → s.settings.alertMask = false →
    s.mgmt.replyReserved = false → rest.length < 8 →
    ((takeFirst = false ∨ s.mgmt.requests = [] ∨ s.mgmt.restartPending = true ∨ rest.length < 7) →
      exec (.showPortTransmitStart takeFirst) s =
        .next ((s.withMgmt { s.mgmt with
          outbound := rest ++ [.alert s.composeAlert], line := some ⟨f, s.now⟩ }).withFaults
            { s.faults with alertPending := false })) ∧
    (takeFirst = true → s.mgmt.requests ≠ [] → s.mgmt.restartPending = false → 7 ≤ rest.length →
      exec (.showPortTransmitStart takeFirst) s =
        .next (s.withMgmt { s.mgmt with outbound := rest, line := some ⟨f, s.now⟩ }))) ∧
  (∀ (s : State) (f : OutFrame) (rest : List OutFrame) (takeFirst : Bool), s.mgmt.line = none →
    s.mgmt.outbound = f :: rest → s.settings.alertMask = true →
    exec (.showPortTransmitStart takeFirst) s =
      .next (s.withMgmt { s.mgmt with outbound := rest, line := some ⟨f, s.now⟩ })) ∧
  (∀ (s : State) (a : Alert) (begun : Nat), s.mgmt.line = some ⟨.alert a, begun⟩ → begun < s.now →
    (s.faults.alertPending = false ∨ s.settings.alertMask = true) → exec .showPortTransmitEnd s = .next (s.withMgmt { s.mgmt with line := none })) ∧
  (∀ (s : State) (r : Reply) (begun : Nat), s.mgmt.line = some ⟨.reply r, begun⟩ → r.atEnd = .nothing →
    begun < s.now → (s.faults.alertPending = false ∨ s.settings.alertMask = true) →
    exec .showPortTransmitEnd s = .next (s.withMgmt { s.mgmt with line := none }))

/-- SET_SETTING. Of the node address: the value becomes pending, and the end of its reply's transmission makes it the node
address. Of the others: an identity out of range is refused; otherwise the value, a quantity brought to the nearest end
of its range, is stored at the take; a changed prelude lead recomputes the wake timer, and the mask turned off sends the
ALERT of a pending alert ahead of the reply when the queue has room beside the reserved place; turned on, or without
room, it leaves the alert pending. A node address outside 1..254 and a setting that does not exist are refused (R38,
R175, R176, R189). MODEL'S CHOICE (log entry 13): which reply is the one that ends a pending node address is told by a
serial number, which the pending change and the end of its reply carry; a reply with another number ends no change. -/
def Obligations.SettingsAreStored : Prop :=
  ((∀ (h : ReqHead) (v : Nat) (s : State), s.Takes (.setSetting h none v) h →
     exec (.setSetting h none v) s = .next (s.repliesOnly (.setSetting h none v) h .refusedRange .none)) ∧
   (∀ (h : ReqHead) (v : Nat) (s : State), s.Takes (.setSetting h (some .nodeAddress) v) h → (v = 0 ∨ 254 < v) →
     exec (.setSetting h (some .nodeAddress) v) s =
       .next (s.repliesOnly (.setSetting h (some .nodeAddress) v) h .refusedRange .none)) ∧
   (∀ (h : ReqHead) (v : Nat) (s : State), s.Takes (.setSetting h (some .nodeAddress) v) h → 1 ≤ v → v ≤ 254 →
     (s.mgmt.pendingNode ≠ none ∨ v ≠ s.settings.nodeAddress) →
     exec (.setSetting h (some .nodeAddress) v) s = .next (s.withMgmt
       { s.replied (.setSetting h (some .nodeAddress) v) h .ok (.settingStored .nodeAddress v)
           (.nodeAddress s.mgmt.nextSerial) with
         pendingNode := some ⟨v, s.mgmt.nextSerial⟩ })) ∧
   (∀ (h : ReqHead) (s : State), s.Takes (.setSetting h (some .nodeAddress) s.settings.nodeAddress) h →
     1 ≤ s.settings.nodeAddress → s.settings.nodeAddress ≤ 254 → s.mgmt.pendingNode = none →
     exec (.setSetting h (some .nodeAddress) s.settings.nodeAddress) s =
       .next (s.repliesOnly (.setSetting h (some .nodeAddress) s.settings.nodeAddress) h .ok
         (.settingStored .nodeAddress s.settings.nodeAddress))) ∧
   (∀ (s : State) (r : Reply) (begun n v : Nat), s.mgmt.line = some ⟨.reply r, begun⟩ → r.atEnd = .nodeAddress n →
     begun < s.now → s.mgmt.pendingNode = some ⟨v, n⟩ → s.faults.alertPending = false →
     exec .showPortTransmitEnd s = .next (s.withMgmt
       { s.mgmt with line := none, settings := { s.settings with nodeAddress := v }, pendingNode := none })) ∧
   (∀ (s : State) (r : Reply) (begun n m v : Nat), s.mgmt.line = some ⟨.reply r, begun⟩ →
     r.atEnd = .nodeAddress n → begun < s.now → s.mgmt.pendingNode = some ⟨v, m⟩ → m ≠ n →
     s.faults.alertPending = false →
     exec .showPortTransmitEnd s = .next (s.withMgmt { s.mgmt with line := none }))) ∧
  ((∀ (h : ReqHead) (name : SettingName) (v w : Nat) (s : State), name ≠ .nodeAddress →
      s.Takes (.setSetting h (some name) v) h → w = clamp (settingRange name).1 (settingRange name).2 v →
      (settingIdentity name = true → w ≠ v →
        exec (.setSetting h (some name) v) s =
          .next (s.repliesOnly (.setSetting h (some name) v) h .refusedRange .none)) ∧
      ((settingIdentity name = false ∨ w = v) → name ≠ .preludeLead →
        (name = .alertMask → s.faults.alertPending = false) →
        exec (.setSetting h (some name) v) s = .next (s.withMgmt
          { s.replied (.setSetting h (some name) v) h (okOrAdjusted (decide (w ≠ v))) (.settingStored name w) with
            settings := s.settings.store w name })) ∧
      (name = .preludeLead →
        exec (.setSetting h (some name) v) s = .next ((s.withMgmt
          { s.replied (.setSetting h (some name) v) h (okOrAdjusted (decide (w ≠ v))) (.settingStored name w) with
            settings := { s.settings with preludeLead := w } }).withCalendar
          { s.calendar with
            wakeTimer :=
              if w = s.settings.preludeLead then s.calendar.wakeTimer
              else
                match s.calendar.agenda.head?, s.towerTime with
                | some it, some t => some (s.now + (it.instant.abs - 1000 * w - t.abs))
                | _, _ => none }))) ∧
   (∀ (h : ReqHead) (s : State), s.Takes (.setSetting h (some .alertMask) 0) h → s.faults.alertPending = true →
      s.mgmt.outbound.length < 7 →
      ∃ t, exec (.setSetting h (some .alertMask) 0) s = .next t ∧
        t.mgmt.outbound = s.mgmt.outbound ++ [.alert s.composeAlert,
          .reply ⟨h.origin, s.settings.nodeAddress, some (h.tag, 0x0902), .ok, .settingStored .alertMask 0, .nothing⟩] ∧
        t.settings = { s.settings with alertMask := false } ∧ t.faults = { s.faults with alertPending := false }) ∧
   (∀ (h : ReqHead) (v : Nat) (s : State), s.Takes (.setSetting h (some .alertMask) v) h →
      s.faults.alertPending = true → (v = 1 ∨ (v = 0 ∧ 7 ≤ s.mgmt.outbound.length)) →
      exec (.setSetting h (some .alertMask) v) s = .next (s.withMgmt
        { s.replied (.setSetting h (some .alertMask) v) h .ok (.settingStored .alertMask v) with
          settings := { s.settings with alertMask := decide (v = 1) } })))

/-- GET_SETTING, READ_STATUS and READ_FAULTS report the state at the take and change nothing (R174, R177, R185). -/
def Obligations.SystemReadsChangeNothing : Prop :=
  (∀ (h : ReqHead) (name : SettingName) (s : State), s.Takes (.getSetting h (some name)) h →
    exec (.getSetting h (some name)) s =
      .next (s.repliesOnly (.getSetting h (some name)) h .ok (.settingValue name (s.settings.value name)
        (if name = .nodeAddress then s.mgmt.pendingNode.map (·.value) else none)))) ∧
  (∀ (h : ReqHead) (s : State), s.Takes (.getSetting h none) h →
    exec (.getSetting h none) s = .next (s.repliesOnly (.getSetting h none) h .refusedRange .none)) ∧
  (∀ (h : ReqHead) (s : State), s.Takes (.readFaults h) h →
    exec (.readFaults h) s = .next (s.repliesOnly (.readFaults h) h .ok (.faults
      { records := faultNumbers.map s.faultRecord
        nextWrite := s.faults.nextWrite
        pending := s.faults.pending
        first := s.faults.first
        present := s.presentFaults
        overflow := s.faults.overflow
        dropped := s.faults.dropped
        alertPending := s.faults.alertPending }))) ∧
  (∀ (h : ReqHead) (s : State), s.Takes (.readStatus h) h →
    exec (.readStatus h) s = .next (s.repliesOnly (.readStatus h) h .ok (.status
      { runInstant := s.time.runClock
        clock := s.time.clock.phase
        towerTime := s.time.clock.time
        remainder := s.time.remainder
        lastAccepted := s.time.lastAccepted
        lastTick := s.time.lastTick
        agenda := s.calendar.state.phase
        itemCount := s.calendar.agenda.length
        truncated := s.calendar.truncated
        lastActual := s.calendar.lastActual
        slots := slotNumbers.map (fun k => slotPhase (s.slot k))
        inputSwitch := s.ingress.switch
        inputBank := s.ingress.inUse
        outputBank := s.lanes.selected
        outputSwitch := s.lanes.switch
        requestedGuard := s.lanes.requestedGuard
        guardStatus := s.lanes.guardStatus
        image := s.image.state.phase
        faultPending := s.faults.pending
        overflow := s.faults.overflow
        alertPending := s.faults.alertPending
        causes := s.image.causes
        requests := s.mgmt.requests.tail.length
        outbound := s.mgmt.outbound.length + 1
        pendingNode := s.mgmt.pendingNode.map (·.value) })))

/-- READ_COUNTERS reports the counters of a group as they stand; asked to clear, it then sets every counter of the
group to 0 and clears a clip flag (R110, R138, R162, R178). -/
def Obligations.ReadCountersReportsThenClears : Prop :=
  (∀ (h : ReqHead) (clear : Bool) (s : State), s.Takes (.readCounters h (some .showPort) (some clear)) h →
    exec (.readCounters h (some .showPort) (some clear)) s =
      .next (((if clear then
          (s.withIngress { s.ingress with counters := .zero }).withTime
            { s.time with acceptedCount := 0, earlyCount := 0, malformedCount := 0 }
        else s).withMgmt (s.replied (.readCounters h (some .showPort) (some clear)) h .ok
          (.showPortCounters s.ingress.counters s.time.acceptedCount s.time.earlyCount s.time.malformedCount))))) ∧
  (∀ (h : ReqHead) (clear : Bool) (s : State), s.Takes (.readCounters h (some .fixturePort) (some clear)) h →
    exec (.readCounters h (some .fixturePort) (some clear)) s =
      .next (((if clear then
          s.withLanes { s.lanes with badFrame := 0, foreignClass := 0, malformedReceipt := 0 }
        else s).withMgmt (s.replied (.readCounters h (some .fixturePort) (some clear)) h .ok
          (.fixturePortCounters s.lanes.badFrame s.lanes.foreignClass s.lanes.malformedReceipt))))) ∧
  (∀ (h : ReqHead) (i : Nat) (clear : Bool) (s : State), s.Takes (.readCounters h (some (.source i)) (some clear)) h →
    exec (.readCounters h (some (.source i)) (some clear)) s =
      if 7 < i then .next (s.repliesOnly (.readCounters h (some (.source i)) (some clear)) h .refusedRange .none)
      else
        .next (((if clear then s.setSource i { s.source i with accepted := 0, duplicate := 0, stale := 0 }
          else s).withMgmt (s.replied (.readCounters h (some (.source i)) (some clear)) h .ok
            (.sourceCounters (s.source i).accepted (s.source i).duplicate (s.source i).stale))))) ∧
  (∀ (h : ReqHead) (l : Nat) (clear : Bool) (s : State), s.Takes (.readCounters h (some (.lane l)) (some clear)) h →
    exec (.readCounters h (some (.lane l)) (some clear)) s =
      if 23 < l then .next (s.repliesOnly (.readCounters h (some (.lane l)) (some clear)) h .refusedRange .none)
      else
        .next (((if clear then
            s.setLane l { s.lane l with
              emitted := 0, late := 0, staleReceipts := 0, clipFlag := false, clipCount := 0 }
          else s).withMgmt (s.replied (.readCounters h (some (.lane l)) (some clear)) h .ok
            (.laneCounters (s.lane l).emitted (s.lane l).late (s.lane l).staleReceipts (s.lane l).clipFlag
              (s.lane l).clipCount)))))

/-- BLOCK_RESET is refused for a set that names more than TIME, CALENDAR, PLAYBACK, INGRESS, LANES and FAULTS; otherwise
it resets the blocks its set names and leaves what the others hold. The agenda and the wake timer are reset by CALENDAR,
and by TIME when tower time was present. PLAYBACK frees the slots: their layers are dropped, an owned zone hands over from
its value to its house look, the playing counts fall, and the rest timer starts; cues and house looks stay. INGRESS resets
the ingress queue, the sources and the live store, the layers bound to LIVE sources falling as at a loss; its banks and
counters stay and a waiting switch completes. LANES: every active or FAULTED lane goes to REST, nothing waits, and with the
requested guard state on the lanes in REST that an enabled range names are woken (R17, R42, R57, R81, R92, R102, R140,
R165, R179, R191). -/
def Obligations.BlockResetResetsNamedBlocks : Prop :=
  (∀ (h : ReqHead) (m : Nat) (s : State), s.Takes (.blockReset h m) h → 63 < m →
    exec (.blockReset h m) s = .next (s.repliesOnly (.blockReset h m) h .refusedRange .none)) ∧
  (∀ (h : ReqHead) (m : Nat) (s : State), s.Takes (.blockReset h m) h → m ≤ 63 →
    ∃ t, exec (.blockReset h m) s = .next t ∧ t.mgmt = s.replied (.blockReset h m) h .ok (.resetMembers m) ∧
      t.image = s.image ∧
      t.time = (if m.testBit 0 then
        { s.time with
          clock := .unset, remainder := 0, lastAccepted := none, lastTick := none, earlyRun := 0, lossTimer := none }
        else s.time) ∧
      t.calendar.entries = s.calendar.entries ∧ t.calendar.lastActual = s.calendar.lastActual ∧
      (m.testBit 1 = true → t.calendar.agenda = [] ∧ t.calendar.state = .stale ∧ t.calendar.truncated = false ∧
        t.calendar.wakeTimer = none) ∧
      (m.testBit 0 = true → s.time.clock ≠ .unset → t.calendar.agenda = [] ∧ t.calendar.state = .stale ∧
        t.calendar.wakeTimer = none) ∧
      (m.testBit 1 = false → t.calendar.truncated = s.calendar.truncated) ∧
      (m.testBit 1 = false → (m.testBit 0 = false ∨ s.time.clock = .unset) → t.calendar.agenda = s.calendar.agenda ∧
        t.calendar.state = s.calendar.state ∧ t.calendar.wakeTimer = s.calendar.wakeTimer) ∧
      (m.testBit 2 = true → ∀ k, k < 4 → t.slot k = none) ∧
      t.cueStore.cues = s.cueStore.cues ∧
      (m.testBit 2 = true →
        (∀ x, t.showRecord x =
          { s.showRecord x with playing := (s.showRecord x).playing - s.slotsPlaying x }) ∧
        t.calendar.restTimer =
          (if s.allFree then s.calendar.restTimer else some (s.now + 1000 * s.settings.restDelay)) ∧
        (s.LayersHaveSlots → ∀ z, z < 240 → (∀ k, k < 4 → t.layer k z = none) ∧ (t.zone z).owner = none ∧
          (t.zone z).house = (s.zone z).house ∧
          ((s.zone z).owner = none → (t.zone z).handover = (s.zone z).handover) ∧
          ((s.zone z).owner ≠ none → (t.zone z).handover =
            if s.settings.handoverTime = 0 then none
            else some ⟨s.zoneValue z s.now, s.now, s.settings.handoverTime⟩))) ∧
      (m.testBit 2 = false → m.testBit 3 = true → s.ZonesOwned →
        s.LayersFall t (fun i => i < 8 ∧ (s.source i).state = .live)) ∧
      t.playback.duplicateStarts = s.playback.duplicateStarts ∧ t.playback.expiredStarts = s.playback.expiredStarts ∧
      (m.testBit 2 = false → t.playback = s.playback ∧ t.cueStore = s.cueStore ∧
        t.calendar.restTimer = s.calendar.restTimer) ∧
      (m.testBit 3 = true →
        t.ingress = { s.ingress.released with queue := [], sources := t.ingress.sources }) ∧
      (m.testBit 3 = true → t.ingress.queue = [] ∧ t.ingress.processing = none ∧ t.ingress.switch = .idle ∧
        t.mixer.live = [] ∧ ∀ i, i < 8 → t.source i =
          { s.source i with state := .idle, timer := none, sequences := [] }) ∧
      (m.testBit 3 = false → t.ingress = s.ingress ∧ t.mixer.live = s.mixer.live) ∧
      t.ingress.bank0 = s.ingress.bank0 ∧ t.ingress.bank1 = s.ingress.bank1 ∧
      t.ingress.counters = s.ingress.counters ∧ t.mixer.bands = s.mixer.bands ∧
      (m.testBit 2 = false → m.testBit 3 = false → t.mixer = s.mixer) ∧
      (m.testBit 4 = true → s.lanes.requestedGuard = false → t.lanes.waiting = [] ∧ ∀ l, l < 24 →
        (t.lane l).state = (if (s.lane l).state = .off then .off else .rest)) ∧
      (m.testBit 4 = true → t.lanes.guards = s.lanes.guards ∧ t.lanes.requestedGuard = s.lanes.requestedGuard ∧
        t.lanes.selected = s.lanes.selected ∧ t.lanes.bank0 = s.lanes.bank0 ∧ t.lanes.bank1 = s.lanes.bank1 ∧
        t.lanes.line = s.lanes.line ∧ ∀ l, l < 24 →
          ((s.lane l).state = .off → t.lane l = s.lane l ∧ t.waitingFrame l = none) ∧
          ((s.lane l).state ≠ .off → (s.lanes.requestedGuard && s.rangeNames l) = true →
            t.lane l =
              { s.adopted (s.lane l) with
                state := .setup, cold := true, setupSequence := ((s.lane l).setupSequence + 1) % 16
                retriesLeft := s.settings.retryLimit, receiptTimer := none, periodTimer := none } ∧
            t.waitingFrame l = some ⟨s.now, .setup s.settings.nodeAddress l (((s.lane l).setupSequence + 1) % 16)
              (s.lane l).config.channelCount (s.lane l).config.period⟩) ∧
          ((s.lane l).state ≠ .off → (s.lanes.requestedGuard && s.rangeNames l) = false →
            t.lane l = (if (s.lane l).state = .rest then s.lane l else
              { s.adopted (s.lane l) with state := .rest, receiptTimer := none, periodTimer := none }) ∧
            t.waitingFrame l = none)) ∧
      (m.testBit 4 = false → t.lanes = s.lanes) ∧
      t.faults = (if m.testBit 5 then .initial else s.faults))

/-- RESTART only answers and stops further takes; the end of its reply's transmission is the full reset, which empties
both queues and records the cause, restores every block from the stored image (or the defaults), keeps tower time with
LOCKED becoming FREEWHEEL, and begins a RESUME build when tower time is present (R16, R41, R180, R195, R196). -/
def Obligations.RestartTakesEffectAtReplyEnd : Prop :=
  (∀ (h : ReqHead) (s : State), s.Takes (.restart h) h →
    exec (.restart h) s = .next (s.withMgmt
      { s.replied (.restart h) h .ok .none .restart with restartPending := true })) ∧
  (∀ (s : State) (r : Reply) (begun : Nat), s.mgmt.line = some ⟨.reply r, begun⟩ → r.atEnd = .restart →
    begun < s.now → s.mgmt.restartPending = true →
    ∃ t, exec .showPortTransmitEnd s = .next t ∧ t.now = 0 ∧ t.mgmt.requests = [] ∧ t.mgmt.outbound = [] ∧
      t.mgmt.line = none ∧ t.mgmt.restartPending = false ∧ (∀ k, t.slot k = none) ∧ t.faults = .initial ∧
      t.image.causes = { s.image.causes with
        restart := true, imageBad := decide (s.image.storedAtReset = .failing) } ∧
      t.image.stored = s.image.storedAtReset ∧
      (∀ img, (s.image.storedAtReset = .image img ∨
          ((s.image.storedAtReset = .blank ∨ s.image.storedAtReset = .failing) ∧ img = .defaults)) →
        img.Canonical → t.RestoredFrom img) ∧
      (s.towerTime = none → t.time = .initial ∧ t.calendar.state = .stale) ∧
      (∀ p, s.towerTime = some p → p.day ≤ lastDay → p.ms < msPerDay →
        t.time = { TimeUnit.initial with clock := .freewheel p } ∧
        t.calendar.state = .building (t.newBuild .resume p) none))

/-! ## Full resets and the image store (11) -/

/-- Power-on with an image store that is blank leaves the machine as right after reset; with a stored copy that fails its
check, the same with IMAGE_BAD; with a usable image it restores every block from it. Tower time is lost and the cause is
POWER_ON. With the requested guard state of the image on, every lane adopts it, guarding is ENABLED, and each configured
lane that an enabled range names begins its first setup attempt (R15, R41, R56, R80, R101, R118, R139, R164, R181, R191,
R195, R196). MODEL'S CHOICE (log entry 19): the queue of waiting commands and the free-value counter, which are no
registers of the part, are kept. -/
def Obligations.PowerOnRestoresFromImage : Prop :=
  (∀ s : State, s.image.storedAtReset = .blank →
    exec .powerOn s = .next { State.reset with pending := s.pending, freeCount := s.freeCount }) ∧
  (∀ s : State, s.image.storedAtReset = .failing →
    exec .powerOn s = .next { State.reset with
      image := ⟨.failing, .failed, ⟨true, false, false, true⟩⟩, pending := s.pending, freeCount := s.freeCount }) ∧
  (∀ (s : State) (img : Image), s.image.storedAtReset = .image img → img.Canonical →
    ∃ t, exec .powerOn s = .next t ∧ t.time = .initial ∧ t.faults = .initial ∧ t.playback = ⟨[], 0, 0⟩ ∧
      t.calendar = { CalendarEngine.initial with entries := img.entries } ∧ t.cueStore = ⟨img.shows, img.cues⟩ ∧
      t.mgmt = { ManagementUnit.initial with settings := img.settings } ∧ t.mixer.live = [] ∧
      (∀ z, t.zone z = ⟨none, none, Table.read .black img.houseLooks z, []⟩) ∧
      (∀ i x, Table.read .blank img.sources i = x →
        t.source i = ⟨x.enabled, x.origin, x.lossTime, .idle, none, [], 0, 0, 0⟩) ∧
      t.mixer.bands = img.bands ∧ t.ingress.bank0 = img.inputBank ∧ t.ingress.bank1 = [] ∧
      t.lanes.bank0 = img.outputBank ∧ t.lanes.bank1 = [] ∧ t.lanes.guards = img.guards ∧
      t.lanes.requestedGuard = img.requestedGuard ∧ t.image = ⟨.image img, .saved, ⟨true, false, false, false⟩⟩ ∧
      (img.requestedGuard = false → (∀ l, t.lane l = Lane.initial (Table.read .blank img.lanes l)) ∧
        t.lanes.guardStatus = .disabled ∧ t.lanes.waiting = []) ∧
      (img.requestedGuard = true → t.lanes.guardStatus = .enabled ∧ ∀ l c, l < 24 →
        Table.read .blank img.lanes l = c →
        ((c.configured && t.rangeNames l) = true →
          t.lane l =
            { Lane.initial c with
              guardInUse := true, state := .setup, cold := true, setupSequence := 1
              retriesLeft := img.settings.retryLimit } ∧
          t.waitingFrame l = some ⟨0, .setup img.settings.nodeAddress l 1 c.channelCount c.period⟩) ∧
        ((c.configured && t.rangeNames l) = false →
          t.lane l = { Lane.initial c with guardInUse := true } ∧ t.waitingFrame l = none)))

/-- The RESET line keeps tower time, which has gone on advancing while the line was held, makes LOCKED FREEWHEEL,
adds its cause, restores every other block from the stored image (or the defaults), and begins a RESUME build when tower
time is present (R16, R41, R195, R196). MODEL'S CHOICE (log entry 18): how
long the line is held is an operand, the advance meanwhile is not slewed (keptClock), and tower time that passes the end
of its range meanwhile is discarded without a fault. -/
def Obligations.ResetLineKeepsTowerTime : Prop :=
  ∀ (s : State) (ms : Nat), ∃ t, exec (.resetLine ms) s = .next t ∧
    t.time = { TimeUnit.initial with clock := s.keptClock ms } ∧
    (s.towerTime = none → t.time.clock = .unset ∧ t.calendar.state = .stale) ∧
    (∀ p, s.towerTime = some p → (TowerTime.ofAbs (p.abs + ms)).day ≤ lastDay →
      t.time.clock = .freewheel (.ofAbs (p.abs + ms)) ∧
        t.calendar.state = .building (t.newBuild .resume (.ofAbs (p.abs + ms))) none ∧
        ∃ b, t.calendar.state = .building b none ∧ b.scope = .resume) ∧
    (∀ p, s.towerTime = some p → lastDay < (TowerTime.ofAbs (p.abs + ms)).day →
      t.time.clock = .unset ∧ t.calendar.state = .stale) ∧
    t.faults = .initial ∧ t.image.stored = s.image.storedAtReset ∧
    (∀ img, (s.image.storedAtReset = .image img ∨
        ((s.image.storedAtReset = .blank ∨ s.image.storedAtReset = .failing) ∧ img = .defaults)) →
      img.Canonical → t.RestoredFrom img) ∧
    (∀ k, t.slot k = none) ∧ t.mgmt.requests = [] ∧ t.mgmt.outbound = [] ∧ t.mgmt.line = none ∧
    t.calendar.agenda = [] ∧ t.calendar.wakeTimer = none ∧
    t.image.causes = { s.image.causes with
      resetLine := true, imageBad := decide (s.image.storedAtReset = .failing) }

/-- SAVE_IMAGE takes the snapshot at the take and discards the stored image; the end of the write stores the snapshot or
leaves a failing image with an IMAGE_WRITE fault. A snapshot holds the settings, the calendar without last fired, the
READY shows without playing counts and their cues, and the configurations. CLEAR_RESET_CAUSE clears the flags its set
names and reports the record after the clear (R192 to R194, R196). DEDUCED (log entry 23): from the take until the
write ends the stored copy is one that fails its check. -/
def Obligations.SaveImageWritesSnapshot : Prop :=
  (((∀ (h : ReqHead) (s : State), s.Takes (.saveImage h) h → s.image.state.isSaving = false →
      exec (.saveImage h) s = .next ((s.withImage
        { s.image with state := .saving s.snapshot s.now, stored := .failing }).withMgmt
          (s.replied (.saveImage h) h .ok .none))) ∧
    (∀ (h : ReqHead) (s : State), s.Takes (.saveImage h) h → s.image.state.isSaving = true →
      exec (.saveImage h) s = .next (s.repliesOnly (.saveImage h) h .refusedState .none)) ∧
    (∀ (s : State) (img : Image) (begun : Nat), s.image.state = .saving img begun → begun < s.now →
      exec (.imageWriteEnd true) s = .next (s.withImage { s.image with state := .saved, stored := .image img }) ∧
      exec (.imageWriteEnd false) s =
        .next ((s.withImage { s.image with state := .failed, stored := .failing }).recordFault .imageWrite))) ∧
   (∀ (h : ReqHead) (m : Nat) (s : State), s.Takes (.clearResetCause h m) h →
      (15 < m → exec (.clearResetCause h m) s =
        .next (s.repliesOnly (.clearResetCause h m) h .refusedRange .none)) ∧
      (m ≤ 15 → ∃ c : ResetCauses,
        c.powerOn = (s.image.causes.powerOn && !m.testBit 0) ∧ c.resetLine = (s.image.causes.resetLine && !m.testBit 1) ∧
        c.restart = (s.image.causes.restart && !m.testBit 2) ∧ c.imageBad = (s.image.causes.imageBad && !m.testBit 3) ∧
        exec (.clearResetCause h m) s = .next ((s.withImage { s.image with causes := c }).withMgmt
          (s.replied (.clearResetCause h m) h .ok (.resetCauses c)))))) ∧
  (∀ s : State, s.Canonical →
     s.snapshot.settings = s.settings ∧
     (∀ i, Table.read .blank s.snapshot.entries i = { s.entry i with lastFired := none }) ∧
     (∀ sh, Table.read .blank s.snapshot.shows sh =
       match (s.showRecord sh).state with
       | .ready base count => ⟨.ready base count, 0⟩
       | _ => .blank) ∧
     (∀ sh base count i, (s.showRecord sh).state = .ready base count → base ≤ i → i < base + count →
       Table.read none s.snapshot.cues i = s.cue i) ∧
     (∀ i, Table.read .blank s.snapshot.sources i = ⟨(s.source i).enabled, (s.source i).origin, (s.source i).lossTime⟩) ∧
     (∀ l, Table.read .blank s.snapshot.lanes l = (s.lane l).config) ∧
     (∀ z, Table.read .black s.snapshot.houseLooks z = (s.zone z).house) ∧
     s.snapshot.inputBank = s.inputBank s.ingress.inUse ∧ s.snapshot.outputBank = s.outputBank s.lanes.selected ∧
     s.snapshot.bands = s.mixer.bands ∧ s.snapshot.guards = s.lanes.guards ∧
     s.snapshot.requestedGuard = s.lanes.requestedGuard)

/-! ## Tower time and the run clock (01) -/

/-- RUN_CLOCK_ADVANCE adds 1 to the run clock; tower time advances with it by 1 ms, or by 2 or 0 at a slewed advance,
and past the end of its range it is lost. Into a new day it takes a rebuild request of ALL: a build in flight makes it
wait, and otherwise a build begins from the entries as they stood, which in an advance that also fires items is the
MODEL'S CHOICE, log entry 7; within a day the agenda state stays (R1, R3, R10, R13, R14, R36). -/
def Obligations.AdvanceMovesBothClocks : Prop :=
  (∀ s : State, s.now < lastInstant → s.time.clock = .unset →
    exec .runClockAdvance s = .next (s.withTime { s.time with runClock := s.now + 1 })) ∧
  (∀ (s : State) (p : TowerTime) (slewed : Bool) (new : TowerTime) (r : Int), s.now < lastInstant →
    s.towerTime = some p → slewed = (decide ((s.now + 1) % 50 = 0) && decide (s.time.remainder ≠ 0)) →
    new = .ofAbs (p.abs + if slewed then (if 0 < s.time.remainder then 2 else 0) else 1) →
    r = (if slewed then (if 0 < s.time.remainder then s.time.remainder - 1 else s.time.remainder + 1)
      else s.time.remainder) →
    (new.day ≤ lastDay → ∃ t, exec .runClockAdvance s = .next t ∧
      t.time = { s.time with runClock := s.now + 1, clock := s.time.clock.retime new, remainder := r } ∧
      (p.day = new.day → t.calendar.state = s.calendar.state) ∧
      (p.day ≠ new.day →
        (∀ b q, s.calendar.state = .building b q → t.calendar.state = .building b (some .all)) ∧
        ((s.calendar.state = .stale ∨ s.calendar.state = .current) →
          t.calendar.state = .building ((s.withTime t.time).newBuild .all new) none))) ∧
    (lastDay < new.day → ∃ t, exec .runClockAdvance s = .next t ∧
      t.time = { s.time with runClock := s.now + 1, clock := .unset, remainder := 0, lossTimer := none } ∧
      t.calendar = { s.calendar with agenda := [], state := .stale, wakeTimer := none } ∧
      (∀ i, s.faults.overflow = false → s.freeFaultRecord = some i →
        t.faultRecord i = some ⟨.timeLost, s.now + 1, none⟩)))

/-- The run clock is moved by RUN_CLOCK_ADVANCE alone; only a full reset (POWER_ON, RESET_LINE, or the end of the
transmission of a RESTART's reply) sets it, to 0 (R1, R180, R196). -/
def Obligations.OnlyAdvanceMovesRunClock : Prop :=
  ∀ (c : Instr) (s t : State), exec c s = .next t → c ≠ .runClockAdvance →
    t.now = s.now ∨ (t.now = 0 ∧ (c = .powerOn ∨ (∃ ms, c = .resetLine ms) ∨
      (c = .showPortTransmitEnd ∧ s.mgmt.restartPending = true ∧
        ∃ r begun, s.mgmt.line = some ⟨.reply r, begun⟩ ∧ r.atEnd = .restart ∧ begun < s.now)))

/-- TIME_FRAME_COMPLETION: a malformed frame is counted; an early one is counted, and the third in a row records
TIME_EARLY; an accepted one locks the clock, restarts the loss timer, and its time is set, slewed or stepped, a step
taking its effect on the calendar, where each item passed over fires, with its fault or start, in agenda order; the loss
timer's expiry makes LOCKED FREEWHEEL, clears the remainder and records
TIME_LOST (R5 to R9, R11, R34, R35). -/
def Obligations.TimeFrameIsCheckedAndApplied : Prop :=
  (∀ (s : State) (f : Frame) (keeper taken : Nat), s.ingress.processing = some ⟨f, .time keeper, taken⟩ →
     taken < s.now →
     ((f.payload.length ≠ 8 ∨
         ∃ d m k, cutFields [2, 4, 2] f.payload = some [d, m, k] ∧ (lastDay < d ∨ msPerDay ≤ m)) →
       exec .timeFrameCompletion s = .next ((s.withTime
         { s.time with malformedCount := satInc 255 s.time.malformedCount }).withIngress s.ingress.released)) ∧
     (∀ d m k i, cutFields [2, 4, 2] f.payload = some [d, m, k] → d ≤ lastDay → m < msPerDay →
       s.time.lastAccepted = some i → s.now < i + 900 →
       (s.time.earlyRun + 1 ≠ 3 → exec .timeFrameCompletion s = .next ((s.withTime
         { s.time with
           earlyCount := satInc 255 s.time.earlyCount, earlyRun := s.time.earlyRun + 1 }).withIngress
             s.ingress.released)) ∧
       (s.time.earlyRun + 1 = 3 → exec .timeFrameCompletion s = .next (((s.withTime
         { s.time with earlyCount := satInc 255 s.time.earlyCount, earlyRun := 0 }).recordFault .timeEarly).withIngress
           s.ingress.released))) ∧
     (∀ d m k, cutFields [2, 4, 2] f.payload = some [d, m, k] → d ≤ lastDay → m < msPerDay →
       (∀ i, s.time.lastAccepted = some i → i + 900 ≤ s.now) →
       ∃ t, exec .timeFrameCompletion s = .next t ∧ t.ingress = s.ingress.released ∧
         (s.towerTime = none → t.time =
           { s.time with
             lastAccepted := some s.now, lastTick := some k, earlyRun := 0
             acceptedCount := wrapInc s.time.acceptedCount, lossTimer := some (s.now + 3000)
             clock := .locked ⟨d, m⟩, remainder := 0 } ∧
           ∃ b, t.calendar.state = .building b none ∧ b.scope = .resume) ∧
         (∀ p, s.towerTime = some p → (timeDifference ⟨d, m⟩ p).natAbs ≤ 200 → t.time =
           { s.time with
             lastAccepted := some s.now, lastTick := some k, earlyRun := 0
             acceptedCount := wrapInc s.time.acceptedCount, lossTimer := some (s.now + 3000)
             clock := .locked p, remainder := timeDifference ⟨d, m⟩ p }) ∧
         (∀ p, s.towerTime = some p → 200 < (timeDifference ⟨d, m⟩ p).natAbs → t.time =
           { s.time with
             lastAccepted := some s.now, lastTick := some k, earlyRun := 0
             acceptedCount := wrapInc s.time.acceptedCount, lossTimer := some (s.now + 3000)
             clock := .locked ⟨d, m⟩, remainder := 0 } ∧
           s.CalendarStepped t p ⟨d, m⟩ ∧
           (∃ u, State.FireRun ⟨d, m⟩ (s.itemsBetween p ⟨d, m⟩) (s.withTime t.time) u ∧
             t = (u.withCalendar
               { u.calendar with state := t.calendar.state, wakeTimer := t.calendar.wakeTimer }).withIngress
                 s.ingress.released) ∧
           (s.itemsBetween p ⟨d, m⟩ = [] →
             t = ((s.withTime t.time).withCalendar t.calendar).withIngress s.ingress.released)))) ∧
  (∀ (s : State) (p : TowerTime) (e : Nat), s.time.lossTimer = some e → e ≤ s.now → s.time.clock = .locked p →
     exec .lossTimerExpiry s =
       .next ((s.withTime { s.time with clock := .freewheel p, remainder := 0, lossTimer := none }).recordFault
         .timeLost))

/-- SET_TIME: refused out of range; from UNSET it sets tower time and FREEWHEEL, within 200 ms it slews, beyond it
steps, and its reply tells which with the difference. A step's effect on the calendar: a forward step fires the items
passed over, in agenda order, each with its fault or start, a backward one none; a new day makes a build in flight wait for a rebuild of ALL, and otherwise begins one;
the wake timer is recomputed (R7, R8, R12, R34, R35). -/
def Obligations.SetTimeSetsSlewsOrSteps : Prop :=
  ∀ (h : ReqHead) (d m : Nat) (s : State), s.Takes (.setTime h d m) h →
    ((lastDay < d ∨ msPerDay ≤ m) →
      exec (.setTime h d m) s = .next (s.repliesOnly (.setTime h d m) h .refusedRange .none)) ∧
    (d ≤ lastDay → m < msPerDay → s.time.clock = .unset →
      ∃ t, exec (.setTime h d m) s = .next t ∧
        t.time = { s.time with clock := .freewheel ⟨d, m⟩, remainder := 0 } ∧
        t.mgmt = s.replied (.setTime h d m) h .ok (.timeApplied .set none) ∧
        ∃ b, t.calendar.state = .building b none ∧ b.scope = .resume) ∧
    (∀ p, d ≤ lastDay → m < msPerDay → s.towerTime = some p → (timeDifference ⟨d, m⟩ p).natAbs ≤ 200 →
      exec (.setTime h d m) s = .next ((s.withTime { s.time with remainder := timeDifference ⟨d, m⟩ p }).withMgmt
        (s.replied (.setTime h d m) h .ok (.timeApplied .slewed (some (timeDifference ⟨d, m⟩ p)))))) ∧
    (∀ p, d ≤ lastDay → m < msPerDay → s.towerTime = some p → 200 < (timeDifference ⟨d, m⟩ p).natAbs →
      ∃ t, exec (.setTime h d m) s = .next t ∧
        t.time = { s.time with clock := s.time.clock.retime ⟨d, m⟩, remainder := 0 } ∧
        t.mgmt.outbound.getLast? = some (.reply ⟨h.origin, s.settings.nodeAddress, some (h.tag, 0x0101), .ok,
          .timeApplied .stepped (some (timeDifference ⟨d, m⟩ p)), .nothing⟩) ∧
        s.CalendarStepped t p ⟨d, m⟩ ∧
        (∃ u, State.FireRun ⟨d, m⟩ (s.itemsBetween p ⟨d, m⟩)
            ((s.withTime t.time).withMgmt
              { s.mgmt with requests := s.mgmt.requests.tail, replyReserved := true }) u ∧
          t = (u.withCalendar
            { u.calendar with state := t.calendar.state, wakeTimer := t.calendar.wakeTimer }).withMgmt
              { u.mgmt with
                outbound := u.mgmt.outbound ++ [.reply ⟨h.origin, s.settings.nodeAddress, some (h.tag, 0x0101), .ok,
                  .timeApplied .stepped (some (timeDifference ⟨d, m⟩ p)), .nothing⟩]
                replyReserved := false }) ∧
        (s.itemsBetween p ⟨d, m⟩ = [] → t = ((s.withTime t.time).withCalendar t.calendar).withMgmt
          (s.replied (.setTime h d m) h .ok (.timeApplied .stepped (some (timeDifference ⟨d, m⟩ p))))))

/-! ## The show calendar and the agenda (02) -/

/-- WRITE_CALENDAR_ENTRY and CLEAR_CALENDAR_ENTRY replace the entry, remove its items from the agenda, make CURRENT
STALE, and mark a build in flight and merge ENTRY index into the pending slot; the fields a write must carry, and the
entry it makes: SET, with no last fired (R19, R21, R28). -/
def Obligations.CalendarWriteReplacesEntry : Prop :=
  ((∀ (h : ReqHead) (i : Nat) (f : CalendarArgs) (s : State), s.Takes (.writeCalendarEntry h i f) h →
     (95 < i ∨ calendarEntryOf f = none) →
     exec (.writeCalendarEntry h i f) s =
       .next (s.repliesOnly (.writeCalendarEntry h i f) h .refusedRange .none)) ∧
   (∀ (h : ReqHead) (i : Nat) (s : State), s.Takes (.clearCalendarEntry h i) h → 95 < i →
     exec (.clearCalendarEntry h i) s = .next (s.repliesOnly (.clearCalendarEntry h i) h .refusedRange .none)) ∧
   (∀ (c : Instr) (h : ReqHead) (i : Nat) (e : CalendarEntry) (s : State), s.Takes c h → i ≤ 95 →
     ((∃ f, c = .writeCalendarEntry h i f ∧ calendarEntryOf f = some e) ∨
       (c = .clearCalendarEntry h i ∧ e = { s.entry i with state := .empty, lastFired := none })) →
     ∃ t, exec c s = .next t ∧ t = (s.withCalendar t.calendar).withMgmt (s.replied c h .ok .none) ∧
       t.entry i = e ∧ (∀ j, j ≠ i → t.entry j = s.entry j) ∧
       t.calendar.agenda = s.calendar.agenda.filter (fun a => decide (a.entry ≠ i)) ∧
       t.calendar.truncated = s.calendar.truncated ∧ t.calendar.lastActual = s.calendar.lastActual ∧
       t.calendar.restTimer = s.calendar.restTimer ∧
       ((s.calendar.state = .stale ∨ s.calendar.state = .current) → t.calendar.state = .stale) ∧
       (∀ b p, s.calendar.state = .building b p → ∃ b', t.calendar.state =
         .building b' (some (mergePending p (.entry i))) ∧ b'.results = b.results ∧ b'.scope = b.scope ∧
           i ∈ b'.discarded ∧ ∀ j, j ≠ i → (j ∈ b'.discarded ↔ j ∈ b.discarded)) ∧
       t.calendar.wakeTimer = (if t.calendar.head = s.calendar.head then s.calendar.wakeTimer else
         match t.calendar.agenda.head?, s.towerTime with
         | some it, some p => some (s.now + (it.instant.abs - 1000 * s.settings.preludeLead - p.abs))
         | _, _ => none))) ∧
  (∀ (f : CalendarArgs) (e : CalendarEntry), calendarEntryOf f = some e ↔
     (f.firstDate ≤ 36524 ∧ f.lastDate ≤ 36524 ∧ f.weekdays < 128 ∧ f.start < 86400000 ∧
       (∀ x, f.endAt = some x → x < 86400000) ∧ (∀ n, f.step = some n → 1 ≤ n ∧ n ≤ 366) ∧ f.showNo ≤ 63 ∧
       f.priority ≤ 7 ∧ f.strayFlags = false ∧
       e = ⟨.set, f.firstDate, f.lastDate, f.weekdays, f.start, f.endAt, f.step, f.showNo, f.priority, f.once, none⟩))

/-- REBUILD_AGENDA: refused for RESUME and for a show or entry that does not exist, and without tower time; it begins a
build when none is in flight, which is performed as ALL while the agenda holds 24 items, and otherwise merges with the
pending request (R26, R28, R29). -/
def Obligations.RebuildBeginsOrWaits : Prop :=
  ∀ (h : ReqHead) (g : Granularity) (s : State), s.Takes (.rebuildAgenda h (some g)) h →
    (requestable g = false → exec (.rebuildAgenda h (some g)) s =
      .next (s.repliesOnly (.rebuildAgenda h (some g)) h .refusedRange .none)) ∧
    (requestable g = true → s.time.clock = .unset → exec (.rebuildAgenda h (some g)) s =
      .next (s.repliesOnly (.rebuildAgenda h (some g)) h .refusedState .none)) ∧
    (∀ p, requestable g = true → s.towerTime = some p → (s.calendar.state = .stale ∨ s.calendar.state = .current) →
      exec (.rebuildAgenda h (some g)) s = .next ((s.withCalendar
        { s.calendar with state := .building (s.newBuild g p) none }).withMgmt
          (s.replied (.rebuildAgenda h (some g)) h .ok (.rebuild .begun (s.newBuild g p).scope)))) ∧
    (∀ p, requestable g = true →
      (s.newBuild g p).scope = (if 24 ≤ s.calendar.agenda.length then .all else g) ∧ (s.newBuild g p).lower = p) ∧
    (∀ p b q, requestable g = true → s.towerTime = some p → s.calendar.state = .building b q →
      exec (.rebuildAgenda h (some g)) s = .next ((s.withCalendar
        { s.calendar with state := .building b (some (mergePending q g)) }).withMgmt
          (s.replied (.rebuildAgenda h (some g)) h .ok (.rebuild .pending (mergePending q g)))))

/-- What a build begins with: its scope is ALL for SHOW and ENTRY while the agenda holds 24 items, and otherwise as asked;
its lower bound is tower time, for RESUME less the late limit and not below (0, 0); its upper bound is 01:00 of the
following day. What its scope covers. What it finds: for each entry in its scope, each date from the lower bound's through the day after, not above
36524, that the entry matches and whose instant lies in the window (R20, R26). -/
def Obligations.BuildFindsMatchingStarts : Prop :=
  (∀ (s : State) (g : Granularity) (p : TowerTime),
    (s.newBuild g p).scope = (if 24 ≤ s.calendar.agenda.length ∧ g ≠ .resume then .all else g) ∧
    (s.newBuild g p).lower = (if g = .resume then .ofAbs (p.abs - 1000 * s.settings.lateLimit) else p) ∧
    (s.newBuild g p).upper = ⟨p.day + 1, 3600000⟩ ∧ (s.newBuild g p).begun = s.now ∧
    (s.newBuild g p).discarded = []) ∧
  (∀ (g : Granularity) (e sh : Nat),
    covers g e sh = true ↔ g = .all ∨ g = .resume ∨ g = .show sh ∨ g = .entry e) ∧
  ∀ (s : State) (g : Granularity) (p : TowerTime) (it : AgendaItem),
    it ∈ (s.newBuild g p).results ↔
      ∃ e c, (e, c) ∈ s.calendar.entries ∧ covers (s.newBuild g p).scope e c.showNo = true ∧
        ∃ d, (s.newBuild g p).lower.day ≤ d ∧ d ≤ p.day + 1 ∧ d ≤ 36524 ∧
          c.state = .set ∧ c.firstDate ≤ d ∧ d ≤ c.lastDate ∧ c.weekdays.testBit ((d + 5) % 7) = true ∧
          (∀ n, c.step = some n → (d - c.firstDate) % n = 0) ∧
          (s.newBuild g p).lower.abs ≤ (TowerTime.mk d c.start).abs ∧
          (TowerTime.mk d c.start).abs < (TowerTime.mk (p.day + 1) 3600000).abs ∧
          it = ⟨e, ⟨d, c.start⟩, c.showNo, c.priority, c.endAt⟩

/-- BUILD_COMPLETION, at an instant after the build began: the agenda is merged with the results, which replace the items
of the scope (a result is discarded when its entry was written since, when it is not after the entry's last fired and when
the entry is SPENT), in agenda order and with no start twice; of it the first 24 items are kept, with AGENDA_FULL recorded and the truncated flag set when more are dropped; every item due at tower time
fires, one after another in agenda order (its entry's last fired is set, a once-entry becomes SPENT, none of its items
stays; SHOW_NOT_READY, MISSED_START or a calendar start follows); the scope becomes the last actual granularity; the state becomes CURRENT, or the pending
request begins as the next build, from the entries as the firings left them; a changed head recomputes the wake timer
(R27, R30, R31, R38). What counts as a changed head is log entry 16. -/
def Obligations.BuildCompletionInstallsAgenda : Prop :=
  (∀ (s : State) (b : Build),
    (∀ it, it ∈ s.mergedAgenda b →
      (it ∈ s.calendar.agenda ∧ ¬ (b.scope = .all ∨ b.scope = .resume ∨ b.scope = .show it.showNo ∨
        b.scope = .entry it.entry)) ∨
      (it ∈ b.results ∧ it.entry ∉ b.discarded ∧ (s.entry it.entry).state ≠ .spent ∧
        ∀ f, (s.entry it.entry).lastFired = some f → f.abs < it.instant.abs)) ∧
    (∀ it ∈ s.calendar.agenda, ¬ (b.scope = .all ∨ b.scope = .resume ∨ b.scope = .show it.showNo ∨
      b.scope = .entry it.entry) → it ∈ s.mergedAgenda b) ∧
    (∀ it ∈ b.results, it.entry ∉ b.discarded → (s.entry it.entry).state ≠ .spent →
      (∀ f, (s.entry it.entry).lastFired = some f → f.abs < it.instant.abs) →
      ∃ a ∈ s.mergedAgenda b, a.entry = it.entry ∧ a.instant = it.instant) ∧
    (s.calendar.Ordered → (s.mergedAgenda b).Pairwise (fun x y => y.before x = false) ∧
      (s.mergedAgenda b).Pairwise (fun x y => x.sameStart y = false))) ∧
  ∀ (s : State) (b : Build) (q : Option Granularity) (p : TowerTime) (kept due : List AgendaItem),
    s.calendar.state = .building b q → b.begun < s.now → s.towerTime = some p →
    kept = (s.mergedAgenda b).take 24 → due = kept.filter (fun it => decide (it.instant.abs ≤ p.abs)) →
    ∃ t, exec .buildCompletion s = .next t ∧ t.calendar.agenda.length ≤ 24 ∧
      (∀ it ∈ t.calendar.agenda, p.abs < it.instant.abs ∧ it ∈ s.mergedAgenda b) ∧
      t.calendar.agenda = s.agendaAfter kept due ∧
      (s.calendar.Ordered → ∀ e, t.entry e = s.entryAfter due e) ∧
      (∀ v, v = s.withCalendar
          { s.calendar with
            agenda := kept, truncated := decide (24 < (s.mergedAgenda b).length), lastActual := some b.scope } →
        ∃ u, State.FireRun p due (if 24 < (s.mergedAgenda b).length then v.recordFault .agendaFull else v) u ∧
          t = u.withCalendar { u.calendar with state := t.calendar.state, wakeTimer := t.calendar.wakeTimer }) ∧
      t.calendar.lastActual = some b.scope ∧
      t.calendar.truncated = decide (24 < (s.mergedAgenda b).length) ∧
      (∀ i, 24 < (s.mergedAgenda b).length → s.faults.overflow = false → s.freeFaultRecord = some i →
        t.faultRecord i = some ⟨.agendaFull, s.now, some p⟩) ∧
      (q = none → t.calendar.state = .current) ∧
      (∀ g, q = some g → t.calendar.state = .building (t.newBuild g p) none) ∧
      (t.calendar.head ≠ s.calendar.head → t.calendar.wakeTimer = t.wakeAt t.calendar.agenda p) ∧
      (due = [] → t.calendar.agenda = kept ∧ t.calendar.entries = s.calendar.entries ∧
        t.calendar.restTimer = s.calendar.restTimer ∧
        (t.calendar.head = s.calendar.head → t.calendar.wakeTimer = s.calendar.wakeTimer) ∧
        t = (if 24 < (s.mergedAgenda b).length then s.recordFault .agendaFull else s).withCalendar t.calendar) ∧
      (∀ it, due = [it] → (s.mergedAgenda b).length ≤ 24 →
        (∀ i, s.faults.overflow = false → s.freeFaultRecord = some i →
          (1000 * s.settings.lateLimit < p.abs - it.instant.abs →
            t.faultRecord i = some ⟨.missedStart it.entry, s.now, some p⟩) ∧
          (p.abs - it.instant.abs ≤ 1000 * s.settings.lateLimit → s.showReady it.showNo = false →
            t.faultRecord i = some ⟨.showNotReady it.entry, s.now, some p⟩)) ∧
        (p.abs - it.instant.abs ≤ 1000 * s.settings.lateLimit → s.showReady it.showNo = true →
          ∃ u, u = s.withCalendar u.calendar ∧ u.calendar.restTimer = s.calendar.restTimer ∧
            t.calendar.restTimer = (u.calendarStart it (p.abs - it.instant.abs)).calendar.restTimer ∧
            t = (u.calendarStart it (p.abs - it.instant.abs)).withCalendar t.calendar))

/-- An advance of tower time fires every agenda item it reaches, one after another in agenda order: none of them stays in
the agenda, every entry has last fired the last of its items, and each item has its fault or its start. The firing of one:
its entry's last fired becomes the item's instant, a once-entry becomes SPENT, and when the show is not READY within the
late limit SHOW_NOT_READY is recorded, past the limit MISSED_START; within the limit a READY show's start goes to the
playback engine with its lateness, and nothing else but the calendar changes (R4, R30, R31, R32). -/
def Obligations.AdvanceFiresReachedItems : Prop :=
  (∀ (s t : State) (old new : TowerTime), s.now < lastInstant → exec .runClockAdvance s = .next t →
     s.towerTime = some old → t.towerTime = some new →
     ∀ it ∈ t.calendar.agenda, it ∈ s.calendar.agenda ∧ ¬ (old.abs < it.instant.abs ∧ it.instant.abs ≤ new.abs)) ∧
  (∀ (s t : State) (old new : TowerTime) (it : AgendaItem), s.now < lastInstant → exec .runClockAdvance s = .next t →
     s.towerTime = some old → t.towerTime = some new →
     s.calendar.agenda.filter (fun a => decide (old.abs < a.instant.abs) && decide (a.instant.abs ≤ new.abs)) = [it] →
     t.entry it.entry =
         { s.entry it.entry with
           lastFired := some it.instant
           state := if (s.entry it.entry).once then .spent else (s.entry it.entry).state } ∧
       (∀ e, e ≠ it.entry → t.entry e = s.entry e) ∧
       (∀ i, s.faults.overflow = false → s.freeFaultRecord = some i →
         (1000 * s.settings.lateLimit < new.abs - it.instant.abs →
           t.faultRecord i = some ⟨.missedStart it.entry, s.now + 1, some new⟩) ∧
         (new.abs - it.instant.abs ≤ 1000 * s.settings.lateLimit → s.showReady it.showNo = false →
           t.faultRecord i = some ⟨.showNotReady it.entry, s.now + 1, some new⟩)) ∧
       (new.abs - it.instant.abs ≤ 1000 * s.settings.lateLimit → s.showReady it.showNo = true →
         ∃ u, u = (s.withTime t.time).withCalendar u.calendar ∧ u.calendar.restTimer = s.calendar.restTimer ∧
           t.calendar.restTimer = (u.calendarStart it (new.abs - it.instant.abs)).calendar.restTimer ∧
           t = (u.calendarStart it (new.abs - it.instant.abs)).withCalendar t.calendar)) ∧
  (∀ (s t : State) (old new : TowerTime) (due : List AgendaItem), s.now < lastInstant →
     exec .runClockAdvance s = .next t → s.towerTime = some old → t.towerTime = some new →
     due = s.calendar.agenda.filter (fun a => decide (old.abs < a.instant.abs) && decide (a.instant.abs ≤ new.abs)) →
     t.calendar.agenda = s.agendaAfter s.calendar.agenda due ∧
       (s.calendar.Ordered → ∀ e, t.entry e = s.entryAfter due e) ∧
       ∃ u, State.FireRun new due
           ((s.withTime t.time).withCalendar { s.calendar with state := t.calendar.state }) u ∧
         t = u.withCalendar { u.calendar with wakeTimer := t.calendar.wakeTimer })

/-- WAKE_TIMER_EXPIRY: every lane in REST, and no other, enters SETUP with cold set and a new attempt, and its LANE_SETUP is
placed in the queue. REST_TIMER_EXPIRY: with every slot FREE and no start near, every active lane that allows auto-rest
and is not guarded goes to REST and its waiting frame is removed; otherwise nothing is asked (R38, R40, R143, R145, R153,
R154). -/
def Obligations.LaneTimersWakeAndRest : Prop :=
  (∀ (s : State) (e : Nat), s.calendar.wakeTimer = some e → e ≤ s.now →
     ∃ t, exec .wakeTimerExpiry s = .next t ∧
       t = (s.withCalendar { s.calendar with wakeTimer := none }).withLanes t.lanes ∧
       ∀ l, l < 24 →
         ((s.lane l).state = .rest →
           t.lane l =
             { s.adopted (s.lane l) with
               state := .setup, cold := true, setupSequence := ((s.lane l).setupSequence + 1) % 16
               retriesLeft := s.settings.retryLimit, receiptTimer := none, periodTimer := none } ∧
           ∃ age, t.waitingFrame l = some ⟨age, .setup s.settings.nodeAddress l (((s.lane l).setupSequence + 1) % 16)
             (s.lane l).config.channelCount (s.lane l).config.period⟩) ∧
         ((s.lane l).state ≠ .rest → t.lane l = s.lane l ∧ t.waitingFrame l = s.waitingFrame l)) ∧
  (∀ (s : State) (e : Nat), s.calendar.restTimer = some e → e ≤ s.now →
     ((s.allFree = false ∨ s.noStartNear = false) →
       exec .restTimerExpiry s = .next (s.withCalendar { s.calendar with restTimer := none })) ∧
     (s.allFree = true → s.noStartNear = true →
       ∃ t, exec .restTimerExpiry s = .next t ∧
         t = (s.withCalendar { s.calendar with restTimer := none }).withLanes t.lanes ∧
         ∀ l, l < 24 →
           (((s.lane l).config.autoRest && (s.lane l).active && !s.guarded l) = true →
             t.lane l = { s.adopted (s.lane l) with state := .rest, receiptTimer := none, periodTimer := none } ∧
             t.waitingFrame l = none) ∧
           (((s.lane l).config.autoRest && (s.lane l).active && !s.guarded l) = false →
             t.lane l = s.lane l ∧ t.waitingFrame l = s.waitingFrame l)))

/-- The reads of the calendar, the cue store, the playback engine, the zone mixer, the ingress processor and the lane
controller report the state at the take and change nothing. Of a show: its state and playing count, the written records
while LOADING, all of them when READY and none when EMPTY, the number of free records, and the longest run of free records
with its lowest base (R22, R25, R53, R54, R79, R100, R115, R132, R134, R156, R159, R163). -/
def Obligations.ReadsChangeNothing : Prop :=
  ((∀ (h : ReqHead) (i : Nat) (s : State), s.Takes (.readCalendarEntry h i) h →
     exec (.readCalendarEntry h i) s = .next (if 95 < i then s.repliesOnly (.readCalendarEntry h i) h .refusedRange .none
       else s.repliesOnly (.readCalendarEntry h i) h .ok (.calendarEntry (s.entry i)))) ∧
   (∀ (h : ReqHead) (s : State), s.Takes (.readAgenda h) h →
     exec (.readAgenda h) s = .next (s.repliesOnly (.readAgenda h) h .ok (.agenda
       { state := s.calendar.state.phase
         items := s.calendar.agenda
         building := s.calendar.state.scope
         pending := s.calendar.state.waiting
         truncated := s.calendar.truncated
         lastActual := s.calendar.lastActual }))) ∧
   (∀ (h : ReqHead) (sh first n : Nat) (s : State), s.Takes (.readCues h sh first n) h →
     exec (.readCues h sh first n) s = .next (
       if 63 < sh then s.repliesOnly (.readCues h sh first n) h .refusedRange .none
       else
         match (s.showRecord sh).state.run with
         | none => s.repliesOnly (.readCues h sh first n) h .notReady .none
         | some (base, count) =>
             if n = 0 ∨ 16 < n ∨ count < first + n then s.repliesOnly (.readCues h sh first n) h .refusedRange .none
             else s.repliesOnly (.readCues h sh first n) h .ok
               (.cues ((List.range n).map (fun i => s.cue (base + first + i)))))) ∧
   (∀ (h : ReqHead) (sh : Nat) (s : State), s.Takes (.readShow h sh) h →
     exec (.readShow h sh) s = .next (if 63 < sh then s.repliesOnly (.readShow h sh) h .refusedRange .none
       else s.repliesOnly (.readShow h sh) h .ok (.showRecord (s.showReport sh)))) ∧
   (∀ (s : State) (sh : Nat) (r : ShowReport), s.showReport sh = r →
     r.state = (s.showRecord sh).state ∧ r.playing = (s.showRecord sh).playing ∧
     (r.state = .empty → r.written = none) ∧
     (∀ b n, r.state = .loading b n → r.written = some ((List.range n).countP (fun i => (s.cue (b + i)).isSome))) ∧
     (∀ b n, r.state = .ready b n → r.written = some n) ∧
     r.freeRecords = (List.range 4096).countP s.recordFree ∧
     (r.lowestBase = none ↔ ∀ i, s.recordFree i = false) ∧ (r.lowestBase = none → r.largestRun = 0) ∧
     (∀ b, r.lowestBase = some b → 1 ≤ r.largestRun ∧
       ∀ i, b ≤ i → i < b + r.largestRun → s.recordFree i = true) ∧
     (∀ a m, 1 ≤ m → (∀ i, a ≤ i → i < a + m → s.recordFree i = true) → m ≤ r.largestRun ∧
       (m = r.largestRun → ∀ b, r.lowestBase = some b → b ≤ a))) ∧
   (∀ (h : ReqHead) (k : Nat) (s : State), s.Takes (.readPlayback h k) h →
     exec (.readPlayback h k) s = .next (if 3 < k then s.repliesOnly (.readPlayback h k) h .refusedRange .none
       else s.repliesOnly (.readPlayback h k) h .ok (.playback
         { slot := s.slot k
           showTime := (s.slot k).map (fun p => p.showTime s.instant)
           master := (s.slot k).map (fun p => p.master.value s.instant)
           nextCueInstant := (s.slot k).bind s.nextCueInstant
           duplicateStarts := s.playback.duplicateStarts
           expiredStarts := s.playback.expiredStarts })))) ∧
  ((∀ (h : ReqHead) (z : Nat) (s : State), s.Takes (.readZone h z) h →
     exec (.readZone h z) s = .next (if 239 < z then s.repliesOnly (.readZone h z) h .refusedRange .none
       else s.repliesOnly (.readZone h z) h .ok (.zone
         { owner := (s.zone z).owner
           house := (s.zone z).house
           handover := (s.zone z).handover
           layers := slotNumbers.filterMap (fun k =>
             (s.layer k z).map (fun l => ⟨k, l, s.layerValue z l s.instant⟩))
           ownerValue := s.ownerValue z s.instant
           value := s.zoneValue z s.instant
           live := sourceNumbers.map (fun i => (s.stored i z, s.mapped i z)) }))) ∧
   (∀ (h : ReqHead) (s : State), s.Takes (.readCeiling h) h →
     exec (.readCeiling h) s = .next (s.repliesOnly (.readCeiling h) h .ok (.ceiling
       { bands := bandNumbers.map s.band
         basis := s.towerTime.map (·.ms)
         inForce := s.bandIndexInForce
         ceiling := s.ceilingInForce }))) ∧
   (∀ (h : ReqHead) (i : Nat) (s : State), s.Takes (.readSource h i) h →
     exec (.readSource h i) s = .next (if 7 < i then s.repliesOnly (.readSource h i) h .refusedRange .none
       else s.repliesOnly (.readSource h i) h .ok (.source
         { config := ⟨(s.source i).enabled, (s.source i).origin, (s.source i).lossTime⟩
           state := (s.source i).state
           remaining := (s.source i).timer.map (fun e => e - s.now)
           sequences := (List.range 16).map (Table.read none (s.source i).sequences)
           accepted := (s.source i).accepted
           duplicate := (s.source i).duplicate
           stale := (s.source i).stale }))) ∧
   (∀ (h : ReqHead) (name : BankName) (i : Nat) (b : BankNo) (s : State), s.Takes (.readInputPatch h (some name) i) h →
     b = (if name = .inUse then s.ingress.inUse else s.ingress.inUse.other) →
     exec (.readInputPatch h (some name) i) s = .next (
       if 95 < i then s.repliesOnly (.readInputPatch h (some name) i) h .refusedRange .none
       else s.repliesOnly (.readInputPatch h (some name) i) h .ok
         (.inputEntry (Table.read .blank (s.inputBank b) i) b))) ∧
   (∀ (h : ReqHead) (name : BankName) (i : Nat) (b : BankNo) (s : State),
     s.Takes (.readOutputPatch h (some name) i) h →
     b = (if name = .inUse then s.lanes.selected else s.lanes.selected.other) →
     exec (.readOutputPatch h (some name) i) s = .next (
       if 191 < i then s.repliesOnly (.readOutputPatch h (some name) i) h .refusedRange .none
       else s.repliesOnly (.readOutputPatch h (some name) i) h .ok
         (.outputEntry (Table.read .blank (s.outputBank b) i) b))) ∧
   (∀ (h : ReqHead) (l : Nat) (s : State), s.Takes (.readLane h l) h →
     exec (.readLane h l) s = .next (if 23 < l then s.repliesOnly (.readLane h l) h .refusedRange .none
       else s.repliesOnly (.readLane h l) h .ok (.lane
         { config := (s.lane l).config
           state := (s.lane l).state
           cold := (s.lane l).cold
           setupSequence := (s.lane l).setupSequence
           retriesLeft := (s.lane l).retriesLeft
           receiptRemaining := (s.lane l).receiptTimer.map (fun e => e - s.now)
           periodRemaining := (s.lane l).periodTimer.map (fun e => e - s.now)
           warmUpRemaining := (s.lane l).warmUpRemaining
           frameNumber := (s.lane l).frameNumber
           bank := (s.lane l).bank
           guardInUse := (s.lane l).guardInUse
           waiting := (s.waitingFrame l).map (fun w => if w.frame.isLevels then .levels else .setup) }))) ∧
   (∀ (h : ReqHead) (s : State), s.Takes (.readGuard h) h →
     exec (.readGuard h) s = .next (s.repliesOnly (.readGuard h) h .ok
       (.guards (guardNumbers.map s.guardRange) s.lanes.requestedGuard s.lanes.guardStatus))))

/-! ## Shows and cue lists (03) -/

/-- OPEN_SHOW: refused out of range, in LOADING, and in READY while the show plays; otherwise it allocates the free run of
the asked length with the lowest base (a READY show's own run counting as free), the show becomes LOADING with its run's
written marks cleared, or NO_ROOM changes nothing. The runs that count as taken are those of the shows that are LOADING or
READY, and, for a READY show that is opened again, those of the other shows (R44, R46, R47). MODEL'S CHOICE (log entry 12): the contents of a record
that becomes free, which R44 leaves undefined, are kept. -/
def Obligations.OpenShowAllocates : Prop :=
  (∀ (runs : List (Nat × Nat)) (n : Nat),
     (∀ b, allocate runs n = some b ↔
       ((b + n ≤ 4096 ∧ ∀ r ∈ runs, b + n ≤ r.1 ∨ r.1 + r.2 ≤ b) ∧
         ∀ a, a < b → ¬ (a + n ≤ 4096 ∧ ∀ r ∈ runs, a + n ≤ r.1 ∨ r.1 + r.2 ≤ a))) ∧
     (allocate runs n = none ↔ ∀ a, ¬ (a + n ≤ 4096 ∧ ∀ r ∈ runs, a + n ≤ r.1 ∨ r.1 + r.2 ≤ a))) ∧
  (∀ (s : State) (sh : Nat) (r : Nat × Nat), Table.wf .blank s.cueStore.shows = true →
     (r ∈ s.runs ↔ ∃ x, s.HoldsRun x r) ∧ (r ∈ s.runsWithout sh ↔ ∃ x, x ≠ sh ∧ s.HoldsRun x r)) ∧
  (∀ (h : ReqHead) (sh n : Nat) (s : State), s.Takes (.openShow h sh n) h →
     ((63 < sh ∨ n = 0 ∨ 4096 < n) →
       exec (.openShow h sh n) s = .next (s.repliesOnly (.openShow h sh n) h .refusedRange .none)) ∧
     (sh ≤ 63 → 1 ≤ n → n ≤ 4096 →
       ((∃ b k, (s.showRecord sh).state = .loading b k) ∨
         (∃ b k, (s.showRecord sh).state = .ready b k ∧ 0 < (s.showRecord sh).playing)) →
       exec (.openShow h sh n) s = .next (s.repliesOnly (.openShow h sh n) h .refusedState .none)) ∧
     (∀ runs, sh ≤ 63 → 1 ≤ n → n ≤ 4096 →
       (((s.showRecord sh).state = .empty ∧ runs = s.runs) ∨
         (∃ b k, (s.showRecord sh).state = .ready b k ∧ (s.showRecord sh).playing = 0 ∧ runs = s.runsWithout sh)) →
       (allocate runs n = none →
         exec (.openShow h sh n) s = .next (s.repliesOnly (.openShow h sh n) h .noRoom .none)) ∧
       (∀ base, allocate runs n = some base → ∃ t, exec (.openShow h sh n) s = .next t ∧
         t = (s.withCueStore t.cueStore).withMgmt (s.replied (.openShow h sh n) h .ok (.showOpened base)) ∧
         t.showRecord sh = { s.showRecord sh with state := .loading base n } ∧
         (∀ x, x ≠ sh → t.showRecord x = s.showRecord x) ∧
         (∀ i, base ≤ i → i < base + n → t.cue i = none) ∧ (∀ i, (i < base ∨ base + n ≤ i) → t.cue i = s.cue i))))

/-- WRITE_CUES in LOADING stores every record in index order, each with its written mark, and answers ADJUSTED when a
quantity was clamped; in READY it is REFUSED_STATE once its records pass their own checks, in EMPTY whatever they are.
A record's stored form, by its kind: offset, zone range and source as carried, and the quantities the kind uses brought
into range: fade time to 600,000 ms, master target to 4096, hold limit to 3600 s, look components to 4095; the fields the
kind does not use are dropped (R49, R50). DEDUCED (log entry 15): a record whose cue flags octet is not 0 is refused. -/
def Obligations.WriteCuesStoresRecords : Prop :=
  (∀ (h : ReqHead) (sh first : Nat) (as : List CueArgs) (rs : List (CueRecord × Bool)) (base count : Nat) (s : State),
    s.Takes (.writeCues h sh first as) h → sh ≤ 63 → (s.showRecord sh).state = .loading base count →
    1 ≤ as.length → as.length ≤ 16 → first + as.length ≤ count → as.map cueRecordOf = rs.map some →
    ∃ t, exec (.writeCues h sh first as) s = .next t ∧
      t = (s.withCueStore t.cueStore).withMgmt (s.replied (.writeCues h sh first as) h
        (if rs.any (·.2) then .adjusted else .ok) (.cuesStored as.length)) ∧
      t.cueStore.shows = s.cueStore.shows ∧
      (∀ j r, rs[j]? = some r → t.cue (base + first + j) = some r.1) ∧
      (∀ i, (i < base + first ∨ base + first + as.length ≤ i) → t.cue i = s.cue i)) ∧
  (∀ (h : ReqHead) (sh first : Nat) (as : List CueArgs) (s : State), s.Takes (.writeCues h sh first as) h →
    (63 < sh ∨ ((∃ b k, (s.showRecord sh).state = .loading b k ∧
      (as.length = 0 ∨ 16 < as.length ∨ k < first + as.length ∨ ∃ a ∈ as, cueRecordOf a = none)))) →
    exec (.writeCues h sh first as) s = .next (s.repliesOnly (.writeCues h sh first as) h .refusedRange .none)) ∧
  (∀ (h : ReqHead) (sh first : Nat) (as : List CueArgs) (s : State), s.Takes (.writeCues h sh first as) h → sh ≤ 63 →
    (s.showRecord sh).state = .empty →
    exec (.writeCues h sh first as) s = .next (s.repliesOnly (.writeCues h sh first as) h .refusedState .none)) ∧
  (∀ (h : ReqHead) (sh first b k : Nat) (as : List CueArgs) (s : State), s.Takes (.writeCues h sh first as) h →
    sh ≤ 63 → (s.showRecord sh).state = .ready b k →
    ((as.length = 0 ∨ 16 < as.length ∨ ∃ a ∈ as, cueRecordOf a = none) →
      exec (.writeCues h sh first as) s = .next (s.repliesOnly (.writeCues h sh first as) h .refusedRange .none)) ∧
    (1 ≤ as.length → as.length ≤ 16 → (∀ a ∈ as, cueRecordOf a ≠ none) →
      exec (.writeCues h sh first as) s = .next (s.repliesOnly (.writeCues h sh first as) h .refusedState .none))) ∧
  (∀ (a : CueArgs) (r : CueRecord) (adjusted : Bool) (look : Look) (fade : Nat) (lookOver fadeOver : Bool),
    look = ⟨min a.look.red 4095, min a.look.green 4095, min a.look.blue 4095⟩ → fade = min a.fade 600000 →
    lookOver = decide (4095 < a.look.red ∨ 4095 < a.look.green ∨ 4095 < a.look.blue) →
    fadeOver = decide (600000 < a.fade) →
    (cueRecordOf a = some (r, adjusted) ↔ a.strayFlags = false ∧ r.offset = a.offset ∧
      ((∃ c, a.kind = some .look ∧ a.curve = some c ∧ r.cue = .look a.zoneFirst a.zoneCount look fade c ∧
          adjusted = (lookOver || fadeOver)) ∨
        (∃ c l, a.kind = some .follow ∧ a.curve = some c ∧ a.policy = some l ∧
          r.cue = .follow a.zoneFirst a.zoneCount look a.source l fade c ∧ adjusted = (lookOver || fadeOver)) ∨
        (a.kind = some .release ∧ r.cue = .release a.zoneFirst a.zoneCount ∧ adjusted = false) ∨
        (a.kind = some .master ∧ r.cue = .master (min a.master 4096) fade ∧
          adjusted = (decide (4096 < a.master) || fadeOver)) ∨
        (a.kind = some .hold ∧ r.cue = .hold (min a.holdLimit 3600) ∧ adjusted = decide (3600 < a.holdLimit)) ∨
        (a.kind = some .finish ∧ r.cue = .finish fade ∧ adjusted = fadeOver))))

/-- CLOSE_SHOW examines the records in index order: with none bad the show becomes READY, otherwise NOT_READY names the
first bad record. A record is bad for the first of the five checks it fails: written, offset at most 14,400,000, offset
not below that of the record before it, zone range within the 240 zones, source at most 7. DELETE_SHOW empties a show that
does not play. Both refuse a show above 63 (R51, R52). MODEL'S CHOICE (log entry 12): the contents of
the records that become free, which R44 leaves undefined, are kept. -/
def Obligations.CloseAndDeleteShow : Prop :=
  (∀ (h : ReqHead) (sh base count : Nat) (s : State), s.Takes (.closeShow h sh) h → sh ≤ 63 →
    (s.showRecord sh).state = .loading base count →
    ((∀ i, i < count → badReason (s.cueBefore base i) (s.cue (base + i)) = none) →
      ∃ t, exec (.closeShow h sh) s = .next t ∧
        t = (s.withCueStore t.cueStore).withMgmt (s.replied (.closeShow h sh) h .ok .none) ∧
        t.cueStore.cues = s.cueStore.cues ∧ t.showRecord sh = { s.showRecord sh with state := .ready base count } ∧
        ∀ x, x ≠ sh → t.showRecord x = s.showRecord x) ∧
    (∀ i reason, i < count → badReason (s.cueBefore base i) (s.cue (base + i)) = some reason →
      (∀ j, j < i → badReason (s.cueBefore base j) (s.cue (base + j)) = none) →
      exec (.closeShow h sh) s = .next (s.repliesOnly (.closeShow h sh) h .notReady (.badRecord i reason)))) ∧
  (∀ (h : ReqHead) (sh : Nat) (s : State), s.Takes (.closeShow h sh) h → sh ≤ 63 →
    ((s.showRecord sh).state = .empty ∨ ∃ b k, (s.showRecord sh).state = .ready b k) →
    exec (.closeShow h sh) s = .next (s.repliesOnly (.closeShow h sh) h .refusedState .none)) ∧
  (∀ (h : ReqHead) (sh : Nat) (s : State), 63 < sh →
    (s.Takes (.closeShow h sh) h →
      exec (.closeShow h sh) s = .next (s.repliesOnly (.closeShow h sh) h .refusedRange .none)) ∧
    (s.Takes (.deleteShow h sh) h →
      exec (.deleteShow h sh) s = .next (s.repliesOnly (.deleteShow h sh) h .refusedRange .none))) ∧
  (∀ (s : State) (base i : Nat), s.cueBefore base 0 = none ∧ s.cueBefore base (i + 1) = s.cue (base + i)) ∧
  (∀ (previous : Option CueRecord) (r : CueRecord),
    badReason previous none = some .notWritten ∧
    (14400000 < r.offset → badReason previous (some r) = some .offsetRange) ∧
    (∀ q, r.offset ≤ 14400000 → previous = some q → r.offset < q.offset →
      badReason previous (some r) = some .offsetOrder) ∧
    (r.offset ≤ 14400000 → (∀ q, previous = some q → q.offset ≤ r.offset) →
      (r.cue.ZonesOutside → badReason previous (some r) = some .zoneRange) ∧
      (¬ r.cue.ZonesOutside → r.cue.SourceOutside → badReason previous (some r) = some .sourceRange) ∧
      (¬ r.cue.ZonesOutside → ¬ r.cue.SourceOutside → badReason previous (some r) = none))) ∧
  (∀ (h : ReqHead) (sh : Nat) (s : State), s.Takes (.deleteShow h sh) h → sh ≤ 63 →
    (0 < (s.showRecord sh).playing →
      exec (.deleteShow h sh) s = .next (s.repliesOnly (.deleteShow h sh) h .refusedState .none)) ∧
    ((s.showRecord sh).playing = 0 → ∃ t, exec (.deleteShow h sh) s = .next t ∧
      t = (s.withCueStore t.cueStore).withMgmt (s.replied (.deleteShow h sh) h .ok .none) ∧
      t.cueStore.cues = s.cueStore.cues ∧ t.showRecord sh = ⟨.empty, 0⟩ ∧
      ∀ x, x ≠ sh → t.showRecord x = s.showRecord x))

/-! ## Playbacks (04) -/

/-- Slot choice: the lowest-numbered FREE slot; without one, among the slots of lower priority the one of lowest priority,
then earliest run start, then lowest number; without one, none. START_SHOW: refused out of range and for a show that is
not READY; with a FREE slot, or the victim's slot once released, the show starts there, with the current instant as run
start and full master, its playing count rises, the rest timer stops and resting lanes are woken, and then the due cues
execute; with no slot to be had NO_SLOT is recorded. A calendar start is dropped and counted when its entry plays already,
or when its end instant has come; otherwise it takes a slot in the same way, with its run start moved back by the
lateness, its entry as origin and its end instant (R62 to R67, R73, R75). -/
def Obligations.StartShowTakesSlot : Prop :=
  (∀ (s : State) (priority : Nat),
     (∀ k, s.chooseSlot priority = .free k ↔ k < 4 ∧ s.slot k = none ∧ ∀ j, j < k → s.slot j ≠ none) ∧
     (∀ k p, s.chooseSlot priority = .preempt k p ↔
       (∀ j, j < 4 → s.slot j ≠ none) ∧ k < 4 ∧ s.slot k = some p ∧ p.priority < priority ∧
         ∀ j q, j < 4 → j ≠ k → s.slot j = some q → q.priority < priority →
           p.priority < q.priority ∨ (p.priority = q.priority ∧
             (p.runStart < q.runStart ∨ (p.runStart = q.runStart ∧ k < j)))) ∧
     (s.chooseSlot priority = .refused ↔ ∀ j, j < 4 → ∃ q, s.slot j = some q ∧ priority ≤ q.priority)) ∧
  (∀ (h : ReqHead) (sh priority : Nat) (s : State), s.Takes (.startShow h sh priority) h →
     ((63 < sh ∨ 7 < priority) →
       exec (.startShow h sh priority) s = .next (s.repliesOnly (.startShow h sh priority) h .refusedRange .none)) ∧
     (sh ≤ 63 → priority ≤ 7 → s.showReady sh = false →
       exec (.startShow h sh priority) s = .next (s.repliesOnly (.startShow h sh priority) h .notReady .none)) ∧
     (∀ k, sh ≤ 63 → priority ≤ 7 → s.showReady sh = true → s.chooseSlot priority = .free k →
       ∃ t, exec (.startShow h sh priority) s = .next t ∧
         t.mgmt = s.replied (.startShow h sh priority) h .ok (.started k none) ∧
         t.time = s.time ∧ t.ingress = s.ingress ∧ t.faults = s.faults ∧ t.image = s.image ∧
         (∀ l, l < 24 → (t.lane l).state = if (s.lane l).state = .rest then .setup else (s.lane l).state) ∧
         ((∀ c, s.showCue sh 0 = some c → 0 < c.offset) →
           t.slot k = some ⟨.running, sh, .manual, priority, s.now, 0, 0, none, ⟨s.now, 0, 4096, 4096⟩⟩ ∧
           (∀ j, j ≠ k → t.slot j = s.slot j) ∧
           t.showRecord sh = { s.showRecord sh with playing := (s.showRecord sh).playing + 1 } ∧
           (∀ x, x ≠ sh → t.showRecord x = s.showRecord x) ∧
           t.calendar = { s.calendar with restTimer := none }) ∧
         ∃ u v, s.Filled u k ⟨.running, sh, .manual, priority, s.now, 0, 0, none, ⟨s.now, 0, 4096, 4096⟩⟩ none ∧
           exec (.nextCueInstant k) u = .next v ∧
           t = v.withMgmt (s.replied (.startShow h sh priority) h .ok (.started k none))) ∧
     (∀ k p, sh ≤ 63 → priority ≤ 7 → s.showReady sh = true → s.chooseSlot priority = .preempt k p →
       ∃ t, exec (.startShow h sh priority) s = .next t ∧
         t.mgmt = s.replied (.startShow h sh priority) h .ok (.started k (some (p.showNo, p.origin))) ∧
         ∃ u v, s.Filled u k ⟨.running, sh, .manual, priority, s.now, 0, 0, none, ⟨s.now, 0, 4096, 4096⟩⟩ (some p) ∧
           exec (.nextCueInstant k) u = .next v ∧
           t = v.withMgmt (s.replied (.startShow h sh priority) h .ok (.started k (some (p.showNo, p.origin))))) ∧
     (sh ≤ 63 → priority ≤ 7 → s.showReady sh = true → s.chooseSlot priority = .refused →
       ∃ t, exec (.startShow h sh priority) s = .next t ∧ t.playback = s.playback ∧ t.cueStore = s.cueStore ∧
         t.calendar = s.calendar ∧ t.lanes = s.lanes ∧ t.mixer = s.mixer ∧
         t.mgmt.outbound.getLast? = some (.reply ⟨h.origin, s.settings.nodeAddress, some (h.tag, 0x0401), .refusedState,
           .none, .nothing⟩) ∧
         (∀ i, s.faults.overflow = false → s.freeFaultRecord = some i →
           t.faultRecord i = some ⟨.noSlot none, s.now, s.towerTime⟩))) ∧
  (∀ (s : State) (it : AgendaItem) (lateness : Nat) (start : Int) (fin : Option Int), start = s.instant - lateness →
     fin = it.endAt.map (fun e =>
       if e ≤ it.instant.ms then start + e + 86400000 - it.instant.ms else start + e - it.instant.ms) →
     ((∃ k p, k < 4 ∧ s.slot k = some p ∧ p.origin = .entry it.entry) →
       s.calendarStart it lateness =
         s.withPlayback { s.playback with duplicateStarts := satInc 255 s.playback.duplicateStarts }) ∧
     ((∀ k p, k < 4 → s.slot k = some p → p.origin ≠ .entry it.entry) →
       (∀ f, fin = some f → f ≤ s.instant → s.calendarStart it lateness =
         s.withPlayback { s.playback with expiredStarts := satInc 255 s.playback.expiredStarts }) ∧
       ((∀ f, fin = some f → s.instant < f) →
         (∀ k, s.chooseSlot it.priority = .free k → ∃ u,
           s.Filled u k ⟨.running, it.showNo, .entry it.entry, it.priority, start, 0, 0, fin,
             ⟨start, 0, 4096, 4096⟩⟩ none ∧
           exec (.nextCueInstant k) u = .next (s.calendarStart it lateness)) ∧
         (∀ k p, s.chooseSlot it.priority = .preempt k p → ∃ u,
           s.Filled u k ⟨.running, it.showNo, .entry it.entry, it.priority, start, 0, 0, fin,
             ⟨start, 0, 4096, 4096⟩⟩ (some p) ∧
           exec (.nextCueInstant k) u = .next (s.calendarStart it lateness)) ∧
         (s.chooseSlot it.priority = .refused →
           s.calendarStart it lateness = s.recordFault (.noSlot (some it.entry))))))

/-- GO resumes a HOLDING slot at the current instant, and HOLD_EXPIRY at its expiry: the time held joins the held total
(R61, R74). -/
def Obligations.GoAndHoldExpiryResume : Prop :=
  (∀ (h : ReqHead) (k : Nat) (s : State), s.Takes (.go h k) h →
     (3 < k → exec (.go h k) s = .next (s.repliesOnly (.go h k) h .refusedRange .none)) ∧
     (k ≤ 3 → (s.slot k = none ∨ ∃ p, s.slot k = some p ∧ ∀ start limit, p.phase ≠ .holding start limit) →
       exec (.go h k) s = .next (s.repliesOnly (.go h k) h .refusedState .none)) ∧
     (∀ p start limit, k ≤ 3 → s.slot k = some p → p.phase = .holding start limit →
       ∃ t, exec (.go h k) s = .next t ∧ t.mgmt = s.replied (.go h k) h .ok .none ∧
         ((∀ c, s.showCue p.showNo p.nextCue = some c →
             s.instant < p.runStart + (p.held + (s.instant - start)) + c.offset) →
           t.slot k = some { p with phase := .running, held := p.held + (s.instant - start) } ∧
             ∀ j, j ≠ k → t.slot j = s.slot j))) ∧
  (∀ (s : State) (k : Nat) (p : Playback) (start : Int) (limit : Nat), s.slot k = some p →
     p.phase = .holding start limit → limit ≠ 0 → start + 1000 * limit ≤ s.instant →
     ∃ t, exec (.holdExpiry k) s = .next t ∧ t.time = s.time ∧ t.lanes = s.lanes ∧ t.mgmt = s.mgmt ∧
       ((∀ c, s.showCue p.showNo p.nextCue = some c → s.instant < p.runStart + (p.held + 1000 * limit) + c.offset) →
         t.slot k = some { p with phase := .running, held := p.held + 1000 * limit } ∧
           ∀ j, j ≠ k → t.slot j = s.slot j))

/-- STOP_PLAYBACK makes a RUNNING or HOLDING slot ENDING with a fade of its master to 0, releases an ENDING one, and
releases at once with a fade of 0; SET_MASTER replaces the master fade (R70, R77, R78). -/
def Obligations.StopAndMasterFade : Prop :=
  (∀ (h : ReqHead) (k level fade : Nat) (p : Playback) (s : State), s.Takes (.setMaster h k level fade) h → k ≤ 3 →
    s.slot k = some p →
    exec (.setMaster h k level fade) s = .next ((s.setSlot k (some
      { p with master := ⟨s.instant, min fade 600000, p.master.value s.instant, min level 4096⟩ })).withMgmt
        (s.replied (.setMaster h k level fade) h
          (if 4096 < level ∨ 600000 < fade then .adjusted else .ok) .none))) ∧
  (∀ (h : ReqHead) (k fade : Nat) (p : Playback) (s : State), s.Takes (.stopPlayback h k fade) h → k ≤ 3 →
    s.slot k = some p → 1 ≤ fade → ∀ held, ((p.phase = .running ∧ held = p.held) ∨
      ∃ start limit, p.phase = .holding start limit ∧ held = p.held + (s.instant - start)) →
    exec (.stopPlayback h k fade) s = .next ((s.setSlot k (some
      { p with
        phase := .ending (s.instant + min fade 600000), held := held
        master := ⟨s.instant, min fade 600000, p.master.value s.instant, 0⟩ })).withMgmt
          (s.replied (.stopPlayback h k fade) h (if 600000 < fade then .adjusted else .ok) .none))) ∧
  (∀ (h : ReqHead) (k fade : Nat) (p : Playback) (s : State), s.Takes (.stopPlayback h k fade) h → k ≤ 3 →
    s.slot k = some p → (fade = 0 ∨ ∃ r, p.phase = .ending r) →
    ∃ t, exec (.stopPlayback h k fade) s = .next t ∧ t.slot k = none ∧ (∀ j, j ≠ k → t.slot j = s.slot j) ∧
      t.mgmt = s.replied (.stopPlayback h k fade) h (if 600000 < fade then .adjusted else .ok) .none) ∧
  (∀ (h : ReqHead) (k level fade : Nat) (s : State), k ≤ 3 → s.slot k = none →
    (s.Takes (.setMaster h k level fade) h → exec (.setMaster h k level fade) s =
      .next (s.repliesOnly (.setMaster h k level fade) h .refusedState .none)) ∧
    (s.Takes (.stopPlayback h k fade) h → exec (.stopPlayback h k fade) s =
      .next (s.repliesOnly (.stopPlayback h k fade) h .refusedState .none)))

/-- NEXT_CUE_INSTANT executes the due cue of a RUNNING slot, with its due instant as the start of what it begins, and
advances the next cue index, when the cue after it is not due yet; in every case no cue of the slot is left due. A HOLD
whose limit has passed resumes at once, and a RELEASE hands its zones over from their values at the due instant. A layer
that LOOK or FOLLOW creates has the slot's priority and run start and begins from the zone value, and its zone's handover
is removed when it takes the zone. Catch-up: a run of due cues is the effect of the first at its own due instant, and then
the run of the others; the handovers that a first RELEASE made and that have ended are removed at the end (R60, R68 to R74,
R82, R84, R91, R92, R94 to R96). -/
def Obligations.DueCueTakesEffect : Prop :=
  (∀ (s : State) (k : Nat) (p : Playback) (c : CueRecord) (d : Int), s.ZonesOwned → s.slot k = some p →
     p.phase = .running → s.showCue p.showNo p.nextCue = some c → d = p.runStart + p.held + c.offset →
     d ≤ s.instant → (∀ c', s.showCue p.showNo (p.nextCue + 1) = some c' → s.instant < p.runStart + p.held + c'.offset) →
     ∃ t, exec (.nextCueInstant k) s = .next t ∧ t.time = s.time ∧ t.lanes = s.lanes ∧ t.mgmt = s.mgmt ∧
       (∀ z n l fade curve, c.cue = .look z n l fade curve →
         t.slot k = some { p with nextCue := p.nextCue + 1 } ∧
         (∀ y, z ≤ y → y < z + n → ∃ m, t.layer k y = some m ∧ m.mode = .look l ∧ m.fadeStart = d ∧
           m.fadeDuration = fade ∧ m.curve = curve ∧
           (∀ m', s.layer k y = some m' → m.fadeFrom = s.layerValue y m' d ∧ m.priority = m'.priority ∧
             m.runStart = m'.runStart) ∧
           (s.layer k y = none → m.fadeFrom = s.zoneValue y d ∧ m.priority = p.priority ∧ m.runStart = p.runStart)) ∧
         (∀ y, z ≤ y → y < z + n → (t.zone y).Owned ∧ (t.zone y).house = (s.zone y).house ∧
           (∀ j, j ≠ k → t.layer j y = s.layer j y) ∧
           (t.zone y).handover =
             (if (t.zone y).owner = (s.zone y).owner then (s.zone y).handover else none)) ∧
         (∀ y, (y < z ∨ z + n ≤ y) → t.zone y = s.zone y)) ∧
       (∀ z n b src policy fade curve, c.cue = .follow z n b src policy fade curve →
         t.slot k = some { p with nextCue := p.nextCue + 1 } ∧
         (∀ y, z ≤ y → y < z + n → ∃ m, t.layer k y = some m ∧
           m.mode = .follow src policy b fade (if (s.source src).state = .lost then .fallen else .tracking) ∧
           m.fadeStart = d ∧ m.fadeDuration = fade ∧ m.curve = curve ∧
           (∀ m', s.layer k y = some m' → m.fadeFrom = s.layerValue y m' d ∧ m.priority = m'.priority ∧
             m.runStart = m'.runStart) ∧
           (s.layer k y = none → m.fadeFrom = s.zoneValue y d ∧ m.priority = p.priority ∧ m.runStart = p.runStart)) ∧
         (∀ y, z ≤ y → y < z + n → (t.zone y).Owned ∧ (t.zone y).house = (s.zone y).house ∧
           (∀ j, j ≠ k → t.layer j y = s.layer j y) ∧
           (t.zone y).handover =
             (if (t.zone y).owner = (s.zone y).owner then (s.zone y).handover else none)) ∧
         (∀ y, (y < z ∨ z + n ≤ y) → t.zone y = s.zone y)) ∧
       (∀ z n, c.cue = .release z n →
         t.slot k = some { p with nextCue := p.nextCue + 1 } ∧ (∀ y, z ≤ y → y < z + n → t.layer k y = none) ∧
           (∀ y, (y < z ∨ z + n ≤ y) → t.zone y = s.zone y) ∧
           ∀ y, z ≤ y → y < z + n →
             ((s.zone y).owner ≠ some k → (t.zone y).handover = (s.zone y).handover) ∧
             ((s.zone y).owner = some k → (t.zone y).handover =
               if d + s.settings.handoverTime ≤ s.instant then none
               else some ⟨s.zoneValue y d, d, s.settings.handoverTime⟩)) ∧
       (∀ level fade, c.cue = .master level fade →
         t.slot k = some { p with nextCue := p.nextCue + 1, master := ⟨d, fade, p.master.value d, level⟩ } ∧
           ∀ y, t.zone y = s.zone y) ∧
       (∀ limit, c.cue = .hold limit → (limit = 0 ∨ s.instant < d + 1000 * limit) →
         t.slot k = some { p with nextCue := p.nextCue + 1, phase := .holding d limit }) ∧
       (∀ limit, c.cue = .hold limit → limit ≠ 0 → d + 1000 * limit ≤ s.instant →
         t.slot k = some { p with nextCue := p.nextCue + 1, held := p.held + 1000 * limit }) ∧
       (∀ fade : Nat, c.cue = .finish fade → s.instant < d + fade →
         t.slot k = some { p with
           nextCue := p.nextCue + 1, phase := .ending (d + fade), master := ⟨d, fade, p.master.value d, 0⟩ }) ∧
       (∀ fade : Nat, c.cue = .finish fade → d + fade ≤ s.instant → t.slot k = none)) ∧
  (∀ (s t : State) (k : Nat) (p : Playback) (i : Int), exec (.nextCueInstant k) s = .next t → t.slot k = some p →
     t.nextCueInstant p = some i → t.instant < i) ∧
  (∀ (s : State) (k : Nat) (p : Playback) (c : CueRecord) (d : Int), s.slot k = some p → p.phase = .running →
     s.showCue p.showNo p.nextCue = some c → d = p.runStart + p.held + c.offset → d ≤ s.instant →
     (∀ z n, c.cue ≠ .release z n) →
     exec (.nextCueInstant k) s =
       exec (.nextCueInstant k) (s.executeCue k { p with nextCue := p.nextCue + 1 } d c.cue)) ∧
  (∀ (s : State) (k : Nat) (p : Playback) (c : CueRecord) (d : Int) (z n : Nat), s.ZonesOwned → s.slot k = some p →
     p.phase = .running → s.showCue p.showNo p.nextCue = some c → d = p.runStart + p.held + c.offset → d ≤ s.instant →
     c.cue = .release z n →
     ∃ v t, exec (.nextCueInstant k) (s.executeCue k { p with nextCue := p.nextCue + 1 } d c.cue) = .next v ∧
       exec (.nextCueInstant k) s = .next t ∧ t = v.withMixer t.mixer ∧ t.mixer.live = v.mixer.live ∧
       t.mixer.bands = v.mixer.bands ∧
       (∀ y, z ≤ y → y < z + n → (s.zone y).owner = some k → s.settings.handoverTime ≠ 0 → t.zone y =
         { v.zone y with
           handover := (v.zone y).handover.filter (fun g => decide (s.instant < g.start + g.duration)) }) ∧
       (∀ y, (y < z ∨ z + n ≤ y ∨ (s.zone y).owner ≠ some k ∨ s.settings.handoverTime = 0) → t.zone y = v.zone y))

/-- RELEASE_INSTANT of an ENDING slot, and END_INSTANT of a RUNNING or HOLDING one, release it: its layers are dropped
from every zone, it becomes FREE, the playing count falls, and the rest timer starts when no slot is left (R39, R75,
R76). -/
def Obligations.ReleaseFreesSlot : Prop :=
  ∀ (s : State) (c : Instr) (k : Nat) (p : Playback), s.slot k = some p →
    ((c = .releaseInstant k ∧ ∃ r, p.phase = .ending r ∧ r ≤ s.instant) ∨
      (c = .endInstant k ∧ (∀ r, p.phase ≠ .ending r) ∧ ∃ e, p.endInstant = some e ∧ e ≤ s.instant)) →
    ∃ t, exec c s = .next t ∧ t.slot k = none ∧ (∀ j, j ≠ k → t.slot j = s.slot j) ∧
      (∀ z, z < 240 → t.layer k z = none ∧ ∀ j, j ≠ k → t.layer j z = s.layer j z) ∧
      (∀ z, (t.zone z).house = (s.zone z).house) ∧
      t.showRecord p.showNo = { s.showRecord p.showNo with playing := (s.showRecord p.showNo).playing - 1 } ∧
      (∀ x, x ≠ p.showNo → t.showRecord x = s.showRecord x) ∧
      ((∀ j, j < 4 → j ≠ k → s.slot j = none) →
        t.calendar = { s.calendar with restTimer := some (s.now + 1000 * s.settings.restDelay) }) ∧
      ((∃ j, j < 4 ∧ j ≠ k ∧ s.slot j ≠ none) → t.calendar = s.calendar) ∧
      t.time = s.time ∧ t.ingress = s.ingress ∧ t.lanes = s.lanes ∧ t.mgmt = s.mgmt ∧ t.faults = s.faults

/-! ## Zones, layers and levels (05, 06) -/

/-- WRITE_HOUSE_LOOK gives the zones of its range the look, each component brought to 4095 at most, and leaves every
other zone alone; HANDOVER_END removes a handover that has ended (R82, R83). -/
def Obligations.HouseLookAndHandoverEnd : Prop :=
  (∀ (h : ReqHead) (z n : Nat) (l : Look) (s : State), s.Takes (.writeHouseLook h z n l) h →
    ((239 < z ∨ n = 0 ∨ 240 < n ∨ 240 < z + n) →
      exec (.writeHouseLook h z n l) s = .next (s.repliesOnly (.writeHouseLook h z n l) h .refusedRange .none)) ∧
    (1 ≤ n → z + n ≤ 240 → ∃ t, exec (.writeHouseLook h z n l) s = .next t ∧
      t = (s.withMixer t.mixer).withMgmt (s.replied (.writeHouseLook h z n l) h
        (if 4095 < l.red ∨ 4095 < l.green ∨ 4095 < l.blue then .adjusted else .ok) .none) ∧
      t.mixer.live = s.mixer.live ∧ t.mixer.bands = s.mixer.bands ∧
      (∀ y, z ≤ y → y < z + n →
        t.zone y = { s.zone y with house := ⟨min l.red 4095, min l.green 4095, min l.blue 4095⟩ }) ∧
      (∀ y, (y < z ∨ z + n ≤ y) → t.zone y = s.zone y))) ∧
  (∀ (s : State) (z : Nat) (h : Handover), (s.zone z).handover = some h → h.start + h.duration ≤ s.instant →
    ∃ t, exec (.handoverEnd z) s = .next t ∧ t = s.withMixer t.mixer ∧ t.mixer.live = s.mixer.live ∧
      t.mixer.bands = s.mixer.bands ∧ t.zone z = { s.zone z with handover := none } ∧
      ∀ y, y ≠ z → t.zone y = s.zone y)

/-- WRITE_CEILING_BAND and CLEAR_CEILING_BAND change one band. With tower time the band in force is, among the present
bands with from at or before the ms of day, and among all present bands when there is none such, the one with the
greatest from, then the lowest ceiling, then the lowest index; without tower time the ceiling is the lowest of the
present bands, and with no band present it is 4095 (R111 to R113). -/
def Obligations.BandsAndCeilingInForce : Prop :=
  (∀ (h : ReqHead) (i m c : Nat) (s : State), s.Takes (.writeCeilingBand h i m c) h →
    ((7 < i ∨ 86400000 ≤ m) → exec (.writeCeilingBand h i m c) s =
      .next (s.repliesOnly (.writeCeilingBand h i m c) h .refusedRange .none)) ∧
    (i ≤ 7 → m < 86400000 → ∃ t, exec (.writeCeilingBand h i m c) s = .next t ∧
      t = (s.withMixer { s.mixer with bands := t.mixer.bands }).withMgmt
        (s.replied (.writeCeilingBand h i m c) h (if 4095 < c then .adjusted else .ok) .none) ∧
      t.band i = ⟨true, m, min c 4095⟩ ∧ ∀ j, j ≠ i → t.band j = s.band j)) ∧
  (∀ (h : ReqHead) (i : Nat) (s : State), s.Takes (.clearCeilingBand h i) h →
    (7 < i → exec (.clearCeilingBand h i) s =
      .next (s.repliesOnly (.clearCeilingBand h i) h .refusedRange .none)) ∧
    (i ≤ 7 → ∃ t, exec (.clearCeilingBand h i) s = .next t ∧
      t = (s.withMixer { s.mixer with bands := t.mixer.bands }).withMgmt
        (s.replied (.clearCeilingBand h i) h .ok .none) ∧
      t.band i = { s.band i with present := false } ∧ ∀ j, j ≠ i → t.band j = s.band j)) ∧
  (∀ (s : State) (p : TowerTime) (i : Nat), s.towerTime = some p → s.bandIndexInForce = some i →
    i < 8 ∧ (s.band i).present = true ∧ s.ceilingInForce = (s.band i).ceiling ∧
    (∀ j, j < 8 → (s.band j).present = true → p.ms < (s.band i).fromMs → p.ms < (s.band j).fromMs) ∧
    (∀ j, j < 8 → j ≠ i → (s.band j).present = true →
      ((s.band j).fromMs ≤ p.ms ∨ p.ms < (s.band i).fromMs) →
      (s.band j).fromMs < (s.band i).fromMs ∨ ((s.band j).fromMs = (s.band i).fromMs ∧
        ((s.band i).ceiling < (s.band j).ceiling ∨ ((s.band i).ceiling = (s.band j).ceiling ∧ i < j))))) ∧
  (∀ s : State, s.towerTime ≠ none → (∃ j, j < 8 ∧ (s.band j).present = true) →
    ∃ i, s.bandIndexInForce = some i) ∧
  (∀ s : State, (∀ j, j < 8 → (s.band j).present = false) →
    s.bandIndexInForce = none ∧ s.ceilingInForce = 4095) ∧
  (∀ s : State, s.towerTime = none → s.bandIndexInForce = none ∧ s.ceilingInForce ≤ 4095 ∧
    (∀ j, j < 8 → (s.band j).present = true → s.ceilingInForce ≤ (s.band j).ceiling) ∧
    (s.ceilingInForce = 4095 ∨
      ∃ j, j < 8 ∧ (s.band j).present = true ∧ (s.band j).ceiling = s.ceilingInForce))

/-- The owner of a zone is the slot of the layer with the highest priority, then the later run start, then the higher
slot number (R91). A drop removes one layer of one zone. When it does not change the owner, the zone value stays what it
was. When it changes the owner: with a handover time other than 0 the handover made starts from the zone value at the
drop, so that the zone value does not jump; with a handover time of 0 the new owner value shows at once (R91, R92). -/
def Obligations.DropIsContinuous : Prop :=
  (∀ (layers : Table (Option Layer)) (k : Nat), strongest layers = some k ↔
    k < 4 ∧ ∃ l, Table.read none layers k = some l ∧
      ∀ j m, j < 4 → j ≠ k → Table.read none layers j = some m → m.priority < l.priority ∨
        (m.priority = l.priority ∧ (m.runStart < l.runStart ∨ (m.runStart = l.runStart ∧ j < k)))) ∧
  (∀ (s : State) (k z : Nat) (l : Layer) (t : Int), k < 4 → (s.zone z).Owned → s.layer k z = some l →
    ∃ u, s.dropLayer k t z = u ∧ u = s.withMixer u.mixer ∧ u.mixer.live = s.mixer.live ∧
      u.mixer.bands = s.mixer.bands ∧ u.layer k z = none ∧ (∀ j, j ≠ k → u.layer j z = s.layer j z) ∧
      (∀ y, y ≠ z → u.zone y = s.zone y) ∧ (u.zone z).house = (s.zone z).house ∧ (u.zone z).Owned ∧
      ((u.zone z).owner = (s.zone z).owner →
        (u.zone z).handover = (s.zone z).handover ∧ ∀ x, u.zoneValue z x = s.zoneValue z x) ∧
      ((u.zone z).owner ≠ (s.zone z).owner → s.settings.handoverTime ≠ 0 →
        (u.zone z).handover = some ⟨s.zoneValue z t, t, s.settings.handoverTime⟩ ∧
        u.zoneValue z t = s.zoneValue z t) ∧
      ((u.zone z).owner ≠ (s.zone z).owner → s.settings.handoverTime = 0 →
        (u.zone z).handover = none ∧ ∀ x, u.zoneValue z x = u.ownerValue z x))

/-- A blend starts at its first value, ends at its second, never leaves the range between them, and moves one way as
time passes; a blend has moved the floor of the share of the way that its curve gives, upward or downward (R103 to R106).
Master scaling is the floor of level times master over 4096, by 4096 it changes nothing, and the gain saturates at 4095
(R107, R108). What is evaluated, component by component, with an elapsed time of 0 before a fade's start: a live look is
the stored look where the bank in use maps the zone from the source and black elsewhere; a layer value blends from fade
from toward the look of a LOOK layer, the live look of a tracking FOLLOW layer, the fallback look of a fallen one; the owner
value is the owner's layer value scaled by the master of its slot, or the house look without an owner; the zone value is
the owner value, or during a handover the blend from the handover's look toward it (R86 to R90). -/
def Obligations.BlendMovesBetweenItsEnds : Prop :=
  (∀ (c : Curve) (e e' d a b : Nat),
    (d ≠ 0 → blend c 0 d a b = a) ∧ ((d = 0 ∨ d ≤ e) → blend c e d a b = b) ∧
    min a b ≤ blend c e d a b ∧ blend c e d a b ≤ max a b ∧
    (e ≤ e' → a ≤ b → blend c e d a b ≤ blend c e' d a b) ∧ (e ≤ e' → b ≤ a → blend c e' d a b ≤ blend c e d a b) ∧
    (e < d → a ≤ b → blend .linear e d a b = a + (b - a) * (4096 * e / d) / 4096) ∧
    (e < d → a ≤ b → blend .ease e d a b = a + (b - a) * ((4096 * e / d) * (4096 * e / d) / 4096) / 4096) ∧
    (e < d → b ≤ a → blend .linear e d a b = a - (a - b) * (4096 * e / d) / 4096) ∧
    (e < d → b ≤ a → blend .ease e d a b = a - (a - b) * ((4096 * e / d) * (4096 * e / d) / 4096) / 4096) ∧
    (∀ l m, scaleLevel l m = l * m / 4096) ∧
    (∀ l m, scaleLevel l 4096 = l ∧ (m ≤ 4096 → scaleLevel l m ≤ l)) ∧
    (∀ v g, outputLevel v g ≤ 4095 ∧ (v * g / 4096 ≤ 4095 → outputLevel v g = v * g / 4096))) ∧
  (∀ (s : State) (i z : Nat),
    ((∃ p ∈ s.inputBank s.ingress.inUse, p.2.present = true ∧ p.2.source = i ∧ p.2.zoneFirst ≤ z ∧
      z < p.2.zoneFirst + p.2.zoneCount) → s.liveLook i z = s.stored i z) ∧
    ((∀ p ∈ s.inputBank s.ingress.inUse, p.2.present = true → p.2.source = i →
      (z < p.2.zoneFirst ∨ p.2.zoneFirst + p.2.zoneCount ≤ z)) → s.liveLook i z = .black)) ∧
  (∀ (s : State) (z : Nat) (l : Layer) (t : Int) (target : Look) (x : Component),
    (l.mode = .look target ∨ (∃ src policy fade, l.mode = .follow src policy target fade .fallen) ∨
      (∃ src policy fallback fade, l.mode = .follow src policy fallback fade .tracking ∧
        target = s.liveLook src z)) →
    (s.layerValue z l t).comp x =
      blend l.curve (t - l.fadeStart).toNat l.fadeDuration (l.fadeFrom.comp x) (target.comp x)) ∧
  (∀ (s : State) (z : Nat) (t : Int), ((s.zone z).owner = none → s.ownerValue z t = (s.zone z).house) ∧
    (∀ k l p x, (s.zone z).owner = some k → s.layer k z = some l → s.slot k = some p →
      (s.ownerValue z t).comp x = (s.layerValue z l t).comp x *
        blend .linear (t - p.master.start).toNat p.master.duration p.master.fromLevel p.master.toLevel / 4096)) ∧
  (∀ (s : State) (z : Nat) (t : Int), ((s.zone z).handover = none → s.zoneValue z t = s.ownerValue z t) ∧
    (∀ h x, (s.zone z).handover = some h → (s.zoneValue z t).comp x =
      blend .linear (t - h.start).toNat h.duration (h.fromLook.comp x) ((s.ownerValue z t).comp x)))

/-! ## Show-port ingress and sources (07) -/

/-- SHOW_PORT_ARRIVAL makes the four checks in order: a bad frame, an oversize frame, a frame for another node and a
full queue are counted, the 128th bad frame and the first full queue record a fault, and a frame that passes joins the
tail of the queue (R119, R120). Octets hold a frame exactly when they are 9 more than the payload length that their header
carries and their last four are the check word of the others, least significant octet first; the check word is the
inverted value of a register that starts at all ones and takes each octet in eight steps of the reflected polynomial
(R119, R200). -/
def Obligations.ArrivalChecksInOrder : Prop :=
  (∀ (os : List Octet) (f : Frame), parseFrame os = some f ↔
    ∃ (c d o l1 l0 : Octet) (rest : List Octet), os = c :: d :: o :: l1 :: l0 :: rest ∧
      os.length = 9 + (256 * l1.toNat + l0.toNat) ∧
      os.drop (os.length - 4) = checkOctets (checkWord (os.take (os.length - 4))) ∧
      f = ⟨c.toNat, d.toNat, o.toNat, rest.take (256 * l1.toNat + l0.toNat)⟩) ∧
  (∀ (os : List Octet) (o : Octet) (w : CheckWord) (i : Nat),
    checkWord [] = ~~~ 0xFFFFFFFF#32 ∧ checkWord (os ++ [o]) = ~~~ crcOctet (~~~ checkWord os) o ∧
    crcOctet w o = Nat.repeat (fun r => if r.getLsbD 0 then (r >>> 1) ^^^ 0xEDB88320#32 else r >>> 1) 8
      (w ^^^ o.setWidth 32) ∧
    (checkOctets w).length = 4 ∧ (i < 4 → (checkOctets w)[i]? = some (BitVec.ofNat 8 (w.toNat / 256 ^ i)))) ∧
  ∀ (os : List Octet) (s : State),
    (parseFrame os = none →
      (s.ingress.counters.badFrame ≠ 127 → exec (.showPortArrival os) s = .next (s.withIngress { s.ingress with
        counters := { s.ingress.counters with badFrame := satInc 255 s.ingress.counters.badFrame } })) ∧
      (s.ingress.counters.badFrame = 127 → exec (.showPortArrival os) s = .next ((s.withIngress { s.ingress with
        counters := { s.ingress.counters with badFrame := 128 } }).recordFault .badFrames))) ∧
    (∀ f, parseFrame os = some f → 820 < os.length →
      exec (.showPortArrival os) s = .next (s.withIngress { s.ingress with
        counters := { s.ingress.counters with oversize := satInc 65535 s.ingress.counters.oversize } })) ∧
    (∀ f, parseFrame os = some f → os.length ≤ 820 → f.dest ≠ s.settings.nodeAddress → f.dest ≠ 255 →
      exec (.showPortArrival os) s = .next (s.withIngress { s.ingress with
        counters := { s.ingress.counters with notMine := satInc 65535 s.ingress.counters.notMine } })) ∧
    (∀ f, parseFrame os = some f → os.length ≤ 820 → (f.dest = s.settings.nodeAddress ∨ f.dest = 255) →
      (12 ≤ s.ingress.queue.length → s.ingress.counters.queueFull ≠ 0 →
        exec (.showPortArrival os) s = .next (s.withIngress { s.ingress with
          counters := { s.ingress.counters with queueFull := satInc 65535 s.ingress.counters.queueFull } })) ∧
      (12 ≤ s.ingress.queue.length → s.ingress.counters.queueFull = 0 →
        exec (.showPortArrival os) s = .next ((s.withIngress { s.ingress with
          counters := { s.ingress.counters with queueFull := 1 } }).recordFault .queueOverflow)) ∧
      (s.ingress.queue.length < 12 →
        exec (.showPortArrival os) s =
          .next (s.withIngress { s.ingress with queue := s.ingress.queue ++ [f] })))

/-- INGRESS_TAKE takes the oldest frame and handles it by its class: an unknown class, a TIME or MGMT_REQ frame from the
wrong origin, a LEVEL frame of no source or malformed is dropped and counted; a LEVEL frame is dropped by the sequence
check as a duplicate or stale; any other becomes the frame in processing with its snapshot (R121 to R126). -/
def Obligations.TakeHandlesFrameByClass : Prop :=
  ∀ (s : State) (f : Frame) (rest : List Frame) (g : IngressProcessor), s.ingress.processing = none →
    s.ingress.switch = .idle → s.ingress.queue = f :: rest → g = { s.ingress with queue := rest } →
    ((f.cls ≠ 1 ∧ f.cls ≠ 2 ∧ f.cls ≠ 3) → exec .ingressTake s = .next (s.withIngress
      { g with counters := { g.counters with unknownClass := satInc 65535 g.counters.unknownClass } })) ∧
    (f.cls = 2 → s.settings.timekeeperAddress ≠ 0 → s.settings.timekeeperAddress = f.origin →
      exec .ingressTake s = .next (s.withIngress
        { g with processing := some ⟨f, .time s.settings.timekeeperAddress, s.now⟩ })) ∧
    (f.cls = 2 → (s.settings.timekeeperAddress = 0 ∨ s.settings.timekeeperAddress ≠ f.origin) →
      exec .ingressTake s = .next (s.withIngress
        { g with counters := { g.counters with foreignTime := satInc 65535 g.counters.foreignTime } })) ∧
    (f.cls = 3 → (s.settings.stationAddress = 255 ∨
        (s.settings.stationAddress ≠ 0 ∧ s.settings.stationAddress = f.origin)) →
      exec .ingressTake s = .next (s.withIngress
        { g with processing := some ⟨f, .request s.settings.stationAddress, s.now⟩ })) ∧
    (f.cls = 3 → s.settings.stationAddress ≠ 255 →
      (s.settings.stationAddress = 0 ∨ s.settings.stationAddress ≠ f.origin) →
      exec .ingressTake s = .next (s.withIngress
        { g with counters := { g.counters with foreignRequest := satInc 65535 g.counters.foreignRequest } })) ∧
    (f.cls = 1 → (∀ i, i < 8 → (s.source i).enabled = true → (s.source i).origin ≠ 0 →
        (s.source i).origin ≠ f.origin) →
      exec .ingressTake s = .next (s.withIngress
        { g with counters := { g.counters with unknownSource := satInc 65535 g.counters.unknownSource } })) ∧
    (∀ i, f.cls = 1 → i < 8 → (s.source i).enabled = true → (s.source i).origin ≠ 0 →
      (s.source i).origin = f.origin →
      (∀ j, j < i → (s.source j).enabled = true → (s.source j).origin ≠ f.origin) →
      (levelFields f.payload = none → exec .ingressTake s = .next (s.withIngress
        { g with counters := { g.counters with malformedLevel := satInc 65535 g.counters.malformedLevel } })) ∧
      (∀ v, levelFields f.payload = some v →
        (((s.source i).sequence v.lane = none ∨ ∃ q, q < 256 ∧ (s.source i).sequence v.lane = some q ∧
            1 ≤ (v.sequence + 256 - q) % 256 ∧ (v.sequence + 256 - q) % 256 ≤ 127) →
          exec .ingressTake s = .next (s.withIngress
            { g with processing := some ⟨f, .level i true f.origin g.inUse, s.now⟩ })) ∧
        ((s.source i).sequence v.lane = some v.sequence → exec .ingressTake s = .next ((s.withIngress g).setSource i
          { s.source i with duplicate := satInc 65535 (s.source i).duplicate })) ∧
        (∀ q, q < 256 → (s.source i).sequence v.lane = some q → 128 ≤ (v.sequence + 256 - q) % 256 →
          exec .ingressTake s = .next ((s.withIngress g).setSource i
            { s.source i with stale := satInc 65535 (s.source i).stale }))))

/-- LEVEL_FRAME_COMPLETION writes each carried level to the component its input patch entry gives it, and nothing else;
the matched source counts the frame, takes its sequence, and becomes LIVE with its timer started while it is enabled
with the snapshot's origin; the processor is idle (R125, R127, R128, R133, R137). -/
def Obligations.LevelFrameWritesLiveStore : Prop :=
  ∀ (s : State) (f : Frame) (i origin taken : Nat) (en : Bool) (bank : BankNo) (v : LevelFields),
    s.ingress.processing = some ⟨f, .level i en origin bank, taken⟩ → taken < s.now →
    levelFields f.payload = some v →
    (∀ p ∈ s.inputBank bank, p.2.present = true → p.2.zoneFirst + p.2.zoneCount ≤ 240) →
    ∃ t, exec .levelFrameCompletion s = .next t ∧ t = (s.withMixer t.mixer).withIngress t.ingress ∧
      t.ingress = { s.ingress.released with sources := t.ingress.sources } ∧
      (∀ j, j ≠ i → t.source j = s.source j) ∧
      t.source i =
        { s.source i with
          accepted := wrapInc (s.source i).accepted
          sequences :=
            if (s.source i).origin = origin then Table.write none (s.source i).sequences v.lane (some v.sequence)
            else (s.source i).sequences
          timer :=
            if (s.source i).enabled = true ∧ (s.source i).origin = origin then some (s.now + (s.source i).lossTime)
            else (s.source i).timer
          state :=
            if (s.source i).enabled = true ∧ (s.source i).origin = origin then .live else (s.source i).state } ∧
      t.mixer.bands = s.mixer.bands ∧
      ((s.source i).state ≠ .lost → t.mixer.zones = s.mixer.zones) ∧
      (∀ j y, j ≠ i → y < 240 → t.stored j y = s.stored j y) ∧
      (∀ y, y < 240 →
        (∀ p ∈ s.inputBank bank, p.2.present = true → p.2.source = i → p.2.sourceLane = v.lane →
          (y < p.2.zoneFirst ∨ p.2.zoneFirst + p.2.zoneCount ≤ y)) → t.stored i y = s.stored i y) ∧
      (∀ p y j, p ∈ s.inputBank bank → p.2.present = true → p.2.source = i → p.2.sourceLane = v.lane →
        p.2.zoneFirst ≤ y → y < p.2.zoneFirst + p.2.zoneCount → j < 3 →
        (∀ q ∈ s.inputBank bank, q ≠ p → q.2.present = true → q.2.source = i → q.2.sourceLane = v.lane →
          (y < q.2.zoneFirst ∨ q.2.zoneFirst + q.2.zoneCount ≤ y)) →
        (t.stored i y).comp (p.2.order.comp j) =
          match v.level (p.2.firstChannel + 3 * (y - p.2.zoneFirst) + j) with
          | some x => x
          | none => (s.stored i y).comp (p.2.order.comp j))

/-- LIVENESS_TIMER_EXPIRY makes the source LOST, stops its timer, records SOURCE_LOST, and every tracking FOLLOW layer
bound to it with the policy TO_FALLBACK falls, from its value at that instant; the completion of a frame of a LOST
source returns every fallen or HOLD_LAST layer bound to it, from its value before the write (R97, R98, R128, R130). -/
def Obligations.SourceLossAndReturn : Prop :=
  (∀ (s : State) (i e : Nat), s.ZonesOwned → (s.source i).timer = some e → e ≤ s.now →
    ∃ t, exec (.livenessTimerExpiry i) s = .next t ∧ t.time = s.time ∧ t.playback = s.playback ∧ t.lanes = s.lanes ∧
      t.source i = { s.source i with state := .lost, timer := none } ∧ (∀ j, j ≠ i → t.source j = s.source j) ∧
      (∀ r, s.faults.overflow = false → s.freeFaultRecord = some r →
        t.faultRecord r = some ⟨.sourceLost i, s.now, s.towerTime⟩) ∧
      t.mixer.live = s.mixer.live ∧ t.mixer.bands = s.mixer.bands ∧
      (∀ z, (t.zone z).owner = (s.zone z).owner ∧ (t.zone z).handover = (s.zone z).handover ∧
        (t.zone z).house = (s.zone z).house) ∧
      (∀ k z, s.layer k z = none → t.layer k z = none) ∧
      (∀ k z l fallback fade, s.layer k z = some l → l.mode = .follow i .toFallback fallback fade .tracking →
        t.layer k z = some { l with
          mode := .follow i .toFallback fallback fade .fallen, fadeFrom := s.layerValue z l s.now
          fadeStart := s.now, fadeDuration := fade }) ∧
      (∀ k z l, s.layer k z = some l → (∀ fallback fade, l.mode ≠ .follow i .toFallback fallback fade .tracking) →
        t.layer k z = some l)) ∧
  (∀ (s : State) (f : Frame) (i taken : Nat) (en : Bool) (bank : BankNo) (v : LevelFields), s.ZonesOwned →
    s.ingress.processing = some ⟨f, .level i en (s.source i).origin bank, taken⟩ → taken < s.now →
    levelFields f.payload = some v → (s.source i).enabled = true → (s.source i).state = .lost →
    ∃ t, exec .levelFrameCompletion s = .next t ∧ (t.source i).state = .live ∧
      (∀ z, (t.zone z).owner = (s.zone z).owner ∧ (t.zone z).handover = (s.zone z).handover ∧
        (t.zone z).house = (s.zone z).house) ∧
      (∀ k z, s.layer k z = none → t.layer k z = none) ∧
      (∀ k z l policy fallback fade sub, s.layer k z = some l → l.mode = .follow i policy fallback fade sub →
        t.layer k z = some (if sub = .fallen ∨ policy = .holdLast then
          { l with
            mode := .follow i policy fallback fade .tracking, fadeFrom := s.layerValue z l s.now
            fadeStart := s.now, fadeDuration := fade } else l)) ∧
      (∀ k z l, s.layer k z = some l → (∀ policy fallback fade sub, l.mode ≠ .follow i policy fallback fade sub) →
        t.layer k z = some l))

/-- WRITE_SOURCE replaces the configuration with a loss time in 100 to 10,000 ms; a change of enabled makes the source
IDLE with its timer stopped, a change of origin forgets its sequences, and the zone mixer hears of it only when a LIVE
source is disabled, as a loss that makes its tracking TO_FALLBACK layers fall; FORGET_SEQUENCE makes every stored sequence absent (R97, R131, R132). -/
def Obligations.SourceWritesConfigure : Prop :=
  (∀ (h : ReqHead) (i : Nat) (on : Option Bool) (origin loss : Nat) (s : State),
    s.Takes (.writeSource h i on origin loss) h →
    ((7 < i ∨ on = none ∨ 254 < origin) → exec (.writeSource h i on origin loss) s =
      .next (s.repliesOnly (.writeSource h i on origin loss) h .refusedRange .none)) ∧
    (∀ v, on = some v → i ≤ 7 → origin ≤ 254 → ∃ t, exec (.writeSource h i on origin loss) s = .next t ∧
      t = ((s.withMixer t.mixer).withIngress { s.ingress with sources := t.ingress.sources }).withMgmt
        (s.replied (.writeSource h i on origin loss) h (if loss < 100 ∨ 10000 < loss then .adjusted else .ok)
          .none) ∧
      t.source i =
        { s.source i with
          enabled := v, origin := origin, lossTime := max 100 (min loss 10000)
          sequences := if (s.source i).origin = origin then (s.source i).sequences else []
          state := if (s.source i).enabled = v then (s.source i).state else .idle
          timer := if (s.source i).enabled = v then (s.source i).timer else none } ∧
      (∀ j, j ≠ i → t.source j = s.source j) ∧
      (¬ ((s.source i).enabled = true ∧ v = false ∧ (s.source i).state = .live) → t.mixer = s.mixer) ∧
      ((s.source i).enabled = true → v = false → (s.source i).state = .live → t.mixer = (s.sourceLoss i).mixer) ∧
      ((s.source i).enabled = true → v = false → (s.source i).state = .live → s.ZonesOwned →
        t.mixer.live = s.mixer.live ∧ t.mixer.bands = s.mixer.bands ∧ s.LayersFall t (fun j => j = i)))) ∧
  (∀ (h : ReqHead) (i : Nat) (s : State), s.Takes (.forgetSequence h i) h →
    (7 < i → exec (.forgetSequence h i) s = .next (s.repliesOnly (.forgetSequence h i) h .refusedRange .none)) ∧
    (i ≤ 7 → exec (.forgetSequence h i) s = .next ((s.setSource i { s.source i with sequences := [] }).withMgmt
      (s.replied (.forgetSequence h i) h .ok .none))))

/-- The writes and copies of a patch change its standby bank alone and are refused while a switch is under way.
SWITCH_INPUT_BANK finds an overlap, or takes effect at once with an idle processor and otherwise waits.
SWITCH_OUTPUT_BANK finds an overlap, or selects the other bank, which every lane that does not compose adopts at once,
and is IDLE again when no lane is left to adopt it. The overlap reported is the pair whose lower index is smallest, and
among those the smallest higher index. Two present entries overlap when they name one source and share a zone, or name
one lane and share a channel. A write makes an entry of its fields when each lies in its range and, of a present entry,
the runs end by channel 383 and zone 239; a gain above 8191 is clamped (R133 to R137, R155 to R158). -/
def Obligations.PatchBanksSwitch : Prop :=
  ((∀ a b : InputEntry, inputConflict a b = true ↔ a.present = true ∧ b.present = true ∧ a.source = b.source ∧
     ∃ z, a.zoneFirst ≤ z ∧ z < a.zoneFirst + a.zoneCount ∧ b.zoneFirst ≤ z ∧ z < b.zoneFirst + b.zoneCount) ∧
   (∀ a b : OutputEntry, outputConflict a b = true ↔ a.present = true ∧ b.present = true ∧ a.lane = b.lane ∧
     ∃ c, a.firstChannel ≤ c ∧ c < a.firstChannel + 3 * a.zoneCount ∧
       b.firstChannel ≤ c ∧ c < b.firstChannel + 3 * b.zoneCount) ∧
   (∀ (f : InputPatchArgs) (e : InputEntry), inputEntryOf f = some e ↔
     f.present = some e.present ∧ f.order = some e.order ∧ e.source = f.source ∧ e.sourceLane = f.sourceLane ∧
       e.firstChannel = f.firstChannel ∧ e.zoneFirst = f.zoneFirst ∧ e.zoneCount = f.zoneCount ∧
       f.source ≤ 7 ∧ f.sourceLane ≤ 15 ∧ f.firstChannel ≤ 383 ∧ f.zoneFirst ≤ 239 ∧ 1 ≤ f.zoneCount ∧
       f.zoneCount ≤ 128 ∧
       (e.present = true → f.firstChannel + 3 * f.zoneCount - 1 ≤ 383 ∧ f.zoneFirst + f.zoneCount - 1 ≤ 239)) ∧
   (∀ (f : OutputPatchArgs) (e : OutputEntry), outputEntryOf f = some e ↔
     f.present = some e.present ∧ f.order = some e.order ∧ e.lane = f.lane ∧ e.firstChannel = f.firstChannel ∧
       e.zoneFirst = f.zoneFirst ∧ e.zoneCount = f.zoneCount ∧ e.gain = min f.gain 8191 ∧
       f.lane ≤ 23 ∧ f.firstChannel ≤ 383 ∧ f.zoneFirst ≤ 239 ∧ 1 ≤ f.zoneCount ∧ f.zoneCount ≤ 128 ∧
       (e.present = true → f.firstChannel + 3 * f.zoneCount - 1 ≤ 383 ∧ f.zoneFirst + f.zoneCount - 1 ≤ 239))) ∧
  ((∀ (h : ReqHead) (i : Nat) (f : InputPatchArgs) (s : State), s.Takes (.writeInputPatch h i f) h →
     ((95 < i ∨ inputEntryOf f = none) → exec (.writeInputPatch h i f) s =
       .next (s.repliesOnly (.writeInputPatch h i f) h .refusedRange .none)) ∧
     (∀ e, i ≤ 95 → inputEntryOf f = some e →
       (s.ingress.switch = .switching → exec (.writeInputPatch h i f) s =
         .next (s.repliesOnly (.writeInputPatch h i f) h .refusedState .none)) ∧
       (s.ingress.switch = .idle → ∃ t, exec (.writeInputPatch h i f) s = .next t ∧
         t = (s.setInputBank s.ingress.inUse.other (t.inputBank s.ingress.inUse.other)).withMgmt
           (s.replied (.writeInputPatch h i f) h .ok .none) ∧
         Table.read .blank (t.inputBank s.ingress.inUse.other) i = e ∧
         ∀ j, j ≠ i → Table.read .blank (t.inputBank s.ingress.inUse.other) j =
           Table.read .blank (s.inputBank s.ingress.inUse.other) j))) ∧
   (∀ (h : ReqHead) (s : State), s.Takes (.copyInputBank h) h →
     exec (.copyInputBank h) s = .next (if s.ingress.switch = .switching then
         s.repliesOnly (.copyInputBank h) h .refusedState .none
       else (s.setInputBank s.ingress.inUse.other (s.inputBank s.ingress.inUse)).withMgmt
         (s.replied (.copyInputBank h) h .ok .none))) ∧
   (∀ (h : ReqHead) (s : State), s.Takes (.switchInputBank h) h →
     (s.ingress.switch = .switching → exec (.switchInputBank h) s =
       .next (s.repliesOnly (.switchInputBank h) h .refusedState .none)) ∧
     (s.ingress.switch = .idle →
       (s.inputBank s.ingress.inUse.other).Pairwise (fun a b => inputConflict a.2 b.2 = false) →
       exec (.switchInputBank h) s = .next ((s.withIngress (if s.ingress.processing = none then
           { s.ingress with inUse := s.ingress.inUse.other }
         else { s.ingress with switch := .switching })).withMgmt (s.replied (.switchInputBank h) h .ok .none))) ∧
     (s.ingress.switch = .idle →
       ¬ (s.inputBank s.ingress.inUse.other).Pairwise (fun a b => inputConflict a.2 b.2 = false) →
       ∃ i j a b, (i, a) ∈ s.inputBank s.ingress.inUse.other ∧ (j, b) ∈ s.inputBank s.ingress.inUse.other ∧
         inputConflict a b = true ∧
         (Table.wf .blank (s.inputBank s.ingress.inUse.other) = true → i < j ∧ ∀ i' j' a' b',
           (i', a') ∈ s.inputBank s.ingress.inUse.other → (j', b') ∈ s.inputBank s.ingress.inUse.other → i' < j' →
           inputConflict a' b' = true → i < i' ∨ (i = i' ∧ j ≤ j')) ∧
         exec (.switchInputBank h) s = .next (s.repliesOnly (.switchInputBank h) h .overlap (.overlapping i j))))) ∧
  ((∀ (h : ReqHead) (i : Nat) (f : OutputPatchArgs) (s : State), s.Takes (.writeOutputPatch h i f) h →
     ((191 < i ∨ outputEntryOf f = none) → exec (.writeOutputPatch h i f) s =
       .next (s.repliesOnly (.writeOutputPatch h i f) h .refusedRange .none)) ∧
     (∀ e, i ≤ 191 → outputEntryOf f = some e →
       (s.lanes.switch = .switching → exec (.writeOutputPatch h i f) s =
         .next (s.repliesOnly (.writeOutputPatch h i f) h .refusedState .none)) ∧
       (s.lanes.switch = .idle → ∃ t, exec (.writeOutputPatch h i f) s = .next t ∧
         t = (s.setOutputBank s.lanes.selected.other (t.outputBank s.lanes.selected.other)).withMgmt
           (s.replied (.writeOutputPatch h i f) h (if 8191 < f.gain then .adjusted else .ok) .none) ∧
         Table.read .blank (t.outputBank s.lanes.selected.other) i = e ∧
         ∀ j, j ≠ i → Table.read .blank (t.outputBank s.lanes.selected.other) j =
           Table.read .blank (s.outputBank s.lanes.selected.other) j))) ∧
   (∀ (h : ReqHead) (s : State), s.Takes (.copyOutputBank h) h →
     exec (.copyOutputBank h) s = .next (if s.lanes.switch = .switching then
         s.repliesOnly (.copyOutputBank h) h .refusedState .none
       else (s.setOutputBank s.lanes.selected.other (s.outputBank s.lanes.selected)).withMgmt
         (s.replied (.copyOutputBank h) h .ok .none))) ∧
   (∀ (h : ReqHead) (s : State), s.Takes (.switchOutputBank h) h →
     (s.lanes.switch = .switching → exec (.switchOutputBank h) s =
       .next (s.repliesOnly (.switchOutputBank h) h .refusedState .none)) ∧
     (s.lanes.switch = .idle →
       (s.outputBank s.lanes.selected.other).Pairwise (fun a b => outputConflict a.2 b.2 = false) →
       ∃ t, exec (.switchOutputBank h) s = .next t ∧
         t = (s.withLanes t.lanes).withMgmt (s.replied (.switchOutputBank h) h .ok .none) ∧
         t.lanes.selected = s.lanes.selected.other ∧
         (∀ l, l < 24 → t.lane l = if (s.lane l).composing then s.lane l else
           { s.lane l with bank := s.lanes.selected.other, guardInUse := s.lanes.requestedGuard }) ∧
         ((∀ l, l < 24 → (s.lane l).composing = true → (s.lane l).bank = s.lanes.selected.other) →
           t.lanes.switch = .idle) ∧
         ((∃ l, l < 24 ∧ (s.lane l).composing = true ∧ (s.lane l).bank ≠ s.lanes.selected.other) →
           t.lanes.switch = .switching) ∧
         t.lanes.bank0 = s.lanes.bank0 ∧ t.lanes.bank1 = s.lanes.bank1 ∧ t.lanes.waiting = s.lanes.waiting ∧
         t.lanes.guards = s.lanes.guards ∧ t.lanes.requestedGuard = s.lanes.requestedGuard) ∧
     (s.lanes.switch = .idle →
       ¬ (s.outputBank s.lanes.selected.other).Pairwise (fun a b => outputConflict a.2 b.2 = false) →
       ∃ i j a b, (i, a) ∈ s.outputBank s.lanes.selected.other ∧ (j, b) ∈ s.outputBank s.lanes.selected.other ∧
         outputConflict a b = true ∧
         (Table.wf .blank (s.outputBank s.lanes.selected.other) = true → i < j ∧ ∀ i' j' a' b',
           (i', a') ∈ s.outputBank s.lanes.selected.other → (j', b') ∈ s.outputBank s.lanes.selected.other → i' < j' →
           outputConflict a' b' = true → i < i' ∨ (i = i' ∧ j ≤ j')) ∧
         exec (.switchOutputBank h) s =
           .next (s.repliesOnly (.switchOutputBank h) h .overlap (.overlappingOutputs i j)))))

/-! ## Output lanes and the fixture port (08) -/

/-- WRITE_LANE by the lane's state: a lane brought out of OFF goes to REST and one configured off to OFF, a FAULTED lane
begins a new cold attempt, an active lane whose channel count or period changes begins one with cold as it stands, and
in every other case only the configuration changes (R144). -/
def Obligations.WriteLaneActsByState : Prop :=
  ∀ (h : ReqHead) (l : Nat) (f : LaneArgs) (s : State), s.Takes (.writeLane h l f) h →
    ((23 < l ∨ f.configured = none ∨ f.curfewExempt = none ∨ f.autoRest = none ∨ f.channelCount = 0 ∨
        384 < f.channelCount) →
      exec (.writeLane h l f) s = .next (s.repliesOnly (.writeLane h l f) h .refusedRange .none)) ∧
    (∀ on exempt rest c, l ≤ 23 → f.configured = some on → f.curfewExempt = some exempt → f.autoRest = some rest →
      1 ≤ f.channelCount → f.channelCount ≤ 384 →
      c = ⟨on, f.channelCount, max 10 (min f.period 250), min f.warmUp 255, exempt, rest⟩ →
      ∃ t, exec (.writeLane h l f) s = .next t ∧
        t = (s.withLanes t.lanes).withMgmt (s.replied (.writeLane h l f) h
          (if f.period < 10 ∨ 250 < f.period ∨ 255 < f.warmUp then .adjusted else .ok) .none) ∧
        (∀ j, j ≠ l → t.lane j = s.lane j ∧ t.waitingFrame j = s.waitingFrame j) ∧
        ((s.lane l).state = .off → on = true →
          t.lane l = { s.adopted { s.lane l with config := c } with
            state := .rest, receiptTimer := none, periodTimer := none } ∧ t.waitingFrame l = none) ∧
        ((s.lane l).state ≠ .off → on = false →
          t.lane l = { s.adopted { s.lane l with config := c } with
            state := .off, receiptTimer := none, periodTimer := none } ∧ t.waitingFrame l = none) ∧
        ((s.lane l).state = .off → on = false → t.lane l = { s.lane l with config := c }) ∧
        ((s.lane l).state = .rest → on = true → t.lane l = { s.lane l with config := c }) ∧
        ((s.lane l).active = true → on = true → c.channelCount = (s.lane l).config.channelCount →
          c.period = (s.lane l).config.period →
          t.lane l = { s.lane l with config := c } ∧ t.waitingFrame l = s.waitingFrame l) ∧
        (∀ cold, on = true → (((s.lane l).state = .faulted ∧ cold = true) ∨
            ((s.lane l).active = true ∧ cold = (s.lane l).cold ∧
              (c.channelCount ≠ (s.lane l).config.channelCount ∨ c.period ≠ (s.lane l).config.period))) →
          t.lane l = { s.adopted { s.lane l with config := c } with
            state := .setup, cold := cold, setupSequence := ((s.lane l).setupSequence + 1) % 16
            retriesLeft := s.settings.retryLimit, receiptTimer := none, periodTimer := none } ∧
          ∃ age, t.waitingFrame l = some ⟨age, .setup s.settings.nodeAddress l
            (((s.lane l).setupSequence + 1) % 16) c.channelCount c.period⟩))

/-- REST_LANES sends every named active lane that is not guarded to REST and lists those kept; WAKE_LANES brings every
named lane in REST or FAULTED into SETUP, cold, and lists them; no other lane changes (R153, R154). -/
def Obligations.RestAndWakeRequests : Prop :=
  ∀ (h : ReqHead) (m : Nat) (s : State),
    (s.Takes (.restLanes h m) h → 16777216 ≤ m → exec (.restLanes h m) s =
      .next (s.repliesOnly (.restLanes h m) h .refusedRange .none)) ∧
    (s.Takes (.wakeLanes h m) h → 16777216 ≤ m → exec (.wakeLanes h m) s =
      .next (s.repliesOnly (.wakeLanes h m) h .refusedRange .none)) ∧
    (s.Takes (.restLanes h m) h → m < 16777216 → ∃ t, exec (.restLanes h m) s = .next t ∧
      t = (s.withLanes t.lanes).withMgmt (s.replied (.restLanes h m) h .ok (.laneList
        ((List.range 24).filter (fun l => m.testBit l && ((s.lane l).active && s.guarded l))))) ∧
      (∀ l, (m.testBit l && ((s.lane l).active && !s.guarded l)) = true →
        t.lane l = { s.adopted (s.lane l) with state := .rest, receiptTimer := none, periodTimer := none } ∧
        t.waitingFrame l = none) ∧
      (∀ l, (m.testBit l && ((s.lane l).active && !s.guarded l)) = false →
        t.lane l = s.lane l ∧ t.waitingFrame l = s.waitingFrame l)) ∧
    (s.Takes (.wakeLanes h m) h → m < 16777216 → ∃ t, exec (.wakeLanes h m) s = .next t ∧
      t = (s.withLanes t.lanes).withMgmt (s.replied (.wakeLanes h m) h .ok (.laneList
        ((List.range 24).filter (fun l => m.testBit l &&
          ((s.lane l).state = .rest || (s.lane l).state = .faulted))))) ∧
      (∀ l, m.testBit l = true → ((s.lane l).state = .rest ∨ (s.lane l).state = .faulted) →
        t.lane l =
          { s.adopted (s.lane l) with
            state := .setup, cold := true, setupSequence := ((s.lane l).setupSequence + 1) % 16
            retriesLeft := s.settings.retryLimit, receiptTimer := none, periodTimer := none } ∧
        ∃ age, t.waitingFrame l = some ⟨age, .setup s.settings.nodeAddress l (((s.lane l).setupSequence + 1) % 16)
          (s.lane l).config.channelCount (s.lane l).config.period⟩) ∧
      (∀ l, (m.testBit l = false ∨ ((s.lane l).state ≠ .rest ∧ (s.lane l).state ≠ .faulted)) →
        t.lane l = s.lane l ∧ t.waitingFrame l = s.waitingFrame l))

/-- RECEIPT_ARRIVAL: octets that hold no frame (ArrivalChecksInOrder says which do), a foreign class and a malformed
receipt are counted; a receipt of the current attempt makes the lane compose (WARMUP when cold with a warm-up, otherwise
EMITTING) or FAULTED with LANE_REJECTED; any other receipt counts as stale. RECEIPT_TIMER_EXPIRY sends the same attempt
again while retries are left, and then makes the lane FAULTED with NO_RECEIPT (R147, R148, R161). -/
def Obligations.ReceiptsEndSetup : Prop :=
  (∀ (os : List Octet) (s : State),
    ((parseFrame os = none ∨ 820 < os.length) → exec (.receiptArrival os) s =
      .next (s.withLanes { s.lanes with badFrame := satInc 255 s.lanes.badFrame })) ∧
    (∀ f, parseFrame os = some f → os.length ≤ 820 →
      (f.cls ≠ 0x13 → exec (.receiptArrival os) s =
        .next (s.withLanes { s.lanes with foreignClass := satInc 65535 s.lanes.foreignClass })) ∧
      (f.cls = 0x13 → (f.payload.length ≠ 3 ∨ ∃ l q v : Octet, f.payload = [l, q, v] ∧
          (23 < l.toNat ∨ (v.toNat ≠ 1 ∧ v.toNat ≠ 2))) → exec (.receiptArrival os) s =
        .next (s.withLanes { s.lanes with malformedReceipt := satInc 65535 s.lanes.malformedReceipt })) ∧
      (∀ l q v : Octet, f.cls = 0x13 → f.payload = [l, q, v] → l.toNat ≤ 23 → (v.toNat = 1 ∨ v.toNat = 2) →
        (((s.lane l.toNat).state ≠ .setup ∨ q.toNat ≠ (s.lane l.toNat).setupSequence) →
          exec (.receiptArrival os) s = .next (s.setLane l.toNat
            { s.lane l.toNat with staleReceipts := satInc 65535 (s.lane l.toNat).staleReceipts })) ∧
        ((s.lane l.toNat).state = .setup → q.toNat = (s.lane l.toNat).setupSequence → v.toNat = 1 →
          ∃ t, exec (.receiptArrival os) s = .next t ∧ t = s.withLanes t.lanes ∧ t.waitingFrame l.toNat = none ∧
            (∀ j, j ≠ l.toNat → t.lane j = s.lane j ∧ t.waitingFrame j = s.waitingFrame j) ∧
            t.lane l.toNat =
              (if (s.lane l.toNat).cold = true ∧ 0 < (s.lane l.toNat).config.warmUp then
                { s.lane l.toNat with
                  state := .warmup, frameNumber := 0, receiptTimer := none, periodTimer := some s.now
                  warmUpRemaining := (s.lane l.toNat).config.warmUp }
              else
                { s.lane l.toNat with
                  state := .emitting, cold := false, frameNumber := 0, receiptTimer := none
                  periodTimer := some s.now })) ∧
        ((s.lane l.toNat).state = .setup → q.toNat = (s.lane l.toNat).setupSequence → v.toNat = 2 →
          ∃ t, exec (.receiptArrival os) s = .next t ∧ (t.lane l.toNat).state = .faulted ∧
            t.waitingFrame l.toNat = none ∧ (∀ j, j ≠ l.toNat → t.lane j = s.lane j) ∧
            ∀ i, s.faults.overflow = false → s.freeFaultRecord = some i →
              t.faultRecord i = some ⟨.laneRejected l.toNat, s.now, s.towerTime⟩)))) ∧
  (∀ (s : State) (l e : Nat), (s.lane l).receiptTimer = some e → e ≤ s.now →
    (0 < (s.lane l).retriesLeft → ∃ t, exec (.receiptTimerExpiry l) s = .next t ∧ t = s.withLanes t.lanes ∧
      t.lane l = { s.lane l with receiptTimer := none, retriesLeft := (s.lane l).retriesLeft - 1 } ∧
      (∀ j, j ≠ l → t.lane j = s.lane j ∧ t.waitingFrame j = s.waitingFrame j) ∧
      ∃ age, t.waitingFrame l = some ⟨age, .setup s.settings.nodeAddress l (s.lane l).setupSequence
        (s.lane l).config.channelCount (s.lane l).config.period⟩) ∧
    ((s.lane l).retriesLeft = 0 → ∃ t, exec (.receiptTimerExpiry l) s = .next t ∧
      t.lane l = { s.adopted (s.lane l) with state := .faulted, receiptTimer := none, periodTimer := none } ∧
      t.waitingFrame l = none ∧ (∀ j, j ≠ l → t.lane j = s.lane j) ∧
      ∀ i, s.faults.overflow = false → s.freeFaultRecord = some i →
        t.faultRecord i = some ⟨.noReceipt l, s.now, s.towerTime⟩))

/-- PERIOD_EVENT composes one frame of a lane that composes: with the selected bank and the requested guard state
adopted, its channels are in order the held value of a guarded channel, 0 where no present entry covers the channel
and in WARMUP, and otherwise the zone value component times the gain over 4096, at most 4095 and, unless the lane is
curfew-exempt, at most the ceiling in force; the frame number and the period timer move on. The clip flag is set and the
frame counted once when some channel under no guard clips in EMITTING, and both stay otherwise; a LANE_LEVELS that is
replaced counts as late, and the new frame keeps the age of the one it replaces. When it is the last lane to adopt, the
output switch becomes IDLE and the guard status settles; the last frame of the warm-up clears the cold flag (R108, R109, R114, R116, R149, R150,
R151, R158, R160). -/
def Obligations.PeriodEventComposesFrame : Prop :=
  ∀ (s : State) (l e : Nat) (r : Lane), ((s.lane l).state = .warmup ∨ (s.lane l).state = .emitting) →
    (s.lane l).periodTimer = some e → e ≤ s.now → r = s.adopted (s.lane l) →
    ∃ t levels, exec (.periodEvent l) s = .next t ∧ t = s.withLanes t.lanes ∧
      (∀ j, j ≠ l → t.lane j = s.lane j ∧ t.waitingFrame j = s.waitingFrame j) ∧
      (∃ age, t.waitingFrame l = some ⟨age, .levels s.settings.nodeAddress l r.frameNumber levels⟩) ∧
      (s.waitingFrame l = none → (t.waitingFrame l).map (·.age) = some s.now ∧ (t.lane l).late = r.late) ∧
      (∀ w, s.waitingFrame l = some w → (t.waitingFrame l).map (·.age) = some w.age ∧
        (t.lane l).late = if w.frame.isLevels then satInc 65535 r.late else r.late) ∧
      (r.state = .warmup → (t.lane l).clipFlag = r.clipFlag ∧ (t.lane l).clipCount = r.clipCount) ∧
      (r.state = .emitting → (∀ c p, c < r.config.channelCount → s.Unguarded l c →
          p ∈ s.outputBank s.lanes.selected → p.2.Covers l c → s.gainedAt p.2 c ≤ 4095) →
        (t.lane l).clipFlag = r.clipFlag ∧ (t.lane l).clipCount = r.clipCount) ∧
      (∀ c p, r.state = .emitting → c < r.config.channelCount → s.Unguarded l c →
        p ∈ s.outputBank s.lanes.selected → p.2.Covers l c →
        (∀ q ∈ s.outputBank s.lanes.selected, q ≠ p → ¬ q.2.Covers l c) → 4095 < s.gainedAt p.2 c →
        (t.lane l).clipFlag = true ∧ (t.lane l).clipCount = satInc 65535 r.clipCount) ∧
      (t.lane l).frameNumber = (r.frameNumber + 1) % 256 ∧ (t.lane l).periodTimer = some (s.now + r.config.period) ∧
      (t.lane l).bank = s.lanes.selected ∧ (t.lane l).guardInUse = s.lanes.requestedGuard ∧
      (t.lane l).config = r.config ∧ (t.lane l).emitted = r.emitted ∧
      (r.state = .warmup → (t.lane l).state = (if r.warmUpRemaining ≤ 1 then .emitting else .warmup) ∧
        (t.lane l).warmUpRemaining = r.warmUpRemaining - 1 ∧
        (t.lane l).cold = (if r.warmUpRemaining ≤ 1 then false else r.cold)) ∧
      (r.state = .emitting → (t.lane l).state = .emitting ∧ (t.lane l).cold = r.cold) ∧
      t.lanes = { s.lanes with
        lanes := t.lanes.lanes, waiting := t.lanes.waiting, switch := t.lanes.switch
        guardStatus := t.lanes.guardStatus } ∧
      ((∀ j, j < 24 → j ≠ l → (s.lane j).bank = s.lanes.selected) → t.lanes.switch = .idle) ∧
      ((∃ j, j < 24 ∧ j ≠ l ∧ (s.lane j).bank ≠ s.lanes.selected) → t.lanes.switch = s.lanes.switch) ∧
      ((∀ j, j < 24 → j ≠ l → (s.lane j).guardInUse = s.lanes.requestedGuard) →
        t.lanes.guardStatus = if s.lanes.requestedGuard then .enabled else .disabled) ∧
      ((∃ j, j < 24 ∧ j ≠ l ∧ (s.lane j).guardInUse ≠ s.lanes.requestedGuard) →
        t.lanes.guardStatus = s.lanes.guardStatus) ∧
      levels.length = r.config.channelCount ∧
      (∀ c i, c < r.config.channelCount → s.lanes.requestedGuard = true → i < 8 →
        (s.guardRange i).lane = l → (s.guardRange i).first ≤ c → c ≤ (s.guardRange i).last →
        (∀ j, j < i → ¬ ((s.guardRange j).lane = l ∧ (s.guardRange j).first ≤ c ∧ c ≤ (s.guardRange j).last)) →
        levels[c]? = some (s.guardRange i).held) ∧
      (∀ c, c < r.config.channelCount → (s.lanes.requestedGuard = false ∨ ∀ i, i < 8 →
          ¬ ((s.guardRange i).lane = l ∧ (s.guardRange i).first ≤ c ∧ c ≤ (s.guardRange i).last)) →
        (r.state = .warmup → levels[c]? = some 0) ∧
        (r.state = .emitting → (∀ p ∈ s.outputBank s.lanes.selected, p.2.present = true → p.2.lane = l →
          (c < p.2.firstChannel ∨ p.2.firstChannel + 3 * p.2.zoneCount ≤ c)) → levels[c]? = some 0) ∧
        (∀ p v, r.state = .emitting → p ∈ s.outputBank s.lanes.selected → p.2.present = true → p.2.lane = l →
          p.2.firstChannel ≤ c → c < p.2.firstChannel + 3 * p.2.zoneCount →
          (∀ q ∈ s.outputBank s.lanes.selected, q ≠ p → q.2.present = true → q.2.lane = l →
            (c < q.2.firstChannel ∨ q.2.firstChannel + 3 * q.2.zoneCount ≤ c)) →
          v = (s.zoneValue (p.2.zoneFirst + (c - p.2.firstChannel) / 3) s.now).comp
            (p.2.order.comp ((c - p.2.firstChannel) % 3)) →
          levels[c]? = some (if r.config.curfewExempt then min 4095 (v * p.2.gain / 4096)
            else min (min 4095 (v * p.2.gain / 4096)) s.ceilingInForce)))

/-- The fixture line takes the waiting frame of lowest age, then lowest lane, counting a LANE_LEVELS as emitted; the end
of a LANE_SETUP of the current attempt starts the receipt timer, and any other end only frees the line (R146, R152). -/
def Obligations.FixtureLineTakesOldestFrame : Prop :=
  (∀ (s : State) (l : Nat) (w : Waiting), s.lanes.line = none → l < 24 → s.waitingFrame l = some w →
    (∀ j v, j < 24 → j ≠ l → s.waitingFrame j = some v → w.age < v.age ∨ (w.age = v.age ∧ l < j)) →
    ∃ t, exec .fixtureTransmitStart s = .next t ∧ t = s.withLanes t.lanes ∧
      t.lanes.line = some ⟨w.frame, s.now⟩ ∧ t.waitingFrame l = none ∧
      (∀ j, j ≠ l → t.lane j = s.lane j ∧ t.waitingFrame j = s.waitingFrame j) ∧
      t.lane l = (if w.frame.isLevels then { s.lane l with emitted := wrapInc (s.lane l).emitted } else s.lane l)) ∧
  (∀ (s : State) (origin l q n p begun : Nat), s.lanes.line = some ⟨.setup origin l q n p, begun⟩ → begun < s.now →
    ((s.lane l).state = .setup → q = (s.lane l).setupSequence →
      exec .fixtureTransmitEnd s = .next ((s.withLanes { s.lanes with line := none }).setLane l
        { s.lane l with receiptTimer := some (s.now + s.settings.receiptTime) })) ∧
    (((s.lane l).state ≠ .setup ∨ q ≠ (s.lane l).setupSequence) →
      exec .fixtureTransmitEnd s = .next (s.withLanes { s.lanes with line := none }))) ∧
  (∀ (s : State) (origin l n begun : Nat) (ls : List Nat), s.lanes.line = some ⟨.levels origin l n ls, begun⟩ →
    begun < s.now → exec .fixtureTransmitEnd s = .next (s.withLanes { s.lanes with line := none }))

/-- WRITE_GUARD is refused unless guarding is DISABLED, and otherwise replaces one range; SET_GUARD_ENABLE is refused
while SETTLING, and otherwise every lane that does not compose adopts the requested state at once, the status settles
when every lane has it, and on wakes the resting lanes that an enabled range names (R154, R159, R160). -/
def Obligations.GuardRequests : Prop :=
  (∀ (h : ReqHead) (i l a b v : Nat) (s : State), s.Takes (.writeGuard h i l a b v) h →
    ((7 < i ∨ 23 < l ∨ 383 < a ∨ 383 < b) → exec (.writeGuard h i l a b v) s =
      .next (s.repliesOnly (.writeGuard h i l a b v) h .refusedRange .none)) ∧
    (i ≤ 7 → l ≤ 23 → a ≤ 383 → b ≤ 383 → s.lanes.guardStatus ≠ .disabled → exec (.writeGuard h i l a b v) s =
      .next (s.repliesOnly (.writeGuard h i l a b v) h .refusedState .none)) ∧
    (i ≤ 7 → l ≤ 23 → a ≤ 383 → b ≤ 383 → s.lanes.guardStatus = .disabled →
      ∃ t, exec (.writeGuard h i l a b v) s = .next t ∧
        t = (s.withLanes { s.lanes with guards := t.lanes.guards }).withMgmt
          (s.replied (.writeGuard h i l a b v) h (if 4095 < v then .adjusted else .ok) .none) ∧
        t.guardRange i = ⟨l, a, b, min v 4095⟩ ∧ ∀ j, j ≠ i → t.guardRange j = s.guardRange j)) ∧
  (∀ (h : ReqHead) (on : Bool) (s : State), s.Takes (.setGuardEnable h (some on)) h →
    (s.lanes.guardStatus = .settling → exec (.setGuardEnable h (some on)) s =
      .next (s.repliesOnly (.setGuardEnable h (some on)) h .refusedState .none)) ∧
    (s.lanes.guardStatus ≠ .settling → ∃ t, exec (.setGuardEnable h (some on)) s = .next t ∧
      t = (s.withLanes t.lanes).withMgmt (s.replied (.setGuardEnable h (some on)) h .ok .none) ∧
      t.lanes.requestedGuard = on ∧ t.lanes.guards = s.lanes.guards ∧ t.lanes.selected = s.lanes.selected ∧
      (∀ l, l < 24 → (s.lane l).composing = true → t.lane l = s.lane l) ∧
      (∀ l, l < 24 → (s.lane l).composing = false →
        ((on = true ∧ (s.lane l).state = .rest ∧ s.rangeNames l = true) →
          t.lane l =
            { s.lane l with
              bank := s.lanes.selected, guardInUse := true, state := .setup, cold := true
              setupSequence := ((s.lane l).setupSequence + 1) % 16, retriesLeft := s.settings.retryLimit
              receiptTimer := none, periodTimer := none }) ∧
        ((on = false ∨ (s.lane l).state ≠ .rest ∨ s.rangeNames l = false) →
          t.lane l = { s.lane l with bank := s.lanes.selected, guardInUse := on })) ∧
      ((∀ l, l < 24 → (s.lane l).composing = true → (s.lane l).guardInUse = on) →
        t.lanes.guardStatus = if on then .enabled else .disabled) ∧
      ((∃ l, l < 24 ∧ (s.lane l).composing = true ∧ (s.lane l).guardInUse ≠ on) →
        t.lanes.guardStatus = .settling)))

/-! ## Faults and alerts (10) -/

/-- Recording a fault: with overflow set it is only counted as dropped; otherwise it is stored in the first record not
present from the next-write index upward, and the first of a quiet table becomes first-pending and raises an alert; with
no such record overflow is set, the fault counted as dropped, an alert raised, and nothing else of the table changes. An
alert is placed at once when the mask is off and the queue has room, and is pending otherwise; one that is pending already
raises no other (R183, R184, R188, R190). -/
def Obligations.RecordFaultStoresOrOverflows : Prop :=
  ∀ (s : State) (k : FaultKind), s.faults.nextWrite < 8 →
    (s.faults.overflow = true →
      s.recordFault k = s.withFaults { s.faults with dropped := satInc 255 s.faults.dropped }) ∧
    (∀ j, s.faults.overflow = false → j < 8 → s.faultRecord ((s.faults.nextWrite + j) % 8) = none →
      (∀ i, i < j → s.faultRecord ((s.faults.nextWrite + i) % 8) ≠ none) →
      ∃ t, s.recordFault k = t ∧
        t = (s.withFaults t.faults).withMgmt { s.mgmt with outbound := t.mgmt.outbound } ∧
        t.faultRecord ((s.faults.nextWrite + j) % 8) = some ⟨k, s.now, s.towerTime⟩ ∧
        (∀ i, i ≠ (s.faults.nextWrite + j) % 8 → t.faultRecord i = s.faultRecord i) ∧
        t.faults.nextWrite = (s.faults.nextWrite + j + 1) % 8 ∧ t.faults.pending = true ∧
        t.faults.overflow = false ∧ t.faults.dropped = s.faults.dropped ∧
        (s.faults.pending = true → t.faults.first = s.faults.first ∧ t.mgmt.outbound = s.mgmt.outbound ∧
          t.faults.alertPending = s.faults.alertPending) ∧
        (s.faults.pending = false → t.faults.first = some ((s.faults.nextWrite + j) % 8) ∧
          ((s.faults.alertPending = true ∨ s.settings.alertMask = true ∨ s.outboundRoom = false) →
            t.faults.alertPending = true ∧ t.mgmt.outbound = s.mgmt.outbound) ∧
          (s.faults.alertPending = false → s.settings.alertMask = false → s.outboundRoom = true →
            t.faults.alertPending = false ∧ ∃ a, t.mgmt.outbound = s.mgmt.outbound ++ [.alert a] ∧
              a.first = t.faults.first ∧ a.present = t.presentFaults ∧ a.overflow = false ∧
              a.dropped = s.faults.dropped ∧ a.origin = s.settings.nodeAddress))) ∧
    (s.faults.overflow = false → (∀ i, i < 8 → s.faultRecord i ≠ none) →
      ∃ t, s.recordFault k = t ∧
        t = (s.withFaults t.faults).withMgmt { s.mgmt with outbound := t.mgmt.outbound } ∧
        t.faults.overflow = true ∧ t.faults.dropped = satInc 255 s.faults.dropped ∧
        t.faults.records = s.faults.records ∧ t.faults.first = s.faults.first ∧
        t.faults.pending = s.faults.pending ∧ t.faults.nextWrite = s.faults.nextWrite ∧
        ((s.faults.alertPending = true ∨ s.settings.alertMask = true ∨ s.outboundRoom = false) →
          t.faults.alertPending = true ∧ t.mgmt.outbound = s.mgmt.outbound) ∧
        (s.faults.alertPending = false → s.settings.alertMask = false → s.outboundRoom = true →
          t.faults.alertPending = false ∧ ∃ a, t.mgmt.outbound = s.mgmt.outbound ++ [.alert a] ∧
            a.first = s.faults.first ∧ a.present = 8 ∧ a.overflow = true ∧
            a.dropped = satInc 255 s.faults.dropped ∧ a.origin = s.settings.nodeAddress))

/-- CLEAR_FAULT removes one record, and the flags follow: pending while a record is left, and the first-pending index,
when it named the record, the oldest of those left; CLEAR_OVERFLOW clears overflow and reports the dropped count it
clears; a table left quiet has no alert pending (R184, R186, R187, R189). -/
def Obligations.ClearsFollowTheRecords : Prop :=
  (∀ (h : ReqHead) (i : Nat) (s : State), s.faults.Agrees → s.Takes (.clearFault h i) h →
    (7 < i → exec (.clearFault h i) s = .next (s.repliesOnly (.clearFault h i) h .refusedRange .none)) ∧
    (i ≤ 7 → s.faultRecord i = none → exec (.clearFault h i) s = .next (s.repliesOnly (.clearFault h i) h .ok
      (.faultCleared s.faults.pending s.presentFaults))) ∧
    (i ≤ 7 → s.faultRecord i ≠ none → ∃ t, exec (.clearFault h i) s = .next t ∧
      t = (s.withFaults t.faults).withMgmt (s.replied (.clearFault h i) h .ok
        (.faultCleared t.faults.pending t.presentFaults)) ∧
      t.faultRecord i = none ∧ (∀ j, j ≠ i → t.faultRecord j = s.faultRecord j) ∧
      t.faults.nextWrite = s.faults.nextWrite ∧ t.faults.overflow = s.faults.overflow ∧
      t.faults.dropped = s.faults.dropped ∧ t.faults.Agrees ∧
      (s.faults.first ≠ some i → t.faults.first = s.faults.first) ∧
      (s.faults.first = some i → ∀ j a, t.faults.first = some j → t.faultRecord j = some a →
        ∀ m b, m < 8 → m ≠ j → t.faultRecord m = some b →
          a.runInstant < b.runInstant ∨ (a.runInstant = b.runInstant ∧ j < m)))) ∧
  (∀ (h : ReqHead) (s : State), s.Takes (.clearOverflow h) h → exec (.clearOverflow h) s =
    .next ((s.withFaults { s.faults with
      overflow := false, dropped := 0, alertPending := s.faults.alertPending && s.faults.pending }).withMgmt
        (s.replied (.clearOverflow h) h .ok (.overflowCleared s.faults.dropped))))

/-! ## What every step keeps -/

/-- The machine right after reset meets every invariant below. -/
def Obligations.ResetMeetsInvariants : Prop :=
  State.reset.Canonical ∧ State.reset.QueuesBounded ∧ State.reset.ingress.SwitchWaits ∧
    State.reset.faults.Agrees ∧ State.reset.time.Consistent ∧ State.reset.TimelessIsStale ∧
    State.reset.calendar.Ordered ∧ State.reset.PlayingCounts ∧ State.reset.LayersHaveSlots ∧
    State.reset.LanesAgree ∧ State.reset.LanesSettled ∧ State.reset.SettingsLegal

/-- Every step keeps every table of the state in its canonical form, so that equal contents are equal data. The sparse
tables and their canonical form are the model's own representation (log entry 21). -/
def Obligations.StepsKeepTablesCanonical : Prop :=
  ∀ s t : State, s.Canonical → step s = .next t → t.Canonical

/-- Every step keeps the bounds of the ingress queue, the request queue and the outbound queue, and a switch of the
input bank waits only for a frame in processing (R119, R124, R137, R166, R167, R171). -/
def Obligations.StepsKeepQueuesBounded : Prop :=
  ∀ s t : State, s.QueuesBounded → s.ingress.SwitchWaits → step s = .next t →
    t.QueuesBounded ∧ t.ingress.SwitchWaits

/-- Every step keeps the fault table's flags in agreement with its records (R182 to R189). -/
def Obligations.StepsKeepFaultTableAgreement : Prop :=
  ∀ s t : State, s.faults.Agrees → step s = .next t → t.faults.Agrees

/-- Every step keeps the time unit in its ranges, with clock state, remainder and loss timer in agreement, and keeps the
agenda in its order, within 24 items, and empty and STALE while there is no tower time (R3, R7, R11, R23, R37, R41). -/
def Obligations.StepsKeepTimeAndAgenda : Prop :=
  (∀ s t : State, s.time.Consistent → step s = .next t → t.time.Consistent) ∧
  (∀ s t : State, s.calendar.Ordered → s.TimelessIsStale → step s = .next t →
    t.calendar.Ordered ∧ t.TimelessIsStale)

/-- Every step keeps each show's playing count the number of slots that play it, and lets a slot play only a READY show
(R43, R45, R47, R52, R62, R75). -/
def Obligations.StepsKeepPlayingCounts : Prop :=
  ∀ s t : State, s.PlayingCounts → step s = .next t → t.PlayingCounts

/-- Every step leaves every zone owned by the strongest of its layers, and every layer with a slot that is not FREE (R84,
R91, R96). -/
def Obligations.StepsKeepZonesOwned : Prop :=
  ∀ s t : State, s.Canonical → s.LayersHaveSlots → step s = .next t → t.LayersHaveSlots

/-- Every step keeps the switch and guard statuses true of the lanes, idle lanes adopted, and the lanes' timers to the
states that run them; and whenever every lane has adopted, the switch is IDLE and guarding is not SETTLING (R142, R143,
R158, R160). -/
def Obligations.StepsKeepLanesInAgreement : Prop :=
  (∀ s t : State, s.LanesAgree → step s = .next t → t.LanesAgree) ∧
  (∀ s t : State, s.LanesSettled → step s = .next t → t.LanesSettled)

/-- Every step keeps every setting, in force, pending, stored or being written, in its range (R173, R175, R176). -/
def Obligations.StepsKeepSettingsLegal : Prop :=
  ∀ s t : State, s.SettingsLegal → step s = .next t → t.SettingsLegal

end Statements
end

