-- ==== Sys2Proof/Laws/State.lean ====
section
/-! SUPPORT. What each block replacement leaves: one lemma per field per update, all true by rfl. -/

namespace Sys2Proof.Machine

@[simp] theorem State.withTime_time (s : State) (x : TimeUnit) : (s.withTime x).time = x := rfl
@[simp] theorem State.withTime_calendar (s : State) (x : TimeUnit) : (s.withTime x).calendar = s.calendar := rfl
@[simp] theorem State.withTime_cueStore (s : State) (x : TimeUnit) : (s.withTime x).cueStore = s.cueStore := rfl
@[simp] theorem State.withTime_playback (s : State) (x : TimeUnit) : (s.withTime x).playback = s.playback := rfl
@[simp] theorem State.withTime_mixer (s : State) (x : TimeUnit) : (s.withTime x).mixer = s.mixer := rfl
@[simp] theorem State.withTime_ingress (s : State) (x : TimeUnit) : (s.withTime x).ingress = s.ingress := rfl
@[simp] theorem State.withTime_lanes (s : State) (x : TimeUnit) : (s.withTime x).lanes = s.lanes := rfl
@[simp] theorem State.withTime_mgmt (s : State) (x : TimeUnit) : (s.withTime x).mgmt = s.mgmt := rfl
@[simp] theorem State.withTime_faults (s : State) (x : TimeUnit) : (s.withTime x).faults = s.faults := rfl
@[simp] theorem State.withTime_image (s : State) (x : TimeUnit) : (s.withTime x).image = s.image := rfl
@[simp] theorem State.withTime_freeCount (s : State) (x : TimeUnit) : (s.withTime x).freeCount = s.freeCount := rfl
@[simp] theorem State.withTime_pending (s : State) (x : TimeUnit) : (s.withTime x).pending = s.pending := rfl

@[simp] theorem State.withCalendar_time (s : State) (x : CalendarEngine) : (s.withCalendar x).time = s.time := rfl
@[simp] theorem State.withCalendar_calendar (s : State) (x : CalendarEngine) : (s.withCalendar x).calendar = x := rfl
@[simp] theorem State.withCalendar_cueStore (s : State) (x : CalendarEngine) : (s.withCalendar x).cueStore = s.cueStore := rfl
@[simp] theorem State.withCalendar_playback (s : State) (x : CalendarEngine) : (s.withCalendar x).playback = s.playback := rfl
@[simp] theorem State.withCalendar_mixer (s : State) (x : CalendarEngine) : (s.withCalendar x).mixer = s.mixer := rfl
@[simp] theorem State.withCalendar_ingress (s : State) (x : CalendarEngine) : (s.withCalendar x).ingress = s.ingress := rfl
@[simp] theorem State.withCalendar_lanes (s : State) (x : CalendarEngine) : (s.withCalendar x).lanes = s.lanes := rfl
@[simp] theorem State.withCalendar_mgmt (s : State) (x : CalendarEngine) : (s.withCalendar x).mgmt = s.mgmt := rfl
@[simp] theorem State.withCalendar_faults (s : State) (x : CalendarEngine) : (s.withCalendar x).faults = s.faults := rfl
@[simp] theorem State.withCalendar_image (s : State) (x : CalendarEngine) : (s.withCalendar x).image = s.image := rfl
@[simp] theorem State.withCalendar_freeCount (s : State) (x : CalendarEngine) : (s.withCalendar x).freeCount = s.freeCount := rfl
@[simp] theorem State.withCalendar_pending (s : State) (x : CalendarEngine) : (s.withCalendar x).pending = s.pending := rfl

@[simp] theorem State.withCueStore_time (s : State) (x : CueStore) : (s.withCueStore x).time = s.time := rfl
@[simp] theorem State.withCueStore_calendar (s : State) (x : CueStore) : (s.withCueStore x).calendar = s.calendar := rfl
@[simp] theorem State.withCueStore_cueStore (s : State) (x : CueStore) : (s.withCueStore x).cueStore = x := rfl
@[simp] theorem State.withCueStore_playback (s : State) (x : CueStore) : (s.withCueStore x).playback = s.playback := rfl
@[simp] theorem State.withCueStore_mixer (s : State) (x : CueStore) : (s.withCueStore x).mixer = s.mixer := rfl
@[simp] theorem State.withCueStore_ingress (s : State) (x : CueStore) : (s.withCueStore x).ingress = s.ingress := rfl
@[simp] theorem State.withCueStore_lanes (s : State) (x : CueStore) : (s.withCueStore x).lanes = s.lanes := rfl
@[simp] theorem State.withCueStore_mgmt (s : State) (x : CueStore) : (s.withCueStore x).mgmt = s.mgmt := rfl
@[simp] theorem State.withCueStore_faults (s : State) (x : CueStore) : (s.withCueStore x).faults = s.faults := rfl
@[simp] theorem State.withCueStore_image (s : State) (x : CueStore) : (s.withCueStore x).image = s.image := rfl
@[simp] theorem State.withCueStore_freeCount (s : State) (x : CueStore) : (s.withCueStore x).freeCount = s.freeCount := rfl
@[simp] theorem State.withCueStore_pending (s : State) (x : CueStore) : (s.withCueStore x).pending = s.pending := rfl

@[simp] theorem State.withPlayback_time (s : State) (x : PlaybackEngine) : (s.withPlayback x).time = s.time := rfl
@[simp] theorem State.withPlayback_calendar (s : State) (x : PlaybackEngine) : (s.withPlayback x).calendar = s.calendar := rfl
@[simp] theorem State.withPlayback_cueStore (s : State) (x : PlaybackEngine) : (s.withPlayback x).cueStore = s.cueStore := rfl
@[simp] theorem State.withPlayback_playback (s : State) (x : PlaybackEngine) : (s.withPlayback x).playback = x := rfl
@[simp] theorem State.withPlayback_mixer (s : State) (x : PlaybackEngine) : (s.withPlayback x).mixer = s.mixer := rfl
@[simp] theorem State.withPlayback_ingress (s : State) (x : PlaybackEngine) : (s.withPlayback x).ingress = s.ingress := rfl
@[simp] theorem State.withPlayback_lanes (s : State) (x : PlaybackEngine) : (s.withPlayback x).lanes = s.lanes := rfl
@[simp] theorem State.withPlayback_mgmt (s : State) (x : PlaybackEngine) : (s.withPlayback x).mgmt = s.mgmt := rfl
@[simp] theorem State.withPlayback_faults (s : State) (x : PlaybackEngine) : (s.withPlayback x).faults = s.faults := rfl
@[simp] theorem State.withPlayback_image (s : State) (x : PlaybackEngine) : (s.withPlayback x).image = s.image := rfl
@[simp] theorem State.withPlayback_freeCount (s : State) (x : PlaybackEngine) : (s.withPlayback x).freeCount = s.freeCount := rfl
@[simp] theorem State.withPlayback_pending (s : State) (x : PlaybackEngine) : (s.withPlayback x).pending = s.pending := rfl

@[simp] theorem State.withMixer_time (s : State) (x : ZoneMixer) : (s.withMixer x).time = s.time := rfl
@[simp] theorem State.withMixer_calendar (s : State) (x : ZoneMixer) : (s.withMixer x).calendar = s.calendar := rfl
@[simp] theorem State.withMixer_cueStore (s : State) (x : ZoneMixer) : (s.withMixer x).cueStore = s.cueStore := rfl
@[simp] theorem State.withMixer_playback (s : State) (x : ZoneMixer) : (s.withMixer x).playback = s.playback := rfl
@[simp] theorem State.withMixer_mixer (s : State) (x : ZoneMixer) : (s.withMixer x).mixer = x := rfl
@[simp] theorem State.withMixer_ingress (s : State) (x : ZoneMixer) : (s.withMixer x).ingress = s.ingress := rfl
@[simp] theorem State.withMixer_lanes (s : State) (x : ZoneMixer) : (s.withMixer x).lanes = s.lanes := rfl
@[simp] theorem State.withMixer_mgmt (s : State) (x : ZoneMixer) : (s.withMixer x).mgmt = s.mgmt := rfl
@[simp] theorem State.withMixer_faults (s : State) (x : ZoneMixer) : (s.withMixer x).faults = s.faults := rfl
@[simp] theorem State.withMixer_image (s : State) (x : ZoneMixer) : (s.withMixer x).image = s.image := rfl
@[simp] theorem State.withMixer_freeCount (s : State) (x : ZoneMixer) : (s.withMixer x).freeCount = s.freeCount := rfl
@[simp] theorem State.withMixer_pending (s : State) (x : ZoneMixer) : (s.withMixer x).pending = s.pending := rfl

@[simp] theorem State.withIngress_time (s : State) (x : IngressProcessor) : (s.withIngress x).time = s.time := rfl
@[simp] theorem State.withIngress_calendar (s : State) (x : IngressProcessor) : (s.withIngress x).calendar = s.calendar := rfl
@[simp] theorem State.withIngress_cueStore (s : State) (x : IngressProcessor) : (s.withIngress x).cueStore = s.cueStore := rfl
@[simp] theorem State.withIngress_playback (s : State) (x : IngressProcessor) : (s.withIngress x).playback = s.playback := rfl
@[simp] theorem State.withIngress_mixer (s : State) (x : IngressProcessor) : (s.withIngress x).mixer = s.mixer := rfl
@[simp] theorem State.withIngress_ingress (s : State) (x : IngressProcessor) : (s.withIngress x).ingress = x := rfl
@[simp] theorem State.withIngress_lanes (s : State) (x : IngressProcessor) : (s.withIngress x).lanes = s.lanes := rfl
@[simp] theorem State.withIngress_mgmt (s : State) (x : IngressProcessor) : (s.withIngress x).mgmt = s.mgmt := rfl
@[simp] theorem State.withIngress_faults (s : State) (x : IngressProcessor) : (s.withIngress x).faults = s.faults := rfl
@[simp] theorem State.withIngress_image (s : State) (x : IngressProcessor) : (s.withIngress x).image = s.image := rfl
@[simp] theorem State.withIngress_freeCount (s : State) (x : IngressProcessor) : (s.withIngress x).freeCount = s.freeCount := rfl
@[simp] theorem State.withIngress_pending (s : State) (x : IngressProcessor) : (s.withIngress x).pending = s.pending := rfl

@[simp] theorem State.withLanes_time (s : State) (x : LaneController) : (s.withLanes x).time = s.time := rfl
@[simp] theorem State.withLanes_calendar (s : State) (x : LaneController) : (s.withLanes x).calendar = s.calendar := rfl
@[simp] theorem State.withLanes_cueStore (s : State) (x : LaneController) : (s.withLanes x).cueStore = s.cueStore := rfl
@[simp] theorem State.withLanes_playback (s : State) (x : LaneController) : (s.withLanes x).playback = s.playback := rfl
@[simp] theorem State.withLanes_mixer (s : State) (x : LaneController) : (s.withLanes x).mixer = s.mixer := rfl
@[simp] theorem State.withLanes_ingress (s : State) (x : LaneController) : (s.withLanes x).ingress = s.ingress := rfl
@[simp] theorem State.withLanes_lanes (s : State) (x : LaneController) : (s.withLanes x).lanes = x := rfl
@[simp] theorem State.withLanes_mgmt (s : State) (x : LaneController) : (s.withLanes x).mgmt = s.mgmt := rfl
@[simp] theorem State.withLanes_faults (s : State) (x : LaneController) : (s.withLanes x).faults = s.faults := rfl
@[simp] theorem State.withLanes_image (s : State) (x : LaneController) : (s.withLanes x).image = s.image := rfl
@[simp] theorem State.withLanes_freeCount (s : State) (x : LaneController) : (s.withLanes x).freeCount = s.freeCount := rfl
@[simp] theorem State.withLanes_pending (s : State) (x : LaneController) : (s.withLanes x).pending = s.pending := rfl

@[simp] theorem State.withMgmt_time (s : State) (x : ManagementUnit) : (s.withMgmt x).time = s.time := rfl
@[simp] theorem State.withMgmt_calendar (s : State) (x : ManagementUnit) : (s.withMgmt x).calendar = s.calendar := rfl
@[simp] theorem State.withMgmt_cueStore (s : State) (x : ManagementUnit) : (s.withMgmt x).cueStore = s.cueStore := rfl
@[simp] theorem State.withMgmt_playback (s : State) (x : ManagementUnit) : (s.withMgmt x).playback = s.playback := rfl
@[simp] theorem State.withMgmt_mixer (s : State) (x : ManagementUnit) : (s.withMgmt x).mixer = s.mixer := rfl
@[simp] theorem State.withMgmt_ingress (s : State) (x : ManagementUnit) : (s.withMgmt x).ingress = s.ingress := rfl
@[simp] theorem State.withMgmt_lanes (s : State) (x : ManagementUnit) : (s.withMgmt x).lanes = s.lanes := rfl
@[simp] theorem State.withMgmt_mgmt (s : State) (x : ManagementUnit) : (s.withMgmt x).mgmt = x := rfl
@[simp] theorem State.withMgmt_faults (s : State) (x : ManagementUnit) : (s.withMgmt x).faults = s.faults := rfl
@[simp] theorem State.withMgmt_image (s : State) (x : ManagementUnit) : (s.withMgmt x).image = s.image := rfl
@[simp] theorem State.withMgmt_freeCount (s : State) (x : ManagementUnit) : (s.withMgmt x).freeCount = s.freeCount := rfl
@[simp] theorem State.withMgmt_pending (s : State) (x : ManagementUnit) : (s.withMgmt x).pending = s.pending := rfl

@[simp] theorem State.withFaults_time (s : State) (x : FaultTable) : (s.withFaults x).time = s.time := rfl
@[simp] theorem State.withFaults_calendar (s : State) (x : FaultTable) : (s.withFaults x).calendar = s.calendar := rfl
@[simp] theorem State.withFaults_cueStore (s : State) (x : FaultTable) : (s.withFaults x).cueStore = s.cueStore := rfl
@[simp] theorem State.withFaults_playback (s : State) (x : FaultTable) : (s.withFaults x).playback = s.playback := rfl
@[simp] theorem State.withFaults_mixer (s : State) (x : FaultTable) : (s.withFaults x).mixer = s.mixer := rfl
@[simp] theorem State.withFaults_ingress (s : State) (x : FaultTable) : (s.withFaults x).ingress = s.ingress := rfl
@[simp] theorem State.withFaults_lanes (s : State) (x : FaultTable) : (s.withFaults x).lanes = s.lanes := rfl
@[simp] theorem State.withFaults_mgmt (s : State) (x : FaultTable) : (s.withFaults x).mgmt = s.mgmt := rfl
@[simp] theorem State.withFaults_faults (s : State) (x : FaultTable) : (s.withFaults x).faults = x := rfl
@[simp] theorem State.withFaults_image (s : State) (x : FaultTable) : (s.withFaults x).image = s.image := rfl
@[simp] theorem State.withFaults_freeCount (s : State) (x : FaultTable) : (s.withFaults x).freeCount = s.freeCount := rfl
@[simp] theorem State.withFaults_pending (s : State) (x : FaultTable) : (s.withFaults x).pending = s.pending := rfl

@[simp] theorem State.withImage_time (s : State) (x : ImageStore) : (s.withImage x).time = s.time := rfl
@[simp] theorem State.withImage_calendar (s : State) (x : ImageStore) : (s.withImage x).calendar = s.calendar := rfl
@[simp] theorem State.withImage_cueStore (s : State) (x : ImageStore) : (s.withImage x).cueStore = s.cueStore := rfl
@[simp] theorem State.withImage_playback (s : State) (x : ImageStore) : (s.withImage x).playback = s.playback := rfl
@[simp] theorem State.withImage_mixer (s : State) (x : ImageStore) : (s.withImage x).mixer = s.mixer := rfl
@[simp] theorem State.withImage_ingress (s : State) (x : ImageStore) : (s.withImage x).ingress = s.ingress := rfl
@[simp] theorem State.withImage_lanes (s : State) (x : ImageStore) : (s.withImage x).lanes = s.lanes := rfl
@[simp] theorem State.withImage_mgmt (s : State) (x : ImageStore) : (s.withImage x).mgmt = s.mgmt := rfl
@[simp] theorem State.withImage_faults (s : State) (x : ImageStore) : (s.withImage x).faults = s.faults := rfl
@[simp] theorem State.withImage_image (s : State) (x : ImageStore) : (s.withImage x).image = x := rfl
@[simp] theorem State.withImage_freeCount (s : State) (x : ImageStore) : (s.withImage x).freeCount = s.freeCount := rfl
@[simp] theorem State.withImage_pending (s : State) (x : ImageStore) : (s.withImage x).pending = s.pending := rfl

@[simp] theorem State.withFreeCount_time (s : State) (x : Nat) : (s.withFreeCount x).time = s.time := rfl
@[simp] theorem State.withFreeCount_calendar (s : State) (x : Nat) : (s.withFreeCount x).calendar = s.calendar := rfl
@[simp] theorem State.withFreeCount_cueStore (s : State) (x : Nat) : (s.withFreeCount x).cueStore = s.cueStore := rfl
@[simp] theorem State.withFreeCount_playback (s : State) (x : Nat) : (s.withFreeCount x).playback = s.playback := rfl
@[simp] theorem State.withFreeCount_mixer (s : State) (x : Nat) : (s.withFreeCount x).mixer = s.mixer := rfl
@[simp] theorem State.withFreeCount_ingress (s : State) (x : Nat) : (s.withFreeCount x).ingress = s.ingress := rfl
@[simp] theorem State.withFreeCount_lanes (s : State) (x : Nat) : (s.withFreeCount x).lanes = s.lanes := rfl
@[simp] theorem State.withFreeCount_mgmt (s : State) (x : Nat) : (s.withFreeCount x).mgmt = s.mgmt := rfl
@[simp] theorem State.withFreeCount_faults (s : State) (x : Nat) : (s.withFreeCount x).faults = s.faults := rfl
@[simp] theorem State.withFreeCount_image (s : State) (x : Nat) : (s.withFreeCount x).image = s.image := rfl
@[simp] theorem State.withFreeCount_freeCount (s : State) (x : Nat) : (s.withFreeCount x).freeCount = x := rfl
@[simp] theorem State.withFreeCount_pending (s : State) (x : Nat) : (s.withFreeCount x).pending = s.pending := rfl

@[simp] theorem State.withPending_time (s : State) (x : List Instr) : (s.withPending x).time = s.time := rfl
@[simp] theorem State.withPending_calendar (s : State) (x : List Instr) : (s.withPending x).calendar = s.calendar := rfl
@[simp] theorem State.withPending_cueStore (s : State) (x : List Instr) : (s.withPending x).cueStore = s.cueStore := rfl
@[simp] theorem State.withPending_playback (s : State) (x : List Instr) : (s.withPending x).playback = s.playback := rfl
@[simp] theorem State.withPending_mixer (s : State) (x : List Instr) : (s.withPending x).mixer = s.mixer := rfl
@[simp] theorem State.withPending_ingress (s : State) (x : List Instr) : (s.withPending x).ingress = s.ingress := rfl
@[simp] theorem State.withPending_lanes (s : State) (x : List Instr) : (s.withPending x).lanes = s.lanes := rfl
@[simp] theorem State.withPending_mgmt (s : State) (x : List Instr) : (s.withPending x).mgmt = s.mgmt := rfl
@[simp] theorem State.withPending_faults (s : State) (x : List Instr) : (s.withPending x).faults = s.faults := rfl
@[simp] theorem State.withPending_image (s : State) (x : List Instr) : (s.withPending x).image = s.image := rfl
@[simp] theorem State.withPending_freeCount (s : State) (x : List Instr) : (s.withPending x).freeCount = s.freeCount := rfl
@[simp] theorem State.withPending_pending (s : State) (x : List Instr) : (s.withPending x).pending = x := rfl

end Sys2Proof.Machine
end

