-- ==== Sys2Proof/Laws/Frames.lean ====
section
/-! SUPPORT. What each operation leaves alone: for each operation, one lemma that names every block it does not touch. -/

namespace Sys2Proof.Machine

/-- What every pass of a fold keeps, the fold keeps. -/
theorem foldl_keeps {σ β γ : Type} (g : σ → γ) (f : σ → β → σ) (h : ∀ s b, g (f s b) = g s) (l : List β) (s : σ) :
    g (l.foldl f s) = g s := by
  induction l generalizing s with
  | nil => rfl
  | cons b l ih => rw [List.foldl_cons, ih, h]


@[simp] theorem State.setEntry_frame (s : State) (i : Nat) (e : CalendarEntry) :
    (s.setEntry i e).time = s.time ∧ (s.setEntry i e).cueStore = s.cueStore ∧ (s.setEntry i e).playback = s.playback
    ∧ (s.setEntry i e).mixer = s.mixer ∧ (s.setEntry i e).ingress = s.ingress ∧ (s.setEntry i e).lanes = s.lanes ∧
    (s.setEntry i e).mgmt = s.mgmt ∧ (s.setEntry i e).faults = s.faults ∧ (s.setEntry i e).image = s.image ∧
    (s.setEntry i e).pending = s.pending ∧ (s.setEntry i e).freeCount = s.freeCount := by
  unfold State.setEntry; simp

@[simp] theorem State.setShow_frame (s : State) (i : Nat) (r : ShowRecord) :
    (s.setShow i r).time = s.time ∧ (s.setShow i r).calendar = s.calendar ∧ (s.setShow i r).playback = s.playback ∧
    (s.setShow i r).mixer = s.mixer ∧ (s.setShow i r).ingress = s.ingress ∧ (s.setShow i r).lanes = s.lanes ∧
    (s.setShow i r).mgmt = s.mgmt ∧ (s.setShow i r).faults = s.faults ∧ (s.setShow i r).image = s.image ∧ (s.setShow
    i r).pending = s.pending ∧ (s.setShow i r).freeCount = s.freeCount := by
  unfold State.setShow; simp

@[simp] theorem State.setSlot_frame (s : State) (k : Nat) (p : Option Playback) :
    (s.setSlot k p).time = s.time ∧ (s.setSlot k p).calendar = s.calendar ∧ (s.setSlot k p).cueStore = s.cueStore ∧
    (s.setSlot k p).mixer = s.mixer ∧ (s.setSlot k p).ingress = s.ingress ∧ (s.setSlot k p).lanes = s.lanes ∧
    (s.setSlot k p).mgmt = s.mgmt ∧ (s.setSlot k p).faults = s.faults ∧ (s.setSlot k p).image = s.image ∧ (s.setSlot
    k p).pending = s.pending ∧ (s.setSlot k p).freeCount = s.freeCount := by
  unfold State.setSlot; simp

@[simp] theorem State.setZone_frame (s : State) (z : Nat) (r : Zone) :
    (s.setZone z r).time = s.time ∧ (s.setZone z r).calendar = s.calendar ∧ (s.setZone z r).cueStore = s.cueStore ∧
    (s.setZone z r).playback = s.playback ∧ (s.setZone z r).ingress = s.ingress ∧ (s.setZone z r).lanes = s.lanes ∧
    (s.setZone z r).mgmt = s.mgmt ∧ (s.setZone z r).faults = s.faults ∧ (s.setZone z r).image = s.image ∧ (s.setZone
    z r).pending = s.pending ∧ (s.setZone z r).freeCount = s.freeCount := by
  unfold State.setZone; simp

@[simp] theorem State.setSource_frame (s : State) (i : Nat) (x : Source) :
    (s.setSource i x).time = s.time ∧ (s.setSource i x).calendar = s.calendar ∧ (s.setSource i x).cueStore =
    s.cueStore ∧ (s.setSource i x).playback = s.playback ∧ (s.setSource i x).mixer = s.mixer ∧ (s.setSource i
    x).lanes = s.lanes ∧ (s.setSource i x).mgmt = s.mgmt ∧ (s.setSource i x).faults = s.faults ∧ (s.setSource i
    x).image = s.image ∧ (s.setSource i x).pending = s.pending ∧ (s.setSource i x).freeCount = s.freeCount := by
  unfold State.setSource; simp

@[simp] theorem State.setInputBank_frame (s : State) (b : BankNo) (t : Table InputEntry) :
    (s.setInputBank b t).time = s.time ∧ (s.setInputBank b t).calendar = s.calendar ∧ (s.setInputBank b t).cueStore
    = s.cueStore ∧ (s.setInputBank b t).playback = s.playback ∧ (s.setInputBank b t).mixer = s.mixer ∧
    (s.setInputBank b t).lanes = s.lanes ∧ (s.setInputBank b t).mgmt = s.mgmt ∧ (s.setInputBank b t).faults =
    s.faults ∧ (s.setInputBank b t).image = s.image ∧ (s.setInputBank b t).pending = s.pending ∧ (s.setInputBank b
    t).freeCount = s.freeCount := by
  generalize h : s.setInputBank b t = t; dsimp only [State.setInputBank] at h; (repeat' split at h) <;> subst h <;> simp

@[simp] theorem State.setOutputBank_frame (s : State) (b : BankNo) (t : Table OutputEntry) :
    (s.setOutputBank b t).time = s.time ∧ (s.setOutputBank b t).calendar = s.calendar ∧ (s.setOutputBank b
    t).cueStore = s.cueStore ∧ (s.setOutputBank b t).playback = s.playback ∧ (s.setOutputBank b t).mixer = s.mixer ∧
    (s.setOutputBank b t).ingress = s.ingress ∧ (s.setOutputBank b t).mgmt = s.mgmt ∧ (s.setOutputBank b t).faults =
    s.faults ∧ (s.setOutputBank b t).image = s.image ∧ (s.setOutputBank b t).pending = s.pending ∧ (s.setOutputBank
    b t).freeCount = s.freeCount := by
  generalize h : s.setOutputBank b t = t; dsimp only [State.setOutputBank] at h; (repeat' split at h) <;> subst h <;> simp

@[simp] theorem State.setLane_frame (s : State) (l : Nat) (r : Lane) :
    (s.setLane l r).time = s.time ∧ (s.setLane l r).calendar = s.calendar ∧ (s.setLane l r).cueStore = s.cueStore ∧
    (s.setLane l r).playback = s.playback ∧ (s.setLane l r).mixer = s.mixer ∧ (s.setLane l r).ingress = s.ingress ∧
    (s.setLane l r).mgmt = s.mgmt ∧ (s.setLane l r).faults = s.faults ∧ (s.setLane l r).image = s.image ∧ (s.setLane
    l r).pending = s.pending ∧ (s.setLane l r).freeCount = s.freeCount := by
  unfold State.setLane; simp

@[simp] theorem State.count_frame (s : State) (f : ShowPortCounters → ShowPortCounters) :
    (s.count f).time = s.time ∧ (s.count f).calendar = s.calendar ∧ (s.count f).cueStore = s.cueStore ∧ (s.count
    f).playback = s.playback ∧ (s.count f).mixer = s.mixer ∧ (s.count f).lanes = s.lanes ∧ (s.count f).mgmt = s.mgmt
    ∧ (s.count f).faults = s.faults ∧ (s.count f).image = s.image ∧ (s.count f).pending = s.pending ∧ (s.count
    f).freeCount = s.freeCount := by
  unfold State.count; simp

@[simp] theorem State.placeAlert_frame (s : State) :
    (s.placeAlert).time = s.time ∧ (s.placeAlert).calendar = s.calendar ∧ (s.placeAlert).cueStore = s.cueStore ∧
    (s.placeAlert).playback = s.playback ∧ (s.placeAlert).mixer = s.mixer ∧ (s.placeAlert).ingress = s.ingress ∧
    (s.placeAlert).lanes = s.lanes ∧ (s.placeAlert).faults = s.faults ∧ (s.placeAlert).image = s.image ∧
    (s.placeAlert).pending = s.pending ∧ (s.placeAlert).freeCount = s.freeCount ∧ (s.placeAlert).mgmt.requests =
    s.mgmt.requests ∧ (s.placeAlert).mgmt.replyReserved = s.mgmt.replyReserved ∧ (s.placeAlert).mgmt.line =
    s.mgmt.line ∧ (s.placeAlert).mgmt.settings = s.mgmt.settings ∧ (s.placeAlert).mgmt.pendingNode =
    s.mgmt.pendingNode ∧ (s.placeAlert).mgmt.restartPending = s.mgmt.restartPending := by
  unfold State.placeAlert; simp

@[simp] theorem State.alertCondition_frame (s : State) :
    (s.alertCondition).time = s.time ∧ (s.alertCondition).calendar = s.calendar ∧ (s.alertCondition).cueStore =
    s.cueStore ∧ (s.alertCondition).playback = s.playback ∧ (s.alertCondition).mixer = s.mixer ∧
    (s.alertCondition).ingress = s.ingress ∧ (s.alertCondition).lanes = s.lanes ∧ (s.alertCondition).image = s.image
    ∧ (s.alertCondition).pending = s.pending ∧ (s.alertCondition).freeCount = s.freeCount ∧
    (s.alertCondition).mgmt.requests = s.mgmt.requests ∧ (s.alertCondition).mgmt.replyReserved =
    s.mgmt.replyReserved ∧ (s.alertCondition).mgmt.line = s.mgmt.line ∧ (s.alertCondition).mgmt.settings =
    s.mgmt.settings ∧ (s.alertCondition).mgmt.pendingNode = s.mgmt.pendingNode ∧
    (s.alertCondition).mgmt.restartPending = s.mgmt.restartPending := by
  generalize h : s.alertCondition = t; dsimp only [State.alertCondition] at h; (repeat' split at h) <;> subst h <;> simp

@[simp] theorem State.sendPendingAlert_frame (s : State) :
    (s.sendPendingAlert).time = s.time ∧ (s.sendPendingAlert).calendar = s.calendar ∧ (s.sendPendingAlert).cueStore
    = s.cueStore ∧ (s.sendPendingAlert).playback = s.playback ∧ (s.sendPendingAlert).mixer = s.mixer ∧
    (s.sendPendingAlert).ingress = s.ingress ∧ (s.sendPendingAlert).lanes = s.lanes ∧ (s.sendPendingAlert).image =
    s.image ∧ (s.sendPendingAlert).pending = s.pending ∧ (s.sendPendingAlert).freeCount = s.freeCount ∧
    (s.sendPendingAlert).mgmt.requests = s.mgmt.requests ∧ (s.sendPendingAlert).mgmt.replyReserved =
    s.mgmt.replyReserved ∧ (s.sendPendingAlert).mgmt.line = s.mgmt.line ∧ (s.sendPendingAlert).mgmt.settings =
    s.mgmt.settings ∧ (s.sendPendingAlert).mgmt.pendingNode = s.mgmt.pendingNode ∧
    (s.sendPendingAlert).mgmt.restartPending = s.mgmt.restartPending := by
  generalize h : s.sendPendingAlert = t; dsimp only [State.sendPendingAlert] at h; (repeat' split at h) <;> subst h <;> simp

@[simp] theorem State.recordFault_frame (s : State) (k : FaultKind) :
    (s.recordFault k).time = s.time ∧ (s.recordFault k).calendar = s.calendar ∧ (s.recordFault k).cueStore =
    s.cueStore ∧ (s.recordFault k).playback = s.playback ∧ (s.recordFault k).mixer = s.mixer ∧ (s.recordFault
    k).ingress = s.ingress ∧ (s.recordFault k).lanes = s.lanes ∧ (s.recordFault k).image = s.image ∧ (s.recordFault
    k).pending = s.pending ∧ (s.recordFault k).freeCount = s.freeCount ∧ (s.recordFault k).mgmt.requests =
    s.mgmt.requests ∧ (s.recordFault k).mgmt.replyReserved = s.mgmt.replyReserved ∧ (s.recordFault k).mgmt.line =
    s.mgmt.line ∧ (s.recordFault k).mgmt.settings = s.mgmt.settings ∧ (s.recordFault k).mgmt.pendingNode =
    s.mgmt.pendingNode ∧ (s.recordFault k).mgmt.restartPending = s.mgmt.restartPending := by
  generalize h : s.recordFault k = t; dsimp only [State.recordFault] at h; (repeat' split at h) <;> subst h <;> simp

@[simp] theorem State.quietAlert_frame (s : State) :
    (s.quietAlert).time = s.time ∧ (s.quietAlert).calendar = s.calendar ∧ (s.quietAlert).cueStore = s.cueStore ∧
    (s.quietAlert).playback = s.playback ∧ (s.quietAlert).mixer = s.mixer ∧ (s.quietAlert).ingress = s.ingress ∧
    (s.quietAlert).lanes = s.lanes ∧ (s.quietAlert).mgmt = s.mgmt ∧ (s.quietAlert).image = s.image ∧
    (s.quietAlert).pending = s.pending ∧ (s.quietAlert).freeCount = s.freeCount := by
  generalize h : s.quietAlert = t; dsimp only [State.quietAlert] at h; (repeat' split at h) <;> subst h <;> simp

@[simp] theorem State.clearFaultRecord_frame (s : State) (i : Nat) :
    (s.clearFaultRecord i).time = s.time ∧ (s.clearFaultRecord i).calendar = s.calendar ∧ (s.clearFaultRecord
    i).cueStore = s.cueStore ∧ (s.clearFaultRecord i).playback = s.playback ∧ (s.clearFaultRecord i).mixer = s.mixer
    ∧ (s.clearFaultRecord i).ingress = s.ingress ∧ (s.clearFaultRecord i).lanes = s.lanes ∧ (s.clearFaultRecord
    i).mgmt = s.mgmt ∧ (s.clearFaultRecord i).image = s.image ∧ (s.clearFaultRecord i).pending = s.pending ∧
    (s.clearFaultRecord i).freeCount = s.freeCount := by
  generalize h : s.clearFaultRecord i = t; dsimp only [State.clearFaultRecord] at h; (repeat' split at h) <;> subst h <;> simp

@[simp] theorem State.clearFaultOverflow_frame (s : State) :
    (s.clearFaultOverflow).time = s.time ∧ (s.clearFaultOverflow).calendar = s.calendar ∧
    (s.clearFaultOverflow).cueStore = s.cueStore ∧ (s.clearFaultOverflow).playback = s.playback ∧
    (s.clearFaultOverflow).mixer = s.mixer ∧ (s.clearFaultOverflow).ingress = s.ingress ∧
    (s.clearFaultOverflow).lanes = s.lanes ∧ (s.clearFaultOverflow).mgmt = s.mgmt ∧ (s.clearFaultOverflow).image =
    s.image ∧ (s.clearFaultOverflow).pending = s.pending ∧ (s.clearFaultOverflow).freeCount = s.freeCount := by
  unfold State.clearFaultOverflow; simp

@[simp] theorem State.resetFaults_frame (s : State) :
    (s.resetFaults).time = s.time ∧ (s.resetFaults).calendar = s.calendar ∧ (s.resetFaults).cueStore = s.cueStore ∧
    (s.resetFaults).playback = s.playback ∧ (s.resetFaults).mixer = s.mixer ∧ (s.resetFaults).ingress = s.ingress ∧
    (s.resetFaults).lanes = s.lanes ∧ (s.resetFaults).mgmt = s.mgmt ∧ (s.resetFaults).image = s.image ∧
    (s.resetFaults).pending = s.pending ∧ (s.resetFaults).freeCount = s.freeCount := by
  unfold State.resetFaults; simp

@[simp] theorem State.putLayer_frame (s : State) (k z : Nat) (l : Layer) :
    (s.putLayer k z l).time = s.time ∧ (s.putLayer k z l).calendar = s.calendar ∧ (s.putLayer k z l).cueStore =
    s.cueStore ∧ (s.putLayer k z l).playback = s.playback ∧ (s.putLayer k z l).ingress = s.ingress ∧ (s.putLayer k z
    l).lanes = s.lanes ∧ (s.putLayer k z l).mgmt = s.mgmt ∧ (s.putLayer k z l).faults = s.faults ∧ (s.putLayer k z
    l).image = s.image ∧ (s.putLayer k z l).pending = s.pending ∧ (s.putLayer k z l).freeCount = s.freeCount := by
  generalize h : s.putLayer k z l = t; dsimp only [State.putLayer] at h; (repeat' split at h) <;> subst h <;> simp

@[simp] theorem State.dropLayer_frame (s : State) (k : Nat) (t : Int) (z : Nat) :
    (s.dropLayer k t z).time = s.time ∧ (s.dropLayer k t z).calendar = s.calendar ∧ (s.dropLayer k t z).cueStore =
    s.cueStore ∧ (s.dropLayer k t z).playback = s.playback ∧ (s.dropLayer k t z).ingress = s.ingress ∧ (s.dropLayer
    k t z).lanes = s.lanes ∧ (s.dropLayer k t z).mgmt = s.mgmt ∧ (s.dropLayer k t z).faults = s.faults ∧
    (s.dropLayer k t z).image = s.image ∧ (s.dropLayer k t z).pending = s.pending ∧ (s.dropLayer k t z).freeCount =
    s.freeCount := by
  generalize h : s.dropLayer k t z = t; dsimp only [State.dropLayer] at h; (repeat' split at h) <;> subst h <;> simp

@[simp] theorem State.cueZone_frame (s : State) (k : Nat) (p : Playback) (d : Int) (m : LayerMode) (fade : Nat) (c : Curve) (z : Nat) :
    (s.cueZone k p d m fade c z).time = s.time ∧ (s.cueZone k p d m fade c z).calendar = s.calendar ∧ (s.cueZone k p
    d m fade c z).cueStore = s.cueStore ∧ (s.cueZone k p d m fade c z).playback = s.playback ∧ (s.cueZone k p d m
    fade c z).ingress = s.ingress ∧ (s.cueZone k p d m fade c z).lanes = s.lanes ∧ (s.cueZone k p d m fade c z).mgmt
    = s.mgmt ∧ (s.cueZone k p d m fade c z).faults = s.faults ∧ (s.cueZone k p d m fade c z).image = s.image ∧
    (s.cueZone k p d m fade c z).pending = s.pending ∧ (s.cueZone k p d m fade c z).freeCount = s.freeCount := by
  unfold State.cueZone; simp

@[simp] theorem State.cueZones_frame (s : State) (k : Nat) (p : Playback) (d : Int) (m : LayerMode) (fade : Nat) (c : Curve) (z n : Nat) :
    (s.cueZones k p d m fade c z n).time = s.time ∧ (s.cueZones k p d m fade c z n).calendar = s.calendar ∧
    (s.cueZones k p d m fade c z n).cueStore = s.cueStore ∧ (s.cueZones k p d m fade c z n).playback = s.playback ∧
    (s.cueZones k p d m fade c z n).ingress = s.ingress ∧ (s.cueZones k p d m fade c z n).lanes = s.lanes ∧
    (s.cueZones k p d m fade c z n).mgmt = s.mgmt ∧ (s.cueZones k p d m fade c z n).faults = s.faults ∧ (s.cueZones
    k p d m fade c z n).image = s.image ∧ (s.cueZones k p d m fade c z n).pending = s.pending ∧ (s.cueZones k p d m
    fade c z n).freeCount = s.freeCount := by
  have key := foldl_keeps (β := Nat) (fun x : State =>
    (x.time, x.calendar, x.cueStore, x.playback, x.ingress, x.lanes, x.mgmt, x.faults, x.image, x.pending,
    x.freeCount))
  simp only [Prod.mk.injEq] at key
  unfold State.cueZones; simp [key]

@[simp] theorem State.releaseZones_frame (s : State) (k : Nat) (d : Int) (z n : Nat) :
    (s.releaseZones k d z n).time = s.time ∧ (s.releaseZones k d z n).calendar = s.calendar ∧ (s.releaseZones k d z
    n).cueStore = s.cueStore ∧ (s.releaseZones k d z n).playback = s.playback ∧ (s.releaseZones k d z n).ingress =
    s.ingress ∧ (s.releaseZones k d z n).lanes = s.lanes ∧ (s.releaseZones k d z n).mgmt = s.mgmt ∧ (s.releaseZones
    k d z n).faults = s.faults ∧ (s.releaseZones k d z n).image = s.image ∧ (s.releaseZones k d z n).pending =
    s.pending ∧ (s.releaseZones k d z n).freeCount = s.freeCount := by
  have key := foldl_keeps (β := Nat) (fun x : State =>
    (x.time, x.calendar, x.cueStore, x.playback, x.ingress, x.lanes, x.mgmt, x.faults, x.image, x.pending,
    x.freeCount))
  simp only [Prod.mk.injEq] at key
  unfold State.releaseZones; simp [key]

@[simp] theorem State.dropLayers_frame (s : State) (k : Nat) :
    (s.dropLayers k).time = s.time ∧ (s.dropLayers k).calendar = s.calendar ∧ (s.dropLayers k).cueStore = s.cueStore
    ∧ (s.dropLayers k).playback = s.playback ∧ (s.dropLayers k).ingress = s.ingress ∧ (s.dropLayers k).lanes =
    s.lanes ∧ (s.dropLayers k).mgmt = s.mgmt ∧ (s.dropLayers k).faults = s.faults ∧ (s.dropLayers k).image = s.image
    ∧ (s.dropLayers k).pending = s.pending ∧ (s.dropLayers k).freeCount = s.freeCount := by
  have key := foldl_keeps (β := Nat) (fun x : State =>
    (x.time, x.calendar, x.cueStore, x.playback, x.ingress, x.lanes, x.mgmt, x.faults, x.image, x.pending,
    x.freeCount))
  simp only [Prod.mk.injEq] at key
  unfold State.dropLayers; simp [key]

@[simp] theorem State.settleZone_frame (s : State) (z : Nat) :
    (s.settleZone z).time = s.time ∧ (s.settleZone z).calendar = s.calendar ∧ (s.settleZone z).cueStore = s.cueStore ∧
    (s.settleZone z).playback = s.playback ∧ (s.settleZone z).ingress = s.ingress ∧ (s.settleZone z).lanes = s.lanes ∧
    (s.settleZone z).mgmt = s.mgmt ∧ (s.settleZone z).faults = s.faults ∧ (s.settleZone z).image = s.image ∧
    (s.settleZone z).pending = s.pending ∧ (s.settleZone z).freeCount = s.freeCount := by
  generalize h : s.settleZone z = t; dsimp only [State.settleZone] at h; (repeat' split at h) <;> subst h <;> simp

@[simp] theorem State.settleHandovers_frame (s : State) (made : List Nat) :
    (s.settleHandovers made).time = s.time ∧ (s.settleHandovers made).calendar = s.calendar ∧
    (s.settleHandovers made).cueStore = s.cueStore ∧ (s.settleHandovers made).playback = s.playback ∧
    (s.settleHandovers made).ingress = s.ingress ∧ (s.settleHandovers made).lanes = s.lanes ∧
    (s.settleHandovers made).mgmt = s.mgmt ∧ (s.settleHandovers made).faults = s.faults ∧
    (s.settleHandovers made).image = s.image ∧ (s.settleHandovers made).pending = s.pending ∧
    (s.settleHandovers made).freeCount = s.freeCount := by
  have key := foldl_keeps (β := Nat) (fun x : State =>
    (x.time, x.calendar, x.cueStore, x.playback, x.ingress, x.lanes, x.mgmt, x.faults, x.image, x.pending,
    x.freeCount))
  simp only [Prod.mk.injEq] at key
  unfold State.settleHandovers; simp [key]

@[simp] theorem State.mapLayers_frame (s : State) (f : Nat → Layer → Layer) :
    (s.mapLayers f).time = s.time ∧ (s.mapLayers f).calendar = s.calendar ∧ (s.mapLayers f).cueStore = s.cueStore ∧
    (s.mapLayers f).playback = s.playback ∧ (s.mapLayers f).ingress = s.ingress ∧ (s.mapLayers f).lanes = s.lanes ∧
    (s.mapLayers f).mgmt = s.mgmt ∧ (s.mapLayers f).faults = s.faults ∧ (s.mapLayers f).image = s.image ∧
    (s.mapLayers f).pending = s.pending ∧ (s.mapLayers f).freeCount = s.freeCount := by
  unfold State.mapLayers; simp

@[simp] theorem State.sourceLoss_frame (s : State) (i : Nat) :
    (s.sourceLoss i).time = s.time ∧ (s.sourceLoss i).calendar = s.calendar ∧ (s.sourceLoss i).cueStore = s.cueStore
    ∧ (s.sourceLoss i).playback = s.playback ∧ (s.sourceLoss i).ingress = s.ingress ∧ (s.sourceLoss i).lanes =
    s.lanes ∧ (s.sourceLoss i).mgmt = s.mgmt ∧ (s.sourceLoss i).faults = s.faults ∧ (s.sourceLoss i).image = s.image
    ∧ (s.sourceLoss i).pending = s.pending ∧ (s.sourceLoss i).freeCount = s.freeCount := by
  unfold State.sourceLoss; simp

@[simp] theorem State.sourceReturn_frame (s : State) (i : Nat) :
    (s.sourceReturn i).time = s.time ∧ (s.sourceReturn i).calendar = s.calendar ∧ (s.sourceReturn i).cueStore =
    s.cueStore ∧ (s.sourceReturn i).playback = s.playback ∧ (s.sourceReturn i).ingress = s.ingress ∧ (s.sourceReturn
    i).lanes = s.lanes ∧ (s.sourceReturn i).mgmt = s.mgmt ∧ (s.sourceReturn i).faults = s.faults ∧ (s.sourceReturn
    i).image = s.image ∧ (s.sourceReturn i).pending = s.pending ∧ (s.sourceReturn i).freeCount = s.freeCount := by
  unfold State.sourceReturn; simp

@[simp] theorem State.setHouseLooks_frame (s : State) (z n : Nat) (l : Look) :
    (s.setHouseLooks z n l).time = s.time ∧ (s.setHouseLooks z n l).calendar = s.calendar ∧ (s.setHouseLooks z n
    l).cueStore = s.cueStore ∧ (s.setHouseLooks z n l).playback = s.playback ∧ (s.setHouseLooks z n l).ingress =
    s.ingress ∧ (s.setHouseLooks z n l).lanes = s.lanes ∧ (s.setHouseLooks z n l).mgmt = s.mgmt ∧ (s.setHouseLooks z
    n l).faults = s.faults ∧ (s.setHouseLooks z n l).image = s.image ∧ (s.setHouseLooks z n l).pending = s.pending ∧
    (s.setHouseLooks z n l).freeCount = s.freeCount := by
  have key := foldl_keeps (β := Nat) (fun x : State =>
    (x.time, x.calendar, x.cueStore, x.playback, x.ingress, x.lanes, x.mgmt, x.faults, x.image, x.pending,
    x.freeCount))
  simp only [Prod.mk.injEq] at key
  unfold State.setHouseLooks; simp [key]

@[simp] theorem State.setWaiting_frame (s : State) (l : Nat) (w : Option Waiting) :
    (s.setWaiting l w).time = s.time ∧ (s.setWaiting l w).calendar = s.calendar ∧ (s.setWaiting l w).cueStore =
    s.cueStore ∧ (s.setWaiting l w).playback = s.playback ∧ (s.setWaiting l w).mixer = s.mixer ∧ (s.setWaiting l
    w).ingress = s.ingress ∧ (s.setWaiting l w).mgmt = s.mgmt ∧ (s.setWaiting l w).faults = s.faults ∧ (s.setWaiting
    l w).image = s.image ∧ (s.setWaiting l w).pending = s.pending ∧ (s.setWaiting l w).freeCount = s.freeCount := by
  unfold State.setWaiting; simp

@[simp] theorem State.placeFrame_frame (s : State) (l : Nat) (f : FixtureFrame) :
    (s.placeFrame l f).time = s.time ∧ (s.placeFrame l f).calendar = s.calendar ∧ (s.placeFrame l f).cueStore =
    s.cueStore ∧ (s.placeFrame l f).playback = s.playback ∧ (s.placeFrame l f).mixer = s.mixer ∧ (s.placeFrame l
    f).ingress = s.ingress ∧ (s.placeFrame l f).mgmt = s.mgmt ∧ (s.placeFrame l f).faults = s.faults ∧ (s.placeFrame
    l f).image = s.image ∧ (s.placeFrame l f).pending = s.pending ∧ (s.placeFrame l f).freeCount = s.freeCount := by
  generalize h : s.placeFrame l f = t; dsimp only [State.placeFrame] at h; (repeat' split at h) <;> subst h <;> simp

@[simp] theorem State.settleSwitch_frame (s : State) :
    (s.settleSwitch).time = s.time ∧ (s.settleSwitch).calendar = s.calendar ∧ (s.settleSwitch).cueStore = s.cueStore
    ∧ (s.settleSwitch).playback = s.playback ∧ (s.settleSwitch).mixer = s.mixer ∧ (s.settleSwitch).ingress =
    s.ingress ∧ (s.settleSwitch).mgmt = s.mgmt ∧ (s.settleSwitch).faults = s.faults ∧ (s.settleSwitch).image =
    s.image ∧ (s.settleSwitch).pending = s.pending ∧ (s.settleSwitch).freeCount = s.freeCount := by
  generalize h : s.settleSwitch = t; dsimp only [State.settleSwitch] at h; (repeat' split at h) <;> subst h <;> simp

@[simp] theorem State.settleGuard_frame (s : State) :
    (s.settleGuard).time = s.time ∧ (s.settleGuard).calendar = s.calendar ∧ (s.settleGuard).cueStore = s.cueStore ∧
    (s.settleGuard).playback = s.playback ∧ (s.settleGuard).mixer = s.mixer ∧ (s.settleGuard).ingress = s.ingress ∧
    (s.settleGuard).mgmt = s.mgmt ∧ (s.settleGuard).faults = s.faults ∧ (s.settleGuard).image = s.image ∧
    (s.settleGuard).pending = s.pending ∧ (s.settleGuard).freeCount = s.freeCount := by
  generalize h : s.settleGuard = t; dsimp only [State.settleGuard] at h; (repeat' split at h) <;> subst h <;> simp

@[simp] theorem State.settleLanes_frame (s : State) :
    (s.settleLanes).time = s.time ∧ (s.settleLanes).calendar = s.calendar ∧ (s.settleLanes).cueStore = s.cueStore ∧
    (s.settleLanes).playback = s.playback ∧ (s.settleLanes).mixer = s.mixer ∧ (s.settleLanes).ingress = s.ingress ∧
    (s.settleLanes).mgmt = s.mgmt ∧ (s.settleLanes).faults = s.faults ∧ (s.settleLanes).image = s.image ∧
    (s.settleLanes).pending = s.pending ∧ (s.settleLanes).freeCount = s.freeCount := by
  unfold State.settleLanes; simp

@[simp] theorem State.adoptLane_frame (s : State) (l : Nat) :
    (s.adoptLane l).time = s.time ∧ (s.adoptLane l).calendar = s.calendar ∧ (s.adoptLane l).cueStore = s.cueStore ∧
    (s.adoptLane l).playback = s.playback ∧ (s.adoptLane l).mixer = s.mixer ∧ (s.adoptLane l).ingress = s.ingress ∧
    (s.adoptLane l).mgmt = s.mgmt ∧ (s.adoptLane l).faults = s.faults ∧ (s.adoptLane l).image = s.image ∧
    (s.adoptLane l).pending = s.pending ∧ (s.adoptLane l).freeCount = s.freeCount := by
  generalize h : s.adoptLane l = t; dsimp only [State.adoptLane] at h; (repeat' split at h) <;> subst h <;> simp

@[simp] theorem State.adoptIdle_frame (s : State) :
    (s.adoptIdle).time = s.time ∧ (s.adoptIdle).calendar = s.calendar ∧ (s.adoptIdle).cueStore = s.cueStore ∧
    (s.adoptIdle).playback = s.playback ∧ (s.adoptIdle).mixer = s.mixer ∧ (s.adoptIdle).ingress = s.ingress ∧
    (s.adoptIdle).mgmt = s.mgmt ∧ (s.adoptIdle).faults = s.faults ∧ (s.adoptIdle).image = s.image ∧
    (s.adoptIdle).pending = s.pending ∧ (s.adoptIdle).freeCount = s.freeCount := by
  have key := foldl_keeps (β := Nat) (fun x : State =>
    (x.time, x.calendar, x.cueStore, x.playback, x.mixer, x.ingress, x.mgmt, x.faults, x.image, x.pending,
    x.freeCount))
  simp only [Prod.mk.injEq] at key
  unfold State.adoptIdle; simp [key]

@[simp] theorem State.toDark_frame (s : State) (l : Nat) (st : LaneState) :
    (s.toDark l st).time = s.time ∧ (s.toDark l st).calendar = s.calendar ∧ (s.toDark l st).cueStore = s.cueStore ∧
    (s.toDark l st).playback = s.playback ∧ (s.toDark l st).mixer = s.mixer ∧ (s.toDark l st).ingress = s.ingress ∧
    (s.toDark l st).mgmt = s.mgmt ∧ (s.toDark l st).faults = s.faults ∧ (s.toDark l st).image = s.image ∧ (s.toDark
    l st).pending = s.pending ∧ (s.toDark l st).freeCount = s.freeCount := by
  unfold State.toDark; simp

@[simp] theorem State.toSetup_frame (s : State) (l : Nat) (cold : Bool) :
    (s.toSetup l cold).time = s.time ∧ (s.toSetup l cold).calendar = s.calendar ∧ (s.toSetup l cold).cueStore =
    s.cueStore ∧ (s.toSetup l cold).playback = s.playback ∧ (s.toSetup l cold).mixer = s.mixer ∧ (s.toSetup l
    cold).ingress = s.ingress ∧ (s.toSetup l cold).mgmt = s.mgmt ∧ (s.toSetup l cold).faults = s.faults ∧ (s.toSetup
    l cold).image = s.image ∧ (s.toSetup l cold).pending = s.pending ∧ (s.toSetup l cold).freeCount = s.freeCount := by
  unfold State.toSetup; simp

@[simp] theorem State.toComposing_frame (s : State) (l : Nat) :
    (s.toComposing l).time = s.time ∧ (s.toComposing l).calendar = s.calendar ∧ (s.toComposing l).cueStore =
    s.cueStore ∧ (s.toComposing l).playback = s.playback ∧ (s.toComposing l).mixer = s.mixer ∧ (s.toComposing
    l).ingress = s.ingress ∧ (s.toComposing l).mgmt = s.mgmt ∧ (s.toComposing l).faults = s.faults ∧ (s.toComposing
    l).image = s.image ∧ (s.toComposing l).pending = s.pending ∧ (s.toComposing l).freeCount = s.freeCount := by
  generalize h : s.toComposing l = t; dsimp only [State.toComposing] at h; (repeat' split at h) <;> subst h <;> simp

@[simp] theorem State.wakeLane_frame (s : State) (l : Nat) :
    (s.wakeLane l).time = s.time ∧ (s.wakeLane l).calendar = s.calendar ∧ (s.wakeLane l).cueStore = s.cueStore ∧
    (s.wakeLane l).playback = s.playback ∧ (s.wakeLane l).mixer = s.mixer ∧ (s.wakeLane l).ingress = s.ingress ∧
    (s.wakeLane l).mgmt = s.mgmt ∧ (s.wakeLane l).faults = s.faults ∧ (s.wakeLane l).image = s.image ∧ (s.wakeLane
    l).pending = s.pending ∧ (s.wakeLane l).freeCount = s.freeCount := by
  generalize h : s.wakeLane l = t; dsimp only [State.wakeLane] at h; (repeat' split at h) <;> subst h <;> simp

@[simp] theorem State.wakeIfResting_frame (s : State) (ls : List Nat) :
    (s.wakeIfResting ls).time = s.time ∧ (s.wakeIfResting ls).calendar = s.calendar ∧ (s.wakeIfResting ls).cueStore
    = s.cueStore ∧ (s.wakeIfResting ls).playback = s.playback ∧ (s.wakeIfResting ls).mixer = s.mixer ∧
    (s.wakeIfResting ls).ingress = s.ingress ∧ (s.wakeIfResting ls).mgmt = s.mgmt ∧ (s.wakeIfResting ls).faults =
    s.faults ∧ (s.wakeIfResting ls).image = s.image ∧ (s.wakeIfResting ls).pending = s.pending ∧ (s.wakeIfResting
    ls).freeCount = s.freeCount := by
  have key := foldl_keeps (β := Nat) (fun x : State =>
    (x.time, x.calendar, x.cueStore, x.playback, x.mixer, x.ingress, x.mgmt, x.faults, x.image, x.pending,
    x.freeCount))
  simp only [Prod.mk.injEq] at key
  unfold State.wakeIfResting; simp [key]

@[simp] theorem State.wakeResting_frame (s : State) :
    (s.wakeResting).time = s.time ∧ (s.wakeResting).calendar = s.calendar ∧ (s.wakeResting).cueStore = s.cueStore ∧
    (s.wakeResting).playback = s.playback ∧ (s.wakeResting).mixer = s.mixer ∧ (s.wakeResting).ingress = s.ingress ∧
    (s.wakeResting).mgmt = s.mgmt ∧ (s.wakeResting).faults = s.faults ∧ (s.wakeResting).image = s.image ∧
    (s.wakeResting).pending = s.pending ∧ (s.wakeResting).freeCount = s.freeCount := by
  unfold State.wakeResting; simp

@[simp] theorem State.wakeGuarded_frame (s : State) :
    (s.wakeGuarded).time = s.time ∧ (s.wakeGuarded).calendar = s.calendar ∧ (s.wakeGuarded).cueStore = s.cueStore ∧
    (s.wakeGuarded).playback = s.playback ∧ (s.wakeGuarded).mixer = s.mixer ∧ (s.wakeGuarded).ingress = s.ingress ∧
    (s.wakeGuarded).mgmt = s.mgmt ∧ (s.wakeGuarded).faults = s.faults ∧ (s.wakeGuarded).image = s.image ∧
    (s.wakeGuarded).pending = s.pending ∧ (s.wakeGuarded).freeCount = s.freeCount := by
  unfold State.wakeGuarded; simp

@[simp] theorem State.restLane_frame (s : State) (l : Nat) :
    (s.restLane l).time = s.time ∧ (s.restLane l).calendar = s.calendar ∧ (s.restLane l).cueStore = s.cueStore ∧
    (s.restLane l).playback = s.playback ∧ (s.restLane l).mixer = s.mixer ∧ (s.restLane l).ingress = s.ingress ∧
    (s.restLane l).mgmt = s.mgmt ∧ (s.restLane l).faults = s.faults ∧ (s.restLane l).image = s.image ∧ (s.restLane
    l).pending = s.pending ∧ (s.restLane l).freeCount = s.freeCount := by
  generalize h : s.restLane l = t; dsimp only [State.restLane] at h; (repeat' split at h) <;> subst h <;> simp

@[simp] theorem State.restEach_frame (s : State) (ls : List Nat) :
    (s.restEach ls).time = s.time ∧ (s.restEach ls).calendar = s.calendar ∧ (s.restEach ls).cueStore = s.cueStore ∧
    (s.restEach ls).playback = s.playback ∧ (s.restEach ls).mixer = s.mixer ∧ (s.restEach ls).ingress = s.ingress ∧
    (s.restEach ls).mgmt = s.mgmt ∧ (s.restEach ls).faults = s.faults ∧ (s.restEach ls).image = s.image ∧
    (s.restEach ls).pending = s.pending ∧ (s.restEach ls).freeCount = s.freeCount := by
  have key := foldl_keeps (β := Nat) (fun x : State =>
    (x.time, x.calendar, x.cueStore, x.playback, x.mixer, x.ingress, x.mgmt, x.faults, x.image, x.pending,
    x.freeCount))
  simp only [Prod.mk.injEq] at key
  unfold State.restEach; simp [key]

@[simp] theorem State.composeFrame_frame (s : State) (l : Nat) :
    (s.composeFrame l).time = s.time ∧ (s.composeFrame l).calendar = s.calendar ∧ (s.composeFrame l).cueStore =
    s.cueStore ∧ (s.composeFrame l).playback = s.playback ∧ (s.composeFrame l).mixer = s.mixer ∧ (s.composeFrame
    l).ingress = s.ingress ∧ (s.composeFrame l).mgmt = s.mgmt ∧ (s.composeFrame l).faults = s.faults ∧
    (s.composeFrame l).image = s.image ∧ (s.composeFrame l).pending = s.pending ∧ (s.composeFrame l).freeCount =
    s.freeCount := by
  generalize h : s.composeFrame l = t; dsimp only [State.composeFrame] at h; (repeat' split at h) <;> subst h <;> simp

@[simp] theorem State.resetLane_frame (s : State) (l : Nat) :
    (s.resetLane l).time = s.time ∧ (s.resetLane l).calendar = s.calendar ∧ (s.resetLane l).cueStore = s.cueStore ∧
    (s.resetLane l).playback = s.playback ∧ (s.resetLane l).mixer = s.mixer ∧ (s.resetLane l).ingress = s.ingress ∧
    (s.resetLane l).mgmt = s.mgmt ∧ (s.resetLane l).faults = s.faults ∧ (s.resetLane l).image = s.image ∧
    (s.resetLane l).pending = s.pending ∧ (s.resetLane l).freeCount = s.freeCount := by
  generalize h : s.resetLane l = t; dsimp only [State.resetLane] at h; (repeat' split at h) <;> subst h <;> simp

@[simp] theorem State.blockResetLanes_frame (s : State) :
    (s.blockResetLanes).time = s.time ∧ (s.blockResetLanes).calendar = s.calendar ∧ (s.blockResetLanes).cueStore =
    s.cueStore ∧ (s.blockResetLanes).playback = s.playback ∧ (s.blockResetLanes).mixer = s.mixer ∧
    (s.blockResetLanes).ingress = s.ingress ∧ (s.blockResetLanes).mgmt = s.mgmt ∧ (s.blockResetLanes).faults =
    s.faults ∧ (s.blockResetLanes).image = s.image ∧ (s.blockResetLanes).pending = s.pending ∧
    (s.blockResetLanes).freeCount = s.freeCount := by
  have key := foldl_keeps (β := Nat) (fun x : State =>
    (x.time, x.calendar, x.cueStore, x.playback, x.mixer, x.ingress, x.mgmt, x.faults, x.image, x.pending,
    x.freeCount))
  simp only [Prod.mk.injEq] at key
  generalize h : s.blockResetLanes = t; dsimp only [State.blockResetLanes] at h; split at h <;> subst h <;> simp [key]

@[simp] theorem State.allocateShow_frame (s : State) (sh base n : Nat) :
    (s.allocateShow sh base n).time = s.time ∧ (s.allocateShow sh base n).calendar = s.calendar ∧ (s.allocateShow sh
    base n).playback = s.playback ∧ (s.allocateShow sh base n).mixer = s.mixer ∧ (s.allocateShow sh base n).ingress
    = s.ingress ∧ (s.allocateShow sh base n).lanes = s.lanes ∧ (s.allocateShow sh base n).mgmt = s.mgmt ∧
    (s.allocateShow sh base n).faults = s.faults ∧ (s.allocateShow sh base n).image = s.image ∧ (s.allocateShow sh
    base n).pending = s.pending ∧ (s.allocateShow sh base n).freeCount = s.freeCount := by
  unfold State.allocateShow; simp

@[simp] theorem State.writeCueRecords_frame (s : State) (i : Nat) (rs : List CueRecord) :
    (s.writeCueRecords i rs).time = s.time ∧ (s.writeCueRecords i rs).calendar = s.calendar ∧ (s.writeCueRecords i
    rs).playback = s.playback ∧ (s.writeCueRecords i rs).mixer = s.mixer ∧ (s.writeCueRecords i rs).ingress =
    s.ingress ∧ (s.writeCueRecords i rs).lanes = s.lanes ∧ (s.writeCueRecords i rs).mgmt = s.mgmt ∧
    (s.writeCueRecords i rs).faults = s.faults ∧ (s.writeCueRecords i rs).image = s.image ∧ (s.writeCueRecords i
    rs).pending = s.pending ∧ (s.writeCueRecords i rs).freeCount = s.freeCount := by
  unfold State.writeCueRecords; simp

@[simp] theorem State.slotStarted_frame (s : State) (sh : Nat) :
    (s.slotStarted sh).time = s.time ∧ (s.slotStarted sh).calendar = s.calendar ∧ (s.slotStarted sh).playback =
    s.playback ∧ (s.slotStarted sh).mixer = s.mixer ∧ (s.slotStarted sh).ingress = s.ingress ∧ (s.slotStarted
    sh).lanes = s.lanes ∧ (s.slotStarted sh).mgmt = s.mgmt ∧ (s.slotStarted sh).faults = s.faults ∧ (s.slotStarted
    sh).image = s.image ∧ (s.slotStarted sh).pending = s.pending ∧ (s.slotStarted sh).freeCount = s.freeCount := by
  unfold State.slotStarted; simp

@[simp] theorem State.slotFreed_frame (s : State) (sh : Nat) :
    (s.slotFreed sh).time = s.time ∧ (s.slotFreed sh).calendar = s.calendar ∧ (s.slotFreed sh).playback = s.playback
    ∧ (s.slotFreed sh).mixer = s.mixer ∧ (s.slotFreed sh).ingress = s.ingress ∧ (s.slotFreed sh).lanes = s.lanes ∧
    (s.slotFreed sh).mgmt = s.mgmt ∧ (s.slotFreed sh).faults = s.faults ∧ (s.slotFreed sh).image = s.image ∧
    (s.slotFreed sh).pending = s.pending ∧ (s.slotFreed sh).freeCount = s.freeCount := by
  unfold State.slotFreed; simp

@[simp] theorem State.allFreeEvent_frame (s : State) :
    (s.allFreeEvent).time = s.time ∧ (s.allFreeEvent).cueStore = s.cueStore ∧ (s.allFreeEvent).playback = s.playback
    ∧ (s.allFreeEvent).mixer = s.mixer ∧ (s.allFreeEvent).ingress = s.ingress ∧ (s.allFreeEvent).lanes = s.lanes ∧
    (s.allFreeEvent).mgmt = s.mgmt ∧ (s.allFreeEvent).faults = s.faults ∧ (s.allFreeEvent).image = s.image ∧
    (s.allFreeEvent).pending = s.pending ∧ (s.allFreeEvent).freeCount = s.freeCount := by
  generalize h : s.allFreeEvent = t; dsimp only [State.allFreeEvent] at h; (repeat' split at h) <;> subst h <;> simp

@[simp] theorem State.release_frame (s : State) (k : Nat) :
    (s.release k).time = s.time ∧ (s.release k).ingress = s.ingress ∧ (s.release k).lanes = s.lanes ∧ (s.release
    k).mgmt = s.mgmt ∧ (s.release k).faults = s.faults ∧ (s.release k).image = s.image ∧ (s.release k).pending =
    s.pending ∧ (s.release k).freeCount = s.freeCount := by
  generalize h : s.release k = t; dsimp only [State.release] at h; (repeat' split at h) <;> subst h <;> simp

@[simp] theorem State.endSlot_frame (s : State) (k : Nat) (p : Playback) (d : Int) (fade : Nat) :
    (s.endSlot k p d fade).time = s.time ∧ (s.endSlot k p d fade).ingress = s.ingress ∧ (s.endSlot k p d fade).lanes
    = s.lanes ∧ (s.endSlot k p d fade).mgmt = s.mgmt ∧ (s.endSlot k p d fade).faults = s.faults ∧ (s.endSlot k p d
    fade).image = s.image ∧ (s.endSlot k p d fade).pending = s.pending ∧ (s.endSlot k p d fade).freeCount =
    s.freeCount := by
  generalize h : s.endSlot k p d fade = t; dsimp only [State.endSlot] at h; (repeat' split at h) <;> subst h <;> simp

@[simp] theorem State.holdSlot_frame (s : State) (k : Nat) (p : Playback) (d : Int) (limit : Nat) :
    (s.holdSlot k p d limit).time = s.time ∧ (s.holdSlot k p d limit).calendar = s.calendar ∧ (s.holdSlot k p d
    limit).cueStore = s.cueStore ∧ (s.holdSlot k p d limit).mixer = s.mixer ∧ (s.holdSlot k p d limit).ingress =
    s.ingress ∧ (s.holdSlot k p d limit).lanes = s.lanes ∧ (s.holdSlot k p d limit).mgmt = s.mgmt ∧ (s.holdSlot k p
    d limit).faults = s.faults ∧ (s.holdSlot k p d limit).image = s.image ∧ (s.holdSlot k p d limit).pending =
    s.pending ∧ (s.holdSlot k p d limit).freeCount = s.freeCount := by
  generalize h : s.holdSlot k p d limit = t; dsimp only [State.holdSlot] at h; (repeat' split at h) <;> subst h <;> simp

@[simp] theorem State.executeCue_frame (s : State) (k : Nat) (p : Playback) (d : Int) (c : Cue) :
    (s.executeCue k p d c).time = s.time ∧ (s.executeCue k p d c).ingress = s.ingress ∧ (s.executeCue k p d c).lanes
    = s.lanes ∧ (s.executeCue k p d c).mgmt = s.mgmt ∧ (s.executeCue k p d c).faults = s.faults ∧ (s.executeCue k p
    d c).image = s.image ∧ (s.executeCue k p d c).pending = s.pending ∧ (s.executeCue k p d c).freeCount =
    s.freeCount := by
  generalize h : s.executeCue k p d c = t; dsimp only [State.executeCue] at h; (repeat' split at h) <;> subst h <;> simp

@[simp] theorem runCues_frame (n k : Nat) (made : List Nat) (s : State) :
    (runCues n k made s).1.time = s.time ∧ (runCues n k made s).1.ingress = s.ingress ∧
    (runCues n k made s).1.lanes = s.lanes ∧ (runCues n k made s).1.mgmt = s.mgmt ∧
    (runCues n k made s).1.faults = s.faults ∧ (runCues n k made s).1.image = s.image ∧
    (runCues n k made s).1.pending = s.pending ∧ (runCues n k made s).1.freeCount = s.freeCount := by
  induction n generalizing s made with
  | zero => simp [runCues]
  | succ n ih => simp only [runCues]; (repeat' split) <;> simp [ih]

@[simp] theorem State.cueExecution_frame (s : State) (k : Nat) :
    (s.cueExecution k).time = s.time ∧ (s.cueExecution k).ingress = s.ingress ∧ (s.cueExecution k).lanes = s.lanes ∧
    (s.cueExecution k).mgmt = s.mgmt ∧ (s.cueExecution k).faults = s.faults ∧ (s.cueExecution k).image = s.image ∧
    (s.cueExecution k).pending = s.pending ∧ (s.cueExecution k).freeCount = s.freeCount := by
  generalize h : s.cueExecution k = t; dsimp only [State.cueExecution] at h; (repeat' split at h) <;> subst h <;> simp

@[simp] theorem State.resumeSlot_frame (s : State) (k : Nat) (p : Playback) (a r : Int) :
    (s.resumeSlot k p a r).time = s.time ∧ (s.resumeSlot k p a r).ingress = s.ingress ∧ (s.resumeSlot k p a r).lanes
    = s.lanes ∧ (s.resumeSlot k p a r).mgmt = s.mgmt ∧ (s.resumeSlot k p a r).faults = s.faults ∧ (s.resumeSlot k p
    a r).image = s.image ∧ (s.resumeSlot k p a r).pending = s.pending ∧ (s.resumeSlot k p a r).freeCount =
    s.freeCount := by
  unfold State.resumeSlot; simp

@[simp] theorem State.startInSlot_frame (s : State) (k : Nat) (q : StartRequest) :
    (s.startInSlot k q).time = s.time ∧ (s.startInSlot k q).ingress = s.ingress ∧ (s.startInSlot k q).mgmt = s.mgmt
    ∧ (s.startInSlot k q).faults = s.faults ∧ (s.startInSlot k q).image = s.image ∧ (s.startInSlot k q).pending =
    s.pending ∧ (s.startInSlot k q).freeCount = s.freeCount := by
  unfold State.startInSlot; simp

@[simp] theorem State.placeStart_frame (s : State) (q : StartRequest) :
    (s.placeStart q).time = s.time ∧ (s.placeStart q).ingress = s.ingress ∧ (s.placeStart q).image = s.image ∧
    (s.placeStart q).pending = s.pending ∧ (s.placeStart q).freeCount = s.freeCount ∧ (s.placeStart q).mgmt.requests
    = s.mgmt.requests ∧ (s.placeStart q).mgmt.replyReserved = s.mgmt.replyReserved ∧ (s.placeStart q).mgmt.line =
    s.mgmt.line ∧ (s.placeStart q).mgmt.settings = s.mgmt.settings ∧ (s.placeStart q).mgmt.pendingNode =
    s.mgmt.pendingNode ∧ (s.placeStart q).mgmt.restartPending = s.mgmt.restartPending := by
  generalize h : s.placeStart q = t; dsimp only [State.placeStart] at h; (repeat' split at h) <;> subst h <;> simp

@[simp] theorem State.calendarStart_frame (s : State) (it : AgendaItem) (n : Nat) :
    (s.calendarStart it n).time = s.time ∧ (s.calendarStart it n).ingress = s.ingress ∧ (s.calendarStart it n).image
    = s.image ∧ (s.calendarStart it n).pending = s.pending ∧ (s.calendarStart it n).freeCount = s.freeCount ∧
    (s.calendarStart it n).mgmt.requests = s.mgmt.requests ∧ (s.calendarStart it n).mgmt.replyReserved =
    s.mgmt.replyReserved ∧ (s.calendarStart it n).mgmt.line = s.mgmt.line ∧ (s.calendarStart it n).mgmt.settings =
    s.mgmt.settings ∧ (s.calendarStart it n).mgmt.pendingNode = s.mgmt.pendingNode ∧ (s.calendarStart it
    n).mgmt.restartPending = s.mgmt.restartPending := by
  generalize h : s.calendarStart it n = t; dsimp only [State.calendarStart] at h; (repeat' split at h) <;> subst h <;> simp

@[simp] theorem State.blockResetPlayback_frame (s : State) :
    (s.blockResetPlayback).time = s.time ∧ (s.blockResetPlayback).ingress = s.ingress ∧ (s.blockResetPlayback).lanes
    = s.lanes ∧ (s.blockResetPlayback).mgmt = s.mgmt ∧ (s.blockResetPlayback).faults = s.faults ∧
    (s.blockResetPlayback).image = s.image ∧ (s.blockResetPlayback).pending = s.pending ∧
    (s.blockResetPlayback).freeCount = s.freeCount := by
  have key := foldl_keeps (β := Nat) (fun x : State =>
    (x.time, x.ingress, x.lanes, x.mgmt, x.faults, x.image, x.pending, x.freeCount))
  simp only [Prod.mk.injEq] at key
  unfold State.blockResetPlayback; simp [key]

@[simp] theorem State.recomputeWake_frame (s : State) :
    (s.recomputeWake).time = s.time ∧ (s.recomputeWake).cueStore = s.cueStore ∧ (s.recomputeWake).playback =
    s.playback ∧ (s.recomputeWake).mixer = s.mixer ∧ (s.recomputeWake).ingress = s.ingress ∧ (s.recomputeWake).lanes
    = s.lanes ∧ (s.recomputeWake).mgmt = s.mgmt ∧ (s.recomputeWake).faults = s.faults ∧ (s.recomputeWake).image =
    s.image ∧ (s.recomputeWake).pending = s.pending ∧ (s.recomputeWake).freeCount = s.freeCount := by
  unfold State.recomputeWake; simp

@[simp] theorem State.recomputeIfHead_frame (s : State) (x : Option (Nat × TowerTime × Nat × Nat)) :
    (s.recomputeIfHead x).time = s.time ∧ (s.recomputeIfHead x).cueStore = s.cueStore ∧ (s.recomputeIfHead
    x).playback = s.playback ∧ (s.recomputeIfHead x).mixer = s.mixer ∧ (s.recomputeIfHead x).ingress = s.ingress ∧
    (s.recomputeIfHead x).lanes = s.lanes ∧ (s.recomputeIfHead x).mgmt = s.mgmt ∧ (s.recomputeIfHead x).faults =
    s.faults ∧ (s.recomputeIfHead x).image = s.image ∧ (s.recomputeIfHead x).pending = s.pending ∧
    (s.recomputeIfHead x).freeCount = s.freeCount := by
  generalize h : s.recomputeIfHead x = t; dsimp only [State.recomputeIfHead] at h; (repeat' split at h) <;> subst h <;> simp

@[simp] theorem State.beginBuild_frame (s : State) (g : Granularity) :
    (s.beginBuild g).time = s.time ∧ (s.beginBuild g).cueStore = s.cueStore ∧ (s.beginBuild g).playback = s.playback
    ∧ (s.beginBuild g).mixer = s.mixer ∧ (s.beginBuild g).ingress = s.ingress ∧ (s.beginBuild g).lanes = s.lanes ∧
    (s.beginBuild g).mgmt = s.mgmt ∧ (s.beginBuild g).faults = s.faults ∧ (s.beginBuild g).image = s.image ∧
    (s.beginBuild g).pending = s.pending ∧ (s.beginBuild g).freeCount = s.freeCount := by
  generalize h : s.beginBuild g = t; dsimp only [State.beginBuild] at h; (repeat' split at h) <;> subst h <;> simp

@[simp] theorem State.rebuildRequest_frame (s : State) (g : Granularity) :
    (s.rebuildRequest g).time = s.time ∧ (s.rebuildRequest g).cueStore = s.cueStore ∧ (s.rebuildRequest g).playback
    = s.playback ∧ (s.rebuildRequest g).mixer = s.mixer ∧ (s.rebuildRequest g).ingress = s.ingress ∧
    (s.rebuildRequest g).lanes = s.lanes ∧ (s.rebuildRequest g).mgmt = s.mgmt ∧ (s.rebuildRequest g).faults =
    s.faults ∧ (s.rebuildRequest g).image = s.image ∧ (s.rebuildRequest g).pending = s.pending ∧ (s.rebuildRequest
    g).freeCount = s.freeCount := by
  generalize h : s.rebuildRequest g = t; dsimp only [State.rebuildRequest] at h; (repeat' split at h) <;> subst h <;> simp

@[simp] theorem State.fireEntry_frame (s : State) (it : AgendaItem) :
    (s.fireEntry it).time = s.time ∧ (s.fireEntry it).cueStore = s.cueStore ∧ (s.fireEntry it).playback = s.playback
    ∧ (s.fireEntry it).mixer = s.mixer ∧ (s.fireEntry it).ingress = s.ingress ∧ (s.fireEntry it).lanes = s.lanes ∧
    (s.fireEntry it).mgmt = s.mgmt ∧ (s.fireEntry it).faults = s.faults ∧ (s.fireEntry it).image = s.image ∧
    (s.fireEntry it).pending = s.pending ∧ (s.fireEntry it).freeCount = s.freeCount := by
  generalize h : s.fireEntry it = t; dsimp only [State.fireEntry] at h; (repeat' split at h) <;> subst h <;> simp

@[simp] theorem State.offerStart_frame (s : State) (it : AgendaItem) (n : Nat) :
    (s.offerStart it n).time = s.time ∧ (s.offerStart it n).ingress = s.ingress ∧ (s.offerStart it n).image =
    s.image ∧ (s.offerStart it n).pending = s.pending ∧ (s.offerStart it n).freeCount = s.freeCount ∧ (s.offerStart
    it n).mgmt.requests = s.mgmt.requests ∧ (s.offerStart it n).mgmt.replyReserved = s.mgmt.replyReserved ∧
    (s.offerStart it n).mgmt.line = s.mgmt.line ∧ (s.offerStart it n).mgmt.settings = s.mgmt.settings ∧
    (s.offerStart it n).mgmt.pendingNode = s.mgmt.pendingNode ∧ (s.offerStart it n).mgmt.restartPending =
    s.mgmt.restartPending := by
  generalize h : s.offerStart it n = t; dsimp only [State.offerStart] at h; (repeat' split at h) <;> subst h <;> simp

@[simp] theorem State.fireItem_frame (s : State) (it : AgendaItem) :
    (s.fireItem it).time = s.time ∧ (s.fireItem it).ingress = s.ingress ∧ (s.fireItem it).image = s.image ∧
    (s.fireItem it).pending = s.pending ∧ (s.fireItem it).freeCount = s.freeCount ∧ (s.fireItem it).mgmt.requests =
    s.mgmt.requests ∧ (s.fireItem it).mgmt.replyReserved = s.mgmt.replyReserved ∧ (s.fireItem it).mgmt.line =
    s.mgmt.line ∧ (s.fireItem it).mgmt.settings = s.mgmt.settings ∧ (s.fireItem it).mgmt.pendingNode =
    s.mgmt.pendingNode ∧ (s.fireItem it).mgmt.restartPending = s.mgmt.restartPending := by
  generalize h : s.fireItem it = t; dsimp only [State.fireItem] at h; (repeat' split at h) <;> subst h <;> simp

@[simp] theorem State.fireItems_frame (s : State) (l : List AgendaItem) :
    (s.fireItems l).time = s.time ∧ (s.fireItems l).ingress = s.ingress ∧ (s.fireItems l).image = s.image ∧
    (s.fireItems l).pending = s.pending ∧ (s.fireItems l).freeCount = s.freeCount ∧ (s.fireItems l).mgmt.requests =
    s.mgmt.requests ∧ (s.fireItems l).mgmt.replyReserved = s.mgmt.replyReserved ∧ (s.fireItems l).mgmt.line =
    s.mgmt.line ∧ (s.fireItems l).mgmt.settings = s.mgmt.settings ∧ (s.fireItems l).mgmt.pendingNode =
    s.mgmt.pendingNode ∧ (s.fireItems l).mgmt.restartPending = s.mgmt.restartPending := by
  have key := foldl_keeps (β := AgendaItem) (fun x : State =>
    (x.time, x.ingress, x.image, x.pending, x.freeCount, x.mgmt.requests, x.mgmt.replyReserved, x.mgmt.line,
    x.mgmt.settings, x.mgmt.pendingNode, x.mgmt.restartPending))
  simp only [Prod.mk.injEq] at key
  unfold State.fireItems; simp [key]

@[simp] theorem State.installBuild_frame (s : State) (b : Build) :
    (s.installBuild b).time = s.time ∧ (s.installBuild b).cueStore = s.cueStore ∧ (s.installBuild b).playback =
    s.playback ∧ (s.installBuild b).mixer = s.mixer ∧ (s.installBuild b).ingress = s.ingress ∧ (s.installBuild
    b).lanes = s.lanes ∧ (s.installBuild b).image = s.image ∧ (s.installBuild b).pending = s.pending ∧
    (s.installBuild b).freeCount = s.freeCount ∧ (s.installBuild b).mgmt.requests = s.mgmt.requests ∧
    (s.installBuild b).mgmt.replyReserved = s.mgmt.replyReserved ∧ (s.installBuild b).mgmt.line = s.mgmt.line ∧
    (s.installBuild b).mgmt.settings = s.mgmt.settings ∧ (s.installBuild b).mgmt.pendingNode = s.mgmt.pendingNode ∧
    (s.installBuild b).mgmt.restartPending = s.mgmt.restartPending := by
  generalize h : s.installBuild b = t; dsimp only [State.installBuild] at h; (repeat' split at h) <;> subst h <;> simp

@[simp] theorem State.firePast_frame (s : State) :
    (s.firePast).time = s.time ∧ (s.firePast).ingress = s.ingress ∧ (s.firePast).image = s.image ∧
    (s.firePast).pending = s.pending ∧ (s.firePast).freeCount = s.freeCount ∧ (s.firePast).mgmt.requests =
    s.mgmt.requests ∧ (s.firePast).mgmt.replyReserved = s.mgmt.replyReserved ∧ (s.firePast).mgmt.line = s.mgmt.line
    ∧ (s.firePast).mgmt.settings = s.mgmt.settings ∧ (s.firePast).mgmt.pendingNode = s.mgmt.pendingNode ∧
    (s.firePast).mgmt.restartPending = s.mgmt.restartPending := by
  generalize h : s.firePast = t; dsimp only [State.firePast] at h; (repeat' split at h) <;> subst h <;> simp

@[simp] theorem State.nextBuild_frame (s : State) (p : Option Granularity) :
    (s.nextBuild p).time = s.time ∧ (s.nextBuild p).cueStore = s.cueStore ∧ (s.nextBuild p).playback = s.playback ∧
    (s.nextBuild p).mixer = s.mixer ∧ (s.nextBuild p).ingress = s.ingress ∧ (s.nextBuild p).lanes = s.lanes ∧
    (s.nextBuild p).mgmt = s.mgmt ∧ (s.nextBuild p).faults = s.faults ∧ (s.nextBuild p).image = s.image ∧
    (s.nextBuild p).pending = s.pending ∧ (s.nextBuild p).freeCount = s.freeCount := by
  generalize h : s.nextBuild p = t; dsimp only [State.nextBuild] at h; (repeat' split at h) <;> subst h <;> simp

@[simp] theorem State.completeBuild_frame (s : State) (b : Build) (p : Option Granularity) :
    (s.completeBuild b p).time = s.time ∧ (s.completeBuild b p).ingress = s.ingress ∧ (s.completeBuild b p).image =
    s.image ∧ (s.completeBuild b p).pending = s.pending ∧ (s.completeBuild b p).freeCount = s.freeCount ∧
    (s.completeBuild b p).mgmt.requests = s.mgmt.requests ∧ (s.completeBuild b p).mgmt.replyReserved =
    s.mgmt.replyReserved ∧ (s.completeBuild b p).mgmt.line = s.mgmt.line ∧ (s.completeBuild b p).mgmt.settings =
    s.mgmt.settings ∧ (s.completeBuild b p).mgmt.pendingNode = s.mgmt.pendingNode ∧ (s.completeBuild b
    p).mgmt.restartPending = s.mgmt.restartPending := by
  unfold State.completeBuild; simp

@[simp] theorem State.replaceEntry_frame (s : State) (i : Nat) (e : CalendarEntry) :
    (s.replaceEntry i e).time = s.time ∧ (s.replaceEntry i e).cueStore = s.cueStore ∧ (s.replaceEntry i e).playback
    = s.playback ∧ (s.replaceEntry i e).mixer = s.mixer ∧ (s.replaceEntry i e).ingress = s.ingress ∧ (s.replaceEntry
    i e).lanes = s.lanes ∧ (s.replaceEntry i e).mgmt = s.mgmt ∧ (s.replaceEntry i e).faults = s.faults ∧
    (s.replaceEntry i e).image = s.image ∧ (s.replaceEntry i e).pending = s.pending ∧ (s.replaceEntry i e).freeCount
    = s.freeCount := by
  generalize h : s.replaceEntry i e = t; dsimp only [State.replaceEntry] at h; (repeat' split at h) <;> subst h <;> simp

@[simp] theorem State.timeLossEvent_frame (s : State) :
    (s.timeLossEvent).time = s.time ∧ (s.timeLossEvent).cueStore = s.cueStore ∧ (s.timeLossEvent).playback =
    s.playback ∧ (s.timeLossEvent).mixer = s.mixer ∧ (s.timeLossEvent).ingress = s.ingress ∧ (s.timeLossEvent).lanes
    = s.lanes ∧ (s.timeLossEvent).mgmt = s.mgmt ∧ (s.timeLossEvent).faults = s.faults ∧ (s.timeLossEvent).image =
    s.image ∧ (s.timeLossEvent).pending = s.pending ∧ (s.timeLossEvent).freeCount = s.freeCount := by
  unfold State.timeLossEvent; simp

@[simp] theorem State.clockSetEvent_frame (s : State) :
    (s.clockSetEvent).time = s.time ∧ (s.clockSetEvent).cueStore = s.cueStore ∧ (s.clockSetEvent).playback =
    s.playback ∧ (s.clockSetEvent).mixer = s.mixer ∧ (s.clockSetEvent).ingress = s.ingress ∧ (s.clockSetEvent).lanes
    = s.lanes ∧ (s.clockSetEvent).mgmt = s.mgmt ∧ (s.clockSetEvent).faults = s.faults ∧ (s.clockSetEvent).image =
    s.image ∧ (s.clockSetEvent).pending = s.pending ∧ (s.clockSetEvent).freeCount = s.freeCount := by
  unfold State.clockSetEvent; simp

@[simp] theorem State.rebuildIfNewDay_frame (s : State) (a b : TowerTime) :
    (s.rebuildIfNewDay a b).time = s.time ∧ (s.rebuildIfNewDay a b).cueStore = s.cueStore ∧ (s.rebuildIfNewDay a
    b).playback = s.playback ∧ (s.rebuildIfNewDay a b).mixer = s.mixer ∧ (s.rebuildIfNewDay a b).ingress = s.ingress
    ∧ (s.rebuildIfNewDay a b).lanes = s.lanes ∧ (s.rebuildIfNewDay a b).mgmt = s.mgmt ∧ (s.rebuildIfNewDay a
    b).faults = s.faults ∧ (s.rebuildIfNewDay a b).image = s.image ∧ (s.rebuildIfNewDay a b).pending = s.pending ∧
    (s.rebuildIfNewDay a b).freeCount = s.freeCount := by
  generalize h : s.rebuildIfNewDay a b = t; dsimp only [State.rebuildIfNewDay] at h; (repeat' split at h) <;> subst h <;> simp

@[simp] theorem State.timeStepEvent_frame (s : State) (a b : TowerTime) :
    (s.timeStepEvent a b).time = s.time ∧ (s.timeStepEvent a b).ingress = s.ingress ∧ (s.timeStepEvent a b).image =
    s.image ∧ (s.timeStepEvent a b).pending = s.pending ∧ (s.timeStepEvent a b).freeCount = s.freeCount ∧
    (s.timeStepEvent a b).mgmt.requests = s.mgmt.requests ∧ (s.timeStepEvent a b).mgmt.replyReserved =
    s.mgmt.replyReserved ∧ (s.timeStepEvent a b).mgmt.line = s.mgmt.line ∧ (s.timeStepEvent a b).mgmt.settings =
    s.mgmt.settings ∧ (s.timeStepEvent a b).mgmt.pendingNode = s.mgmt.pendingNode ∧ (s.timeStepEvent a
    b).mgmt.restartPending = s.mgmt.restartPending := by
  unfold State.timeStepEvent; simp

@[simp] theorem State.midnightEvent_frame (s : State) :
    (s.midnightEvent).time = s.time ∧ (s.midnightEvent).cueStore = s.cueStore ∧ (s.midnightEvent).playback =
    s.playback ∧ (s.midnightEvent).mixer = s.mixer ∧ (s.midnightEvent).ingress = s.ingress ∧ (s.midnightEvent).lanes
    = s.lanes ∧ (s.midnightEvent).mgmt = s.mgmt ∧ (s.midnightEvent).faults = s.faults ∧ (s.midnightEvent).image =
    s.image ∧ (s.midnightEvent).pending = s.pending ∧ (s.midnightEvent).freeCount = s.freeCount := by
  unfold State.midnightEvent; simp

@[simp] theorem State.blockResetCalendar_frame (s : State) :
    (s.blockResetCalendar).time = s.time ∧ (s.blockResetCalendar).cueStore = s.cueStore ∧
    (s.blockResetCalendar).playback = s.playback ∧ (s.blockResetCalendar).mixer = s.mixer ∧
    (s.blockResetCalendar).ingress = s.ingress ∧ (s.blockResetCalendar).lanes = s.lanes ∧
    (s.blockResetCalendar).mgmt = s.mgmt ∧ (s.blockResetCalendar).faults = s.faults ∧ (s.blockResetCalendar).image =
    s.image ∧ (s.blockResetCalendar).pending = s.pending ∧ (s.blockResetCalendar).freeCount = s.freeCount := by
  unfold State.blockResetCalendar; simp

@[simp] theorem State.countRunClock_frame (s : State) :
    (s.countRunClock).calendar = s.calendar ∧ (s.countRunClock).cueStore = s.cueStore ∧ (s.countRunClock).playback =
    s.playback ∧ (s.countRunClock).mixer = s.mixer ∧ (s.countRunClock).ingress = s.ingress ∧ (s.countRunClock).lanes
    = s.lanes ∧ (s.countRunClock).mgmt = s.mgmt ∧ (s.countRunClock).faults = s.faults ∧ (s.countRunClock).image =
    s.image ∧ (s.countRunClock).pending = s.pending := by
  generalize h : s.countRunClock = t; dsimp only [State.countRunClock] at h; (repeat' split at h) <;> subst h <;> simp

@[simp] theorem State.endOfRange_frame (s : State) :
    (s.endOfRange).cueStore = s.cueStore ∧ (s.endOfRange).playback = s.playback ∧ (s.endOfRange).mixer = s.mixer ∧
    (s.endOfRange).ingress = s.ingress ∧ (s.endOfRange).lanes = s.lanes ∧ (s.endOfRange).image = s.image ∧
    (s.endOfRange).pending = s.pending ∧ (s.endOfRange).freeCount = s.freeCount ∧ (s.endOfRange).mgmt.requests =
    s.mgmt.requests ∧ (s.endOfRange).mgmt.replyReserved = s.mgmt.replyReserved ∧ (s.endOfRange).mgmt.line =
    s.mgmt.line ∧ (s.endOfRange).mgmt.settings = s.mgmt.settings ∧ (s.endOfRange).mgmt.pendingNode =
    s.mgmt.pendingNode ∧ (s.endOfRange).mgmt.restartPending = s.mgmt.restartPending := by
  unfold State.endOfRange; simp

@[simp] theorem State.midnightIfNewDay_frame (s : State) (a b : TowerTime) :
    (s.midnightIfNewDay a b).time = s.time ∧ (s.midnightIfNewDay a b).cueStore = s.cueStore ∧ (s.midnightIfNewDay a
    b).playback = s.playback ∧ (s.midnightIfNewDay a b).mixer = s.mixer ∧ (s.midnightIfNewDay a b).ingress =
    s.ingress ∧ (s.midnightIfNewDay a b).lanes = s.lanes ∧ (s.midnightIfNewDay a b).mgmt = s.mgmt ∧
    (s.midnightIfNewDay a b).faults = s.faults ∧ (s.midnightIfNewDay a b).image = s.image ∧ (s.midnightIfNewDay a
    b).pending = s.pending ∧ (s.midnightIfNewDay a b).freeCount = s.freeCount := by
  generalize h : s.midnightIfNewDay a b = t; dsimp only [State.midnightIfNewDay] at h; (repeat' split at h) <;> subst h <;> simp

@[simp] theorem State.moveTower_frame (s : State) (a b : TowerTime) :
    (s.moveTower a b).cueStore = s.cueStore ∧ (s.moveTower a b).playback = s.playback ∧ (s.moveTower a b).mixer =
    s.mixer ∧ (s.moveTower a b).ingress = s.ingress ∧ (s.moveTower a b).lanes = s.lanes ∧ (s.moveTower a b).mgmt =
    s.mgmt ∧ (s.moveTower a b).faults = s.faults ∧ (s.moveTower a b).image = s.image ∧ (s.moveTower a b).pending =
    s.pending ∧ (s.moveTower a b).freeCount = s.freeCount := by
  unfold State.moveTower; simp

@[simp] theorem State.carryTower_frame (s : State) (a b : TowerTime) :
    (s.carryTower a b).ingress = s.ingress ∧ (s.carryTower a b).image = s.image ∧ (s.carryTower a b).pending =
    s.pending ∧ (s.carryTower a b).freeCount = s.freeCount ∧ (s.carryTower a b).mgmt.requests = s.mgmt.requests ∧
    (s.carryTower a b).mgmt.replyReserved = s.mgmt.replyReserved ∧ (s.carryTower a b).mgmt.line = s.mgmt.line ∧
    (s.carryTower a b).mgmt.settings = s.mgmt.settings ∧ (s.carryTower a b).mgmt.pendingNode = s.mgmt.pendingNode ∧
    (s.carryTower a b).mgmt.restartPending = s.mgmt.restartPending := by
  generalize h : s.carryTower a b = t; dsimp only [State.carryTower] at h; (repeat' split at h) <;> subst h <;> simp

@[simp] theorem State.advanceTower_frame (s : State) :
    (s.advanceTower).ingress = s.ingress ∧ (s.advanceTower).image = s.image ∧ (s.advanceTower).pending = s.pending ∧
    (s.advanceTower).freeCount = s.freeCount ∧ (s.advanceTower).mgmt.requests = s.mgmt.requests ∧
    (s.advanceTower).mgmt.replyReserved = s.mgmt.replyReserved ∧ (s.advanceTower).mgmt.line = s.mgmt.line ∧
    (s.advanceTower).mgmt.settings = s.mgmt.settings ∧ (s.advanceTower).mgmt.pendingNode = s.mgmt.pendingNode ∧
    (s.advanceTower).mgmt.restartPending = s.mgmt.restartPending := by
  unfold State.advanceTower; split <;> simp

@[simp] theorem State.slewOrStep_frame (s : State) (p t : TowerTime) :
    (s.slewOrStep p t).ingress = s.ingress ∧ (s.slewOrStep p t).image = s.image ∧ (s.slewOrStep p t).pending =
    s.pending ∧ (s.slewOrStep p t).freeCount = s.freeCount ∧ (s.slewOrStep p t).mgmt.requests = s.mgmt.requests ∧
    (s.slewOrStep p t).mgmt.replyReserved = s.mgmt.replyReserved ∧ (s.slewOrStep p t).mgmt.line = s.mgmt.line ∧
    (s.slewOrStep p t).mgmt.settings = s.mgmt.settings ∧ (s.slewOrStep p t).mgmt.pendingNode = s.mgmt.pendingNode ∧
    (s.slewOrStep p t).mgmt.restartPending = s.mgmt.restartPending := by
  unfold State.slewOrStep; split <;> simp

@[simp] theorem State.setFromUnset_frame (s : State) (c : TowerClock) :
    (s.setFromUnset c).cueStore = s.cueStore ∧ (s.setFromUnset c).playback = s.playback ∧ (s.setFromUnset c).mixer =
    s.mixer ∧ (s.setFromUnset c).ingress = s.ingress ∧ (s.setFromUnset c).lanes = s.lanes ∧ (s.setFromUnset c).mgmt
    = s.mgmt ∧ (s.setFromUnset c).faults = s.faults ∧ (s.setFromUnset c).image = s.image ∧ (s.setFromUnset
    c).pending = s.pending ∧ (s.setFromUnset c).freeCount = s.freeCount := by
  unfold State.setFromUnset; simp

@[simp] theorem State.malformedTime_frame (s : State) :
    (s.malformedTime).calendar = s.calendar ∧ (s.malformedTime).cueStore = s.cueStore ∧ (s.malformedTime).playback =
    s.playback ∧ (s.malformedTime).mixer = s.mixer ∧ (s.malformedTime).ingress = s.ingress ∧ (s.malformedTime).lanes
    = s.lanes ∧ (s.malformedTime).mgmt = s.mgmt ∧ (s.malformedTime).faults = s.faults ∧ (s.malformedTime).image =
    s.image ∧ (s.malformedTime).pending = s.pending ∧ (s.malformedTime).freeCount = s.freeCount := by
  unfold State.malformedTime; simp

@[simp] theorem State.rejectEarly_frame (s : State) :
    (s.rejectEarly).calendar = s.calendar ∧ (s.rejectEarly).cueStore = s.cueStore ∧ (s.rejectEarly).playback =
    s.playback ∧ (s.rejectEarly).mixer = s.mixer ∧ (s.rejectEarly).ingress = s.ingress ∧ (s.rejectEarly).lanes =
    s.lanes ∧ (s.rejectEarly).image = s.image ∧ (s.rejectEarly).pending = s.pending ∧ (s.rejectEarly).freeCount =
    s.freeCount ∧ (s.rejectEarly).mgmt.requests = s.mgmt.requests ∧ (s.rejectEarly).mgmt.replyReserved =
    s.mgmt.replyReserved ∧ (s.rejectEarly).mgmt.line = s.mgmt.line ∧ (s.rejectEarly).mgmt.settings = s.mgmt.settings
    ∧ (s.rejectEarly).mgmt.pendingNode = s.mgmt.pendingNode ∧ (s.rejectEarly).mgmt.restartPending =
    s.mgmt.restartPending := by
  generalize h : s.rejectEarly = t; dsimp only [State.rejectEarly] at h; (repeat' split at h) <;> subst h <;> simp

@[simp] theorem State.noteAccepted_frame (s : State) (n : Nat) :
    (s.noteAccepted n).calendar = s.calendar ∧ (s.noteAccepted n).cueStore = s.cueStore ∧ (s.noteAccepted
    n).playback = s.playback ∧ (s.noteAccepted n).mixer = s.mixer ∧ (s.noteAccepted n).ingress = s.ingress ∧
    (s.noteAccepted n).lanes = s.lanes ∧ (s.noteAccepted n).mgmt = s.mgmt ∧ (s.noteAccepted n).faults = s.faults ∧
    (s.noteAccepted n).image = s.image ∧ (s.noteAccepted n).pending = s.pending ∧ (s.noteAccepted n).freeCount =
    s.freeCount := by
  unfold State.noteAccepted; simp

@[simp] theorem State.acceptTime_frame (s : State) (p : TowerTime) (n : Nat) :
    (s.acceptTime p n).ingress = s.ingress ∧ (s.acceptTime p n).image = s.image ∧ (s.acceptTime p n).pending =
    s.pending ∧ (s.acceptTime p n).freeCount = s.freeCount ∧ (s.acceptTime p n).mgmt.requests = s.mgmt.requests ∧
    (s.acceptTime p n).mgmt.replyReserved = s.mgmt.replyReserved ∧ (s.acceptTime p n).mgmt.line = s.mgmt.line ∧
    (s.acceptTime p n).mgmt.settings = s.mgmt.settings ∧ (s.acceptTime p n).mgmt.pendingNode = s.mgmt.pendingNode ∧
    (s.acceptTime p n).mgmt.restartPending = s.mgmt.restartPending := by
  generalize h : s.acceptTime p n = t; dsimp only [State.acceptTime] at h; (repeat' split at h) <;> subst h <;> simp

@[simp] theorem State.deliverTime_frame (s : State) (os : List Octet) :
    (s.deliverTime os).ingress = s.ingress ∧ (s.deliverTime os).image = s.image ∧ (s.deliverTime os).pending =
    s.pending ∧ (s.deliverTime os).freeCount = s.freeCount ∧ (s.deliverTime os).mgmt.requests = s.mgmt.requests ∧
    (s.deliverTime os).mgmt.replyReserved = s.mgmt.replyReserved ∧ (s.deliverTime os).mgmt.line = s.mgmt.line ∧
    (s.deliverTime os).mgmt.settings = s.mgmt.settings ∧ (s.deliverTime os).mgmt.pendingNode = s.mgmt.pendingNode ∧
    (s.deliverTime os).mgmt.restartPending = s.mgmt.restartPending := by
  generalize h : s.deliverTime os = t; dsimp only [State.deliverTime] at h; (repeat' split at h) <;> subst h <;> simp

@[simp] theorem State.blockResetTime_frame (s : State) :
    (s.blockResetTime).cueStore = s.cueStore ∧ (s.blockResetTime).playback = s.playback ∧ (s.blockResetTime).mixer =
    s.mixer ∧ (s.blockResetTime).ingress = s.ingress ∧ (s.blockResetTime).lanes = s.lanes ∧ (s.blockResetTime).mgmt
    = s.mgmt ∧ (s.blockResetTime).faults = s.faults ∧ (s.blockResetTime).image = s.image ∧
    (s.blockResetTime).pending = s.pending ∧ (s.blockResetTime).freeCount = s.freeCount := by
  generalize h : s.blockResetTime = t; dsimp only [State.blockResetTime] at h; (repeat' split at h) <;> subst h <;> simp

@[simp] theorem State.badFrame_frame (s : State) :
    (s.badFrame).time = s.time ∧ (s.badFrame).calendar = s.calendar ∧ (s.badFrame).cueStore = s.cueStore ∧
    (s.badFrame).playback = s.playback ∧ (s.badFrame).mixer = s.mixer ∧ (s.badFrame).lanes = s.lanes ∧
    (s.badFrame).image = s.image ∧ (s.badFrame).pending = s.pending ∧ (s.badFrame).freeCount = s.freeCount ∧
    (s.badFrame).mgmt.requests = s.mgmt.requests ∧ (s.badFrame).mgmt.replyReserved = s.mgmt.replyReserved ∧
    (s.badFrame).mgmt.line = s.mgmt.line ∧ (s.badFrame).mgmt.settings = s.mgmt.settings ∧
    (s.badFrame).mgmt.pendingNode = s.mgmt.pendingNode ∧ (s.badFrame).mgmt.restartPending = s.mgmt.restartPending := by
  generalize h : s.badFrame = t; dsimp only [State.badFrame] at h; (repeat' split at h) <;> subst h <;> simp

@[simp] theorem State.queueFull_frame (s : State) :
    (s.queueFull).time = s.time ∧ (s.queueFull).calendar = s.calendar ∧ (s.queueFull).cueStore = s.cueStore ∧
    (s.queueFull).playback = s.playback ∧ (s.queueFull).mixer = s.mixer ∧ (s.queueFull).lanes = s.lanes ∧
    (s.queueFull).image = s.image ∧ (s.queueFull).pending = s.pending ∧ (s.queueFull).freeCount = s.freeCount ∧
    (s.queueFull).mgmt.requests = s.mgmt.requests ∧ (s.queueFull).mgmt.replyReserved = s.mgmt.replyReserved ∧
    (s.queueFull).mgmt.line = s.mgmt.line ∧ (s.queueFull).mgmt.settings = s.mgmt.settings ∧
    (s.queueFull).mgmt.pendingNode = s.mgmt.pendingNode ∧ (s.queueFull).mgmt.restartPending = s.mgmt.restartPending := by
  generalize h : s.queueFull = t; dsimp only [State.queueFull] at h; (repeat' split at h) <;> subst h <;> simp

@[simp] theorem State.arrive_frame (s : State) (os : List Octet) :
    (s.arrive os).time = s.time ∧ (s.arrive os).calendar = s.calendar ∧ (s.arrive os).cueStore = s.cueStore ∧
    (s.arrive os).playback = s.playback ∧ (s.arrive os).mixer = s.mixer ∧ (s.arrive os).lanes = s.lanes ∧ (s.arrive
    os).image = s.image ∧ (s.arrive os).pending = s.pending ∧ (s.arrive os).freeCount = s.freeCount ∧ (s.arrive
    os).mgmt.requests = s.mgmt.requests ∧ (s.arrive os).mgmt.replyReserved = s.mgmt.replyReserved ∧ (s.arrive
    os).mgmt.line = s.mgmt.line ∧ (s.arrive os).mgmt.settings = s.mgmt.settings ∧ (s.arrive os).mgmt.pendingNode =
    s.mgmt.pendingNode ∧ (s.arrive os).mgmt.restartPending = s.mgmt.restartPending := by
  generalize h : s.arrive os = t; dsimp only [State.arrive] at h; (repeat' split at h) <;> subst h <;> simp

@[simp] theorem State.completeSwitch_frame (s : State) :
    (s.completeSwitch).time = s.time ∧ (s.completeSwitch).calendar = s.calendar ∧ (s.completeSwitch).cueStore =
    s.cueStore ∧ (s.completeSwitch).playback = s.playback ∧ (s.completeSwitch).mixer = s.mixer ∧
    (s.completeSwitch).lanes = s.lanes ∧ (s.completeSwitch).mgmt = s.mgmt ∧ (s.completeSwitch).faults = s.faults ∧
    (s.completeSwitch).image = s.image ∧ (s.completeSwitch).pending = s.pending ∧ (s.completeSwitch).freeCount =
    s.freeCount := by
  generalize h : s.completeSwitch = t; dsimp only [State.completeSwitch] at h; (repeat' split at h) <;> subst h <;> simp

@[simp] theorem State.dropAtTake_frame (s : State) (f : ShowPortCounters → ShowPortCounters) :
    (s.dropAtTake f).time = s.time ∧ (s.dropAtTake f).calendar = s.calendar ∧ (s.dropAtTake f).cueStore = s.cueStore
    ∧ (s.dropAtTake f).playback = s.playback ∧ (s.dropAtTake f).mixer = s.mixer ∧ (s.dropAtTake f).lanes = s.lanes ∧
    (s.dropAtTake f).mgmt = s.mgmt ∧ (s.dropAtTake f).faults = s.faults ∧ (s.dropAtTake f).image = s.image ∧
    (s.dropAtTake f).pending = s.pending ∧ (s.dropAtTake f).freeCount = s.freeCount := by
  unfold State.dropAtTake; simp

@[simp] theorem State.process_frame (s : State) (f : Frame) (x : Snapshot) :
    (s.process f x).time = s.time ∧ (s.process f x).calendar = s.calendar ∧ (s.process f x).cueStore = s.cueStore ∧
    (s.process f x).playback = s.playback ∧ (s.process f x).mixer = s.mixer ∧ (s.process f x).lanes = s.lanes ∧
    (s.process f x).mgmt = s.mgmt ∧ (s.process f x).faults = s.faults ∧ (s.process f x).image = s.image ∧ (s.process
    f x).pending = s.pending ∧ (s.process f x).freeCount = s.freeCount := by
  unfold State.process; simp

@[simp] theorem State.takeLevel_frame (s : State) (f : Frame) :
    (s.takeLevel f).time = s.time ∧ (s.takeLevel f).calendar = s.calendar ∧ (s.takeLevel f).cueStore = s.cueStore ∧
    (s.takeLevel f).playback = s.playback ∧ (s.takeLevel f).mixer = s.mixer ∧ (s.takeLevel f).lanes = s.lanes ∧
    (s.takeLevel f).mgmt = s.mgmt ∧ (s.takeLevel f).faults = s.faults ∧ (s.takeLevel f).image = s.image ∧
    (s.takeLevel f).pending = s.pending ∧ (s.takeLevel f).freeCount = s.freeCount := by
  generalize h : s.takeLevel f = t; dsimp only [State.takeLevel] at h; (repeat' split at h) <;> subst h <;> simp

@[simp] theorem State.takeTime_frame (s : State) (f : Frame) :
    (s.takeTime f).time = s.time ∧ (s.takeTime f).calendar = s.calendar ∧ (s.takeTime f).cueStore = s.cueStore ∧
    (s.takeTime f).playback = s.playback ∧ (s.takeTime f).mixer = s.mixer ∧ (s.takeTime f).lanes = s.lanes ∧
    (s.takeTime f).mgmt = s.mgmt ∧ (s.takeTime f).faults = s.faults ∧ (s.takeTime f).image = s.image ∧ (s.takeTime
    f).pending = s.pending ∧ (s.takeTime f).freeCount = s.freeCount := by
  generalize h : s.takeTime f = t; dsimp only [State.takeTime] at h; (repeat' split at h) <;> subst h <;> simp

@[simp] theorem State.takeRequest_frame (s : State) (f : Frame) :
    (s.takeRequest f).time = s.time ∧ (s.takeRequest f).calendar = s.calendar ∧ (s.takeRequest f).cueStore =
    s.cueStore ∧ (s.takeRequest f).playback = s.playback ∧ (s.takeRequest f).mixer = s.mixer ∧ (s.takeRequest
    f).lanes = s.lanes ∧ (s.takeRequest f).mgmt = s.mgmt ∧ (s.takeRequest f).faults = s.faults ∧ (s.takeRequest
    f).image = s.image ∧ (s.takeRequest f).pending = s.pending ∧ (s.takeRequest f).freeCount = s.freeCount := by
  generalize h : s.takeRequest f = t; dsimp only [State.takeRequest] at h; (repeat' split at h) <;> subst h <;> simp

@[simp] theorem State.classify_frame (s : State) (f : Frame) :
    (s.classify f).time = s.time ∧ (s.classify f).calendar = s.calendar ∧ (s.classify f).cueStore = s.cueStore ∧
    (s.classify f).playback = s.playback ∧ (s.classify f).mixer = s.mixer ∧ (s.classify f).lanes = s.lanes ∧
    (s.classify f).mgmt = s.mgmt ∧ (s.classify f).faults = s.faults ∧ (s.classify f).image = s.image ∧ (s.classify
    f).pending = s.pending ∧ (s.classify f).freeCount = s.freeCount := by
  generalize h : s.classify f = t; dsimp only [State.classify] at h; (repeat' split at h) <;> subst h <;> simp

@[simp] theorem State.idleIngress_frame (s : State) :
    (s.idleIngress).time = s.time ∧ (s.idleIngress).calendar = s.calendar ∧ (s.idleIngress).cueStore = s.cueStore ∧
    (s.idleIngress).playback = s.playback ∧ (s.idleIngress).mixer = s.mixer ∧ (s.idleIngress).lanes = s.lanes ∧
    (s.idleIngress).mgmt = s.mgmt ∧ (s.idleIngress).faults = s.faults ∧ (s.idleIngress).image = s.image ∧
    (s.idleIngress).pending = s.pending ∧ (s.idleIngress).freeCount = s.freeCount := by
  unfold State.idleIngress; simp

@[simp] theorem State.writeLevels_frame (s : State) (i : Nat) (b : BankNo) (v : LevelFields) :
    (s.writeLevels i b v).time = s.time ∧ (s.writeLevels i b v).calendar = s.calendar ∧ (s.writeLevels i b
    v).cueStore = s.cueStore ∧ (s.writeLevels i b v).playback = s.playback ∧ (s.writeLevels i b v).ingress =
    s.ingress ∧ (s.writeLevels i b v).lanes = s.lanes ∧ (s.writeLevels i b v).mgmt = s.mgmt ∧ (s.writeLevels i b
    v).faults = s.faults ∧ (s.writeLevels i b v).image = s.image ∧ (s.writeLevels i b v).pending = s.pending ∧
    (s.writeLevels i b v).freeCount = s.freeCount := by
  unfold State.writeLevels; simp

@[simp] theorem State.completeLevel_frame (s : State) (i o : Nat) (b : BankNo) (v : LevelFields) :
    (s.completeLevel i o b v).time = s.time ∧ (s.completeLevel i o b v).calendar = s.calendar ∧ (s.completeLevel i o
    b v).cueStore = s.cueStore ∧ (s.completeLevel i o b v).playback = s.playback ∧ (s.completeLevel i o b v).lanes =
    s.lanes ∧ (s.completeLevel i o b v).mgmt = s.mgmt ∧ (s.completeLevel i o b v).faults = s.faults ∧
    (s.completeLevel i o b v).image = s.image ∧ (s.completeLevel i o b v).pending = s.pending ∧ (s.completeLevel i o
    b v).freeCount = s.freeCount := by
  generalize h : s.completeLevel i o b v = t; dsimp only [State.completeLevel] at h; (repeat' split at h) <;> subst h <;> simp

@[simp] theorem State.lossIfLive_frame (s : State) (i : Nat) (w : SourceState) :
    (s.lossIfLive i w).time = s.time ∧ (s.lossIfLive i w).calendar = s.calendar ∧ (s.lossIfLive i w).cueStore =
    s.cueStore ∧ (s.lossIfLive i w).playback = s.playback ∧ (s.lossIfLive i w).ingress = s.ingress ∧ (s.lossIfLive i
    w).lanes = s.lanes ∧ (s.lossIfLive i w).mgmt = s.mgmt ∧ (s.lossIfLive i w).faults = s.faults ∧ (s.lossIfLive i
    w).image = s.image ∧ (s.lossIfLive i w).pending = s.pending ∧ (s.lossIfLive i w).freeCount = s.freeCount := by
  generalize h : s.lossIfLive i w = t; dsimp only [State.lossIfLive] at h; (repeat' split at h) <;> subst h <;> simp

@[simp] theorem State.idleSource_frame (s : State) (i : Nat) :
    (s.idleSource i).time = s.time ∧ (s.idleSource i).calendar = s.calendar ∧ (s.idleSource i).cueStore = s.cueStore
    ∧ (s.idleSource i).playback = s.playback ∧ (s.idleSource i).lanes = s.lanes ∧ (s.idleSource i).mgmt = s.mgmt ∧
    (s.idleSource i).faults = s.faults ∧ (s.idleSource i).image = s.image ∧ (s.idleSource i).pending = s.pending ∧
    (s.idleSource i).freeCount = s.freeCount := by
  unfold State.idleSource; simp

@[simp] theorem State.blockResetIngress_frame (s : State) :
    (s.blockResetIngress).time = s.time ∧ (s.blockResetIngress).calendar = s.calendar ∧
    (s.blockResetIngress).cueStore = s.cueStore ∧ (s.blockResetIngress).playback = s.playback ∧
    (s.blockResetIngress).lanes = s.lanes ∧ (s.blockResetIngress).mgmt = s.mgmt ∧ (s.blockResetIngress).faults =
    s.faults ∧ (s.blockResetIngress).image = s.image ∧ (s.blockResetIngress).pending = s.pending ∧
    (s.blockResetIngress).freeCount = s.freeCount := by
  have key := foldl_keeps (β := Nat) (fun x : State =>
    (x.time, x.calendar, x.cueStore, x.playback, x.lanes, x.mgmt, x.faults, x.image, x.pending, x.freeCount))
  simp only [Prod.mk.injEq] at key
  unfold State.blockResetIngress; simp [key]

@[simp] theorem State.beginSave_frame (s : State) :
    (s.beginSave).time = s.time ∧ (s.beginSave).calendar = s.calendar ∧ (s.beginSave).cueStore = s.cueStore ∧
    (s.beginSave).playback = s.playback ∧ (s.beginSave).mixer = s.mixer ∧ (s.beginSave).ingress = s.ingress ∧
    (s.beginSave).lanes = s.lanes ∧ (s.beginSave).mgmt = s.mgmt ∧ (s.beginSave).faults = s.faults ∧
    (s.beginSave).pending = s.pending ∧ (s.beginSave).freeCount = s.freeCount := by
  unfold State.beginSave; simp

@[simp] theorem State.endSave_frame (s : State) (img : Image) (b : Bool) :
    (s.endSave img b).time = s.time ∧ (s.endSave img b).calendar = s.calendar ∧ (s.endSave img b).cueStore =
    s.cueStore ∧ (s.endSave img b).playback = s.playback ∧ (s.endSave img b).mixer = s.mixer ∧ (s.endSave img
    b).ingress = s.ingress ∧ (s.endSave img b).lanes = s.lanes ∧ (s.endSave img b).pending = s.pending ∧ (s.endSave
    img b).freeCount = s.freeCount ∧ (s.endSave img b).mgmt.requests = s.mgmt.requests ∧ (s.endSave img
    b).mgmt.replyReserved = s.mgmt.replyReserved ∧ (s.endSave img b).mgmt.line = s.mgmt.line ∧ (s.endSave img
    b).mgmt.settings = s.mgmt.settings ∧ (s.endSave img b).mgmt.pendingNode = s.mgmt.pendingNode ∧ (s.endSave img
    b).mgmt.restartPending = s.mgmt.restartPending := by
  generalize h : s.endSave img b = t; dsimp only [State.endSave] at h; (repeat' split at h) <;> subst h <;> simp

@[simp] theorem State.restoreGuard_frame (s : State) :
    (s.restoreGuard).time = s.time ∧ (s.restoreGuard).calendar = s.calendar ∧ (s.restoreGuard).cueStore = s.cueStore
    ∧ (s.restoreGuard).playback = s.playback ∧ (s.restoreGuard).mixer = s.mixer ∧ (s.restoreGuard).ingress =
    s.ingress ∧ (s.restoreGuard).mgmt = s.mgmt ∧ (s.restoreGuard).faults = s.faults ∧ (s.restoreGuard).image =
    s.image ∧ (s.restoreGuard).pending = s.pending ∧ (s.restoreGuard).freeCount = s.freeCount := by
  generalize h : s.restoreGuard = t; dsimp only [State.restoreGuard] at h; (repeat' split at h) <;> subst h <;> simp

@[simp] theorem State.resumeIfTime_frame (s : State) :
    (s.resumeIfTime).time = s.time ∧ (s.resumeIfTime).cueStore = s.cueStore ∧ (s.resumeIfTime).playback = s.playback
    ∧ (s.resumeIfTime).mixer = s.mixer ∧ (s.resumeIfTime).ingress = s.ingress ∧ (s.resumeIfTime).lanes = s.lanes ∧
    (s.resumeIfTime).mgmt = s.mgmt ∧ (s.resumeIfTime).faults = s.faults ∧ (s.resumeIfTime).image = s.image ∧
    (s.resumeIfTime).pending = s.pending ∧ (s.resumeIfTime).freeCount = s.freeCount := by
  generalize h : s.resumeIfTime = t; dsimp only [State.resumeIfTime] at h; (repeat' split at h) <;> subst h <;> simp

@[simp] theorem State.withRequests_frame (s : State) (rs : List Instr) :
    (s.withRequests rs).time = s.time ∧ (s.withRequests rs).calendar = s.calendar ∧ (s.withRequests rs).cueStore =
    s.cueStore ∧ (s.withRequests rs).playback = s.playback ∧ (s.withRequests rs).mixer = s.mixer ∧ (s.withRequests
    rs).ingress = s.ingress ∧ (s.withRequests rs).lanes = s.lanes ∧ (s.withRequests rs).faults = s.faults ∧
    (s.withRequests rs).image = s.image ∧ (s.withRequests rs).pending = s.pending ∧ (s.withRequests rs).freeCount =
    s.freeCount := by
  unfold State.withRequests; simp

@[simp] theorem State.joinRequests_frame (s : State) (c : Instr) :
    (s.joinRequests c).time = s.time ∧ (s.joinRequests c).calendar = s.calendar ∧ (s.joinRequests c).cueStore =
    s.cueStore ∧ (s.joinRequests c).playback = s.playback ∧ (s.joinRequests c).mixer = s.mixer ∧ (s.joinRequests
    c).lanes = s.lanes ∧ (s.joinRequests c).faults = s.faults ∧ (s.joinRequests c).image = s.image ∧ (s.joinRequests
    c).pending = s.pending ∧ (s.joinRequests c).freeCount = s.freeCount := by
  generalize h : s.joinRequests c = t; dsimp only [State.joinRequests] at h; (repeat' split at h) <;> subst h <;> simp

@[simp] theorem State.reserve_frame (s : State) :
    (s.reserve).time = s.time ∧ (s.reserve).calendar = s.calendar ∧ (s.reserve).cueStore = s.cueStore ∧
    (s.reserve).playback = s.playback ∧ (s.reserve).mixer = s.mixer ∧ (s.reserve).ingress = s.ingress ∧
    (s.reserve).lanes = s.lanes ∧ (s.reserve).faults = s.faults ∧ (s.reserve).image = s.image ∧ (s.reserve).pending
    = s.pending ∧ (s.reserve).freeCount = s.freeCount := by
  unfold State.reserve; simp

@[simp] theorem State.placeReply_frame (s : State) (r : Reply) :
    (s.placeReply r).time = s.time ∧ (s.placeReply r).calendar = s.calendar ∧ (s.placeReply r).cueStore = s.cueStore
    ∧ (s.placeReply r).playback = s.playback ∧ (s.placeReply r).mixer = s.mixer ∧ (s.placeReply r).ingress =
    s.ingress ∧ (s.placeReply r).lanes = s.lanes ∧ (s.placeReply r).faults = s.faults ∧ (s.placeReply r).image =
    s.image ∧ (s.placeReply r).pending = s.pending ∧ (s.placeReply r).freeCount = s.freeCount := by
  unfold State.placeReply; simp

@[simp] theorem State.beginLine_frame (s : State) (f : OutFrame) (rest : List OutFrame) (b : Bool) :
    (s.beginLine f rest b).time = s.time ∧ (s.beginLine f rest b).calendar = s.calendar ∧ (s.beginLine f rest
    b).cueStore = s.cueStore ∧ (s.beginLine f rest b).playback = s.playback ∧ (s.beginLine f rest b).mixer = s.mixer
    ∧ (s.beginLine f rest b).ingress = s.ingress ∧ (s.beginLine f rest b).lanes = s.lanes ∧ (s.beginLine f rest
    b).image = s.image ∧ (s.beginLine f rest b).pending = s.pending ∧ (s.beginLine f rest b).freeCount = s.freeCount := by
  generalize h : s.beginLine f rest b = t; dsimp only [State.beginLine] at h; (repeat' split at h) <;> subst h <;> simp

@[simp] theorem State.endNodeChange_frame (s : State) (n : Nat) :
    (s.endNodeChange n).time = s.time ∧ (s.endNodeChange n).calendar = s.calendar ∧ (s.endNodeChange n).cueStore =
    s.cueStore ∧ (s.endNodeChange n).playback = s.playback ∧ (s.endNodeChange n).mixer = s.mixer ∧ (s.endNodeChange
    n).ingress = s.ingress ∧ (s.endNodeChange n).lanes = s.lanes ∧ (s.endNodeChange n).faults = s.faults ∧
    (s.endNodeChange n).image = s.image ∧ (s.endNodeChange n).pending = s.pending ∧ (s.endNodeChange n).freeCount =
    s.freeCount := by
  generalize h : s.endNodeChange n = t; dsimp only [State.endNodeChange] at h; (repeat' split at h) <;> subst h <;> simp

@[simp] theorem State.loseTimekeeper_frame (s : State) :
    (s.loseTimekeeper).calendar = s.calendar ∧ (s.loseTimekeeper).cueStore = s.cueStore ∧
    (s.loseTimekeeper).playback = s.playback ∧ (s.loseTimekeeper).mixer = s.mixer ∧ (s.loseTimekeeper).ingress =
    s.ingress ∧ (s.loseTimekeeper).lanes = s.lanes ∧ (s.loseTimekeeper).image = s.image ∧ (s.loseTimekeeper).pending
    = s.pending ∧ (s.loseTimekeeper).freeCount = s.freeCount ∧ (s.loseTimekeeper).mgmt.requests = s.mgmt.requests ∧
    (s.loseTimekeeper).mgmt.replyReserved = s.mgmt.replyReserved ∧ (s.loseTimekeeper).mgmt.line = s.mgmt.line ∧
    (s.loseTimekeeper).mgmt.settings = s.mgmt.settings ∧ (s.loseTimekeeper).mgmt.pendingNode = s.mgmt.pendingNode ∧
    (s.loseTimekeeper).mgmt.restartPending = s.mgmt.restartPending := by
  unfold State.loseTimekeeper; simp

@[simp] theorem State.expireHold_frame (s : State) (k : Nat) (p : Playback) :
    (s.expireHold k p).time = s.time ∧ (s.expireHold k p).ingress = s.ingress ∧ (s.expireHold k p).lanes = s.lanes ∧
    (s.expireHold k p).mgmt = s.mgmt ∧ (s.expireHold k p).faults = s.faults ∧ (s.expireHold k p).image = s.image ∧
    (s.expireHold k p).pending = s.pending ∧ (s.expireHold k p).freeCount = s.freeCount := by
  generalize h : s.expireHold k p = t; dsimp only [State.expireHold] at h; (repeat' split at h) <;> subst h <;> simp

@[simp] theorem State.stopSlot_frame (s : State) (k : Nat) (p : Playback) (fade : Nat) :
    (s.stopSlot k p fade).time = s.time ∧ (s.stopSlot k p fade).ingress = s.ingress ∧ (s.stopSlot k p fade).lanes =
    s.lanes ∧ (s.stopSlot k p fade).mgmt = s.mgmt ∧ (s.stopSlot k p fade).faults = s.faults ∧ (s.stopSlot k p
    fade).image = s.image ∧ (s.stopSlot k p fade).pending = s.pending ∧ (s.stopSlot k p fade).freeCount =
    s.freeCount := by
  generalize h : s.stopSlot k p fade = t; dsimp only [State.stopSlot] at h; (repeat' split at h) <;> subst h <;> simp

@[simp] theorem State.writeSourceEntry_frame (s : State) (i : Nat) (b : Bool) (o n : Nat) :
    (s.writeSourceEntry i b o n).time = s.time ∧ (s.writeSourceEntry i b o n).calendar = s.calendar ∧
    (s.writeSourceEntry i b o n).cueStore = s.cueStore ∧ (s.writeSourceEntry i b o n).playback = s.playback ∧
    (s.writeSourceEntry i b o n).lanes = s.lanes ∧ (s.writeSourceEntry i b o n).mgmt = s.mgmt ∧ (s.writeSourceEntry
    i b o n).faults = s.faults ∧ (s.writeSourceEntry i b o n).image = s.image ∧ (s.writeSourceEntry i b o n).pending
    = s.pending ∧ (s.writeSourceEntry i b o n).freeCount = s.freeCount := by
  generalize h : s.writeSourceEntry i b o n = t; dsimp only [State.writeSourceEntry] at h; (repeat' split at h) <;> subst h <;> simp

@[simp] theorem State.loseSource_frame (s : State) (i : Nat) :
    (s.loseSource i).time = s.time ∧ (s.loseSource i).calendar = s.calendar ∧ (s.loseSource i).cueStore = s.cueStore
    ∧ (s.loseSource i).playback = s.playback ∧ (s.loseSource i).lanes = s.lanes ∧ (s.loseSource i).image = s.image ∧
    (s.loseSource i).pending = s.pending ∧ (s.loseSource i).freeCount = s.freeCount ∧ (s.loseSource i).mgmt.requests
    = s.mgmt.requests ∧ (s.loseSource i).mgmt.replyReserved = s.mgmt.replyReserved ∧ (s.loseSource i).mgmt.line =
    s.mgmt.line ∧ (s.loseSource i).mgmt.settings = s.mgmt.settings ∧ (s.loseSource i).mgmt.pendingNode =
    s.mgmt.pendingNode ∧ (s.loseSource i).mgmt.restartPending = s.mgmt.restartPending := by
  unfold State.loseSource; simp

@[simp] theorem State.setBand_frame (s : State) (i : Nat) (b : Band) :
    (s.setBand i b).time = s.time ∧ (s.setBand i b).calendar = s.calendar ∧ (s.setBand i b).cueStore = s.cueStore ∧
    (s.setBand i b).playback = s.playback ∧ (s.setBand i b).ingress = s.ingress ∧ (s.setBand i b).lanes = s.lanes ∧
    (s.setBand i b).mgmt = s.mgmt ∧ (s.setBand i b).faults = s.faults ∧ (s.setBand i b).image = s.image ∧ (s.setBand
    i b).pending = s.pending ∧ (s.setBand i b).freeCount = s.freeCount := by
  unfold State.setBand; simp

@[simp] theorem State.faultLane_frame (s : State) (l : Nat) (k : FaultKind) :
    (s.faultLane l k).time = s.time ∧ (s.faultLane l k).calendar = s.calendar ∧ (s.faultLane l k).cueStore =
    s.cueStore ∧ (s.faultLane l k).playback = s.playback ∧ (s.faultLane l k).mixer = s.mixer ∧ (s.faultLane l
    k).ingress = s.ingress ∧ (s.faultLane l k).image = s.image ∧ (s.faultLane l k).pending = s.pending ∧
    (s.faultLane l k).freeCount = s.freeCount ∧ (s.faultLane l k).mgmt.requests = s.mgmt.requests ∧ (s.faultLane l
    k).mgmt.replyReserved = s.mgmt.replyReserved ∧ (s.faultLane l k).mgmt.line = s.mgmt.line ∧ (s.faultLane l
    k).mgmt.settings = s.mgmt.settings ∧ (s.faultLane l k).mgmt.pendingNode = s.mgmt.pendingNode ∧ (s.faultLane l
    k).mgmt.restartPending = s.mgmt.restartPending := by
  unfold State.faultLane; simp

@[simp] theorem State.currentReceipt_frame (s : State) (l : Nat) (a : Bool) :
    (s.currentReceipt l a).time = s.time ∧ (s.currentReceipt l a).calendar = s.calendar ∧ (s.currentReceipt l
    a).cueStore = s.cueStore ∧ (s.currentReceipt l a).playback = s.playback ∧ (s.currentReceipt l a).mixer = s.mixer
    ∧ (s.currentReceipt l a).ingress = s.ingress ∧ (s.currentReceipt l a).image = s.image ∧ (s.currentReceipt l
    a).pending = s.pending ∧ (s.currentReceipt l a).freeCount = s.freeCount ∧ (s.currentReceipt l a).mgmt.requests =
    s.mgmt.requests ∧ (s.currentReceipt l a).mgmt.replyReserved = s.mgmt.replyReserved ∧ (s.currentReceipt l
    a).mgmt.line = s.mgmt.line ∧ (s.currentReceipt l a).mgmt.settings = s.mgmt.settings ∧ (s.currentReceipt l
    a).mgmt.pendingNode = s.mgmt.pendingNode ∧ (s.currentReceipt l a).mgmt.restartPending = s.mgmt.restartPending := by
  generalize h : s.currentReceipt l a = t; dsimp only [State.currentReceipt] at h; (repeat' split at h) <;> subst h <;> simp

@[simp] theorem State.takeReceipt_frame (s : State) (l q : Nat) (a : Bool) :
    (s.takeReceipt l q a).time = s.time ∧ (s.takeReceipt l q a).calendar = s.calendar ∧ (s.takeReceipt l q
    a).cueStore = s.cueStore ∧ (s.takeReceipt l q a).playback = s.playback ∧ (s.takeReceipt l q a).mixer = s.mixer ∧
    (s.takeReceipt l q a).ingress = s.ingress ∧ (s.takeReceipt l q a).image = s.image ∧ (s.takeReceipt l q
    a).pending = s.pending ∧ (s.takeReceipt l q a).freeCount = s.freeCount ∧ (s.takeReceipt l q a).mgmt.requests =
    s.mgmt.requests ∧ (s.takeReceipt l q a).mgmt.replyReserved = s.mgmt.replyReserved ∧ (s.takeReceipt l q
    a).mgmt.line = s.mgmt.line ∧ (s.takeReceipt l q a).mgmt.settings = s.mgmt.settings ∧ (s.takeReceipt l q
    a).mgmt.pendingNode = s.mgmt.pendingNode ∧ (s.takeReceipt l q a).mgmt.restartPending = s.mgmt.restartPending := by
  generalize h : s.takeReceipt l q a = t; dsimp only [State.takeReceipt] at h; (repeat' split at h) <;> subst h <;> simp

@[simp] theorem State.fixtureBadFrame_frame (s : State) :
    (s.fixtureBadFrame).time = s.time ∧ (s.fixtureBadFrame).calendar = s.calendar ∧ (s.fixtureBadFrame).cueStore =
    s.cueStore ∧ (s.fixtureBadFrame).playback = s.playback ∧ (s.fixtureBadFrame).mixer = s.mixer ∧
    (s.fixtureBadFrame).ingress = s.ingress ∧ (s.fixtureBadFrame).mgmt = s.mgmt ∧ (s.fixtureBadFrame).faults =
    s.faults ∧ (s.fixtureBadFrame).image = s.image ∧ (s.fixtureBadFrame).pending = s.pending ∧
    (s.fixtureBadFrame).freeCount = s.freeCount := by
  unfold State.fixtureBadFrame; simp

@[simp] theorem State.fixtureArrive_frame (s : State) (os : List Octet) :
    (s.fixtureArrive os).time = s.time ∧ (s.fixtureArrive os).calendar = s.calendar ∧ (s.fixtureArrive os).cueStore
    = s.cueStore ∧ (s.fixtureArrive os).playback = s.playback ∧ (s.fixtureArrive os).mixer = s.mixer ∧
    (s.fixtureArrive os).ingress = s.ingress ∧ (s.fixtureArrive os).image = s.image ∧ (s.fixtureArrive os).pending =
    s.pending ∧ (s.fixtureArrive os).freeCount = s.freeCount ∧ (s.fixtureArrive os).mgmt.requests = s.mgmt.requests
    ∧ (s.fixtureArrive os).mgmt.replyReserved = s.mgmt.replyReserved ∧ (s.fixtureArrive os).mgmt.line = s.mgmt.line
    ∧ (s.fixtureArrive os).mgmt.settings = s.mgmt.settings ∧ (s.fixtureArrive os).mgmt.pendingNode =
    s.mgmt.pendingNode ∧ (s.fixtureArrive os).mgmt.restartPending = s.mgmt.restartPending := by
  generalize h : s.fixtureArrive os = t; dsimp only [State.fixtureArrive] at h; (repeat' split at h) <;> subst h <;> simp

@[simp] theorem State.receiptExpired_frame (s : State) (l : Nat) :
    (s.receiptExpired l).time = s.time ∧ (s.receiptExpired l).calendar = s.calendar ∧ (s.receiptExpired l).cueStore
    = s.cueStore ∧ (s.receiptExpired l).playback = s.playback ∧ (s.receiptExpired l).mixer = s.mixer ∧
    (s.receiptExpired l).ingress = s.ingress ∧ (s.receiptExpired l).image = s.image ∧ (s.receiptExpired l).pending =
    s.pending ∧ (s.receiptExpired l).freeCount = s.freeCount ∧ (s.receiptExpired l).mgmt.requests = s.mgmt.requests
    ∧ (s.receiptExpired l).mgmt.replyReserved = s.mgmt.replyReserved ∧ (s.receiptExpired l).mgmt.line = s.mgmt.line
    ∧ (s.receiptExpired l).mgmt.settings = s.mgmt.settings ∧ (s.receiptExpired l).mgmt.pendingNode =
    s.mgmt.pendingNode ∧ (s.receiptExpired l).mgmt.restartPending = s.mgmt.restartPending := by
  generalize h : s.receiptExpired l = t; dsimp only [State.receiptExpired] at h; (repeat' split at h) <;> subst h <;> simp

@[simp] theorem State.period_frame (s : State) (l : Nat) :
    (s.period l).time = s.time ∧ (s.period l).calendar = s.calendar ∧ (s.period l).cueStore = s.cueStore ∧ (s.period
    l).playback = s.playback ∧ (s.period l).mixer = s.mixer ∧ (s.period l).ingress = s.ingress ∧ (s.period l).mgmt =
    s.mgmt ∧ (s.period l).faults = s.faults ∧ (s.period l).image = s.image ∧ (s.period l).pending = s.pending ∧
    (s.period l).freeCount = s.freeCount := by
  unfold State.period; simp

@[simp] theorem State.countEmitted_frame (s : State) (l : Nat) (f : FixtureFrame) :
    (s.countEmitted l f).time = s.time ∧ (s.countEmitted l f).calendar = s.calendar ∧ (s.countEmitted l f).cueStore
    = s.cueStore ∧ (s.countEmitted l f).playback = s.playback ∧ (s.countEmitted l f).mixer = s.mixer ∧
    (s.countEmitted l f).ingress = s.ingress ∧ (s.countEmitted l f).mgmt = s.mgmt ∧ (s.countEmitted l f).faults =
    s.faults ∧ (s.countEmitted l f).image = s.image ∧ (s.countEmitted l f).pending = s.pending ∧ (s.countEmitted l
    f).freeCount = s.freeCount := by
  generalize h : s.countEmitted l f = t; dsimp only [State.countEmitted] at h; (repeat' split at h) <;> subst h <;> simp

@[simp] theorem State.beginFixture_frame (s : State) (l : Nat) (w : Waiting) :
    (s.beginFixture l w).time = s.time ∧ (s.beginFixture l w).calendar = s.calendar ∧ (s.beginFixture l w).cueStore
    = s.cueStore ∧ (s.beginFixture l w).playback = s.playback ∧ (s.beginFixture l w).mixer = s.mixer ∧
    (s.beginFixture l w).ingress = s.ingress ∧ (s.beginFixture l w).mgmt = s.mgmt ∧ (s.beginFixture l w).faults =
    s.faults ∧ (s.beginFixture l w).image = s.image ∧ (s.beginFixture l w).pending = s.pending ∧ (s.beginFixture l
    w).freeCount = s.freeCount := by
  unfold State.beginFixture; simp

@[simp] theorem State.endFixture_frame (s : State) (f : FixtureFrame) :
    (s.endFixture f).time = s.time ∧ (s.endFixture f).calendar = s.calendar ∧ (s.endFixture f).cueStore = s.cueStore
    ∧ (s.endFixture f).playback = s.playback ∧ (s.endFixture f).mixer = s.mixer ∧ (s.endFixture f).ingress =
    s.ingress ∧ (s.endFixture f).mgmt = s.mgmt ∧ (s.endFixture f).faults = s.faults ∧ (s.endFixture f).image =
    s.image ∧ (s.endFixture f).pending = s.pending ∧ (s.endFixture f).freeCount = s.freeCount := by
  generalize h : s.endFixture f = t; dsimp only [State.endFixture] at h; (repeat' split at h) <;> subst h <;> simp

@[simp] theorem State.setConfig_frame (s : State) (l : Nat) (c : LaneConfig) :
    (s.setConfig l c).time = s.time ∧ (s.setConfig l c).calendar = s.calendar ∧ (s.setConfig l c).cueStore =
    s.cueStore ∧ (s.setConfig l c).playback = s.playback ∧ (s.setConfig l c).mixer = s.mixer ∧ (s.setConfig l
    c).ingress = s.ingress ∧ (s.setConfig l c).mgmt = s.mgmt ∧ (s.setConfig l c).faults = s.faults ∧ (s.setConfig l
    c).image = s.image ∧ (s.setConfig l c).pending = s.pending ∧ (s.setConfig l c).freeCount = s.freeCount := by
  unfold State.setConfig; simp

@[simp] theorem State.configureLane_frame (s : State) (l : Nat) (c : LaneConfig) :
    (s.configureLane l c).time = s.time ∧ (s.configureLane l c).calendar = s.calendar ∧ (s.configureLane l
    c).cueStore = s.cueStore ∧ (s.configureLane l c).playback = s.playback ∧ (s.configureLane l c).mixer = s.mixer ∧
    (s.configureLane l c).ingress = s.ingress ∧ (s.configureLane l c).mgmt = s.mgmt ∧ (s.configureLane l c).faults =
    s.faults ∧ (s.configureLane l c).image = s.image ∧ (s.configureLane l c).pending = s.pending ∧ (s.configureLane
    l c).freeCount = s.freeCount := by
  generalize h : s.configureLane l c = t; dsimp only [State.configureLane] at h; (repeat' split at h) <;> subst h <;> simp

@[simp] theorem State.wakeNamed_frame (s : State) (l : Nat) :
    (s.wakeNamed l).time = s.time ∧ (s.wakeNamed l).calendar = s.calendar ∧ (s.wakeNamed l).cueStore = s.cueStore ∧
    (s.wakeNamed l).playback = s.playback ∧ (s.wakeNamed l).mixer = s.mixer ∧ (s.wakeNamed l).ingress = s.ingress ∧
    (s.wakeNamed l).mgmt = s.mgmt ∧ (s.wakeNamed l).faults = s.faults ∧ (s.wakeNamed l).image = s.image ∧
    (s.wakeNamed l).pending = s.pending ∧ (s.wakeNamed l).freeCount = s.freeCount := by
  generalize h : s.wakeNamed l = t; dsimp only [State.wakeNamed] at h; (repeat' split at h) <;> subst h <;> simp

@[simp] theorem State.wakeEach_frame (s : State) (ls : List Nat) :
    (s.wakeEach ls).time = s.time ∧ (s.wakeEach ls).calendar = s.calendar ∧ (s.wakeEach ls).cueStore = s.cueStore ∧
    (s.wakeEach ls).playback = s.playback ∧ (s.wakeEach ls).mixer = s.mixer ∧ (s.wakeEach ls).ingress = s.ingress ∧
    (s.wakeEach ls).mgmt = s.mgmt ∧ (s.wakeEach ls).faults = s.faults ∧ (s.wakeEach ls).image = s.image ∧
    (s.wakeEach ls).pending = s.pending ∧ (s.wakeEach ls).freeCount = s.freeCount := by
  have key := foldl_keeps (β := Nat) (fun x : State =>
    (x.time, x.calendar, x.cueStore, x.playback, x.mixer, x.ingress, x.mgmt, x.faults, x.image, x.pending,
    x.freeCount))
  simp only [Prod.mk.injEq] at key
  unfold State.wakeEach; simp [key]

@[simp] theorem State.acceptOutputSwitch_frame (s : State) :
    (s.acceptOutputSwitch).time = s.time ∧ (s.acceptOutputSwitch).calendar = s.calendar ∧
    (s.acceptOutputSwitch).cueStore = s.cueStore ∧ (s.acceptOutputSwitch).playback = s.playback ∧
    (s.acceptOutputSwitch).mixer = s.mixer ∧ (s.acceptOutputSwitch).ingress = s.ingress ∧
    (s.acceptOutputSwitch).mgmt = s.mgmt ∧ (s.acceptOutputSwitch).faults = s.faults ∧ (s.acceptOutputSwitch).image =
    s.image ∧ (s.acceptOutputSwitch).pending = s.pending ∧ (s.acceptOutputSwitch).freeCount = s.freeCount := by
  unfold State.acceptOutputSwitch; simp

@[simp] theorem State.requestGuard_frame (s : State) (b : Bool) :
    (s.requestGuard b).time = s.time ∧ (s.requestGuard b).calendar = s.calendar ∧ (s.requestGuard b).cueStore =
    s.cueStore ∧ (s.requestGuard b).playback = s.playback ∧ (s.requestGuard b).mixer = s.mixer ∧ (s.requestGuard
    b).ingress = s.ingress ∧ (s.requestGuard b).mgmt = s.mgmt ∧ (s.requestGuard b).faults = s.faults ∧
    (s.requestGuard b).image = s.image ∧ (s.requestGuard b).pending = s.pending ∧ (s.requestGuard b).freeCount =
    s.freeCount := by
  unfold State.requestGuard; simp

@[simp] theorem State.settingReaches_frame (s : State) (b : Bool) (n : SettingName) :
    (s.settingReaches b n).time = s.time ∧ (s.settingReaches b n).cueStore = s.cueStore ∧ (s.settingReaches b
    n).playback = s.playback ∧ (s.settingReaches b n).mixer = s.mixer ∧ (s.settingReaches b n).ingress = s.ingress ∧
    (s.settingReaches b n).lanes = s.lanes ∧ (s.settingReaches b n).image = s.image ∧ (s.settingReaches b n).pending
    = s.pending ∧ (s.settingReaches b n).freeCount = s.freeCount ∧ (s.settingReaches b n).mgmt.requests =
    s.mgmt.requests ∧ (s.settingReaches b n).mgmt.replyReserved = s.mgmt.replyReserved ∧ (s.settingReaches b
    n).mgmt.line = s.mgmt.line ∧ (s.settingReaches b n).mgmt.settings = s.mgmt.settings ∧ (s.settingReaches b
    n).mgmt.pendingNode = s.mgmt.pendingNode ∧ (s.settingReaches b n).mgmt.restartPending = s.mgmt.restartPending := by
  generalize h : s.settingReaches b n = t; dsimp only [State.settingReaches] at h; (repeat' split at h) <;> subst h <;> simp

@[simp] theorem State.clearIfPresent_frame (s : State) (i : Nat) :
    (s.clearIfPresent i).time = s.time ∧ (s.clearIfPresent i).calendar = s.calendar ∧ (s.clearIfPresent i).cueStore
    = s.cueStore ∧ (s.clearIfPresent i).playback = s.playback ∧ (s.clearIfPresent i).mixer = s.mixer ∧
    (s.clearIfPresent i).ingress = s.ingress ∧ (s.clearIfPresent i).lanes = s.lanes ∧ (s.clearIfPresent i).mgmt =
    s.mgmt ∧ (s.clearIfPresent i).image = s.image ∧ (s.clearIfPresent i).pending = s.pending ∧ (s.clearIfPresent
    i).freeCount = s.freeCount := by
  generalize h : s.clearIfPresent i = t; dsimp only [State.clearIfPresent] at h; (repeat' split at h) <;> subst h <;> simp

end Sys2Proof.Machine
end

