-- ==== Sys2Proof/Laws/Table.lean ====
section
/-! SUPPORT. The basic laws of sparse tables: a read after a write, and that every table operation keeps the canonical
form. -/

namespace Sys2Proof.Machine

variable {α β : Type}

@[simp] theorem Table.read_nil (d : α) (i : Nat) : Table.read d [] i = d := rfl

theorem Table.read_cons (d : α) (k i : Nat) (v : α) (t : Table α) :
    Table.read d ((k, v) :: t) i = if k = i then v else Table.read d t i := rfl

/-- An index below every listed index reads as the default. -/
theorem Table.read_of_lt (d : α) (t : Table α) (i : Nat) (h : ∀ p ∈ t, i < p.1) : Table.read d t i = d := by
  induction t with
  | nil => rfl
  | cons p t ih =>
    obtain ⟨k, v⟩ := p
    have hk : i < k := h (k, v) (by simp)
    rw [Table.read_cons, if_neg (by omega)]
    exact ih (fun q hq => h q (by simp [hq]))

theorem Table.read_put (d : α) (t : Table α) (i j : Nat) (v : α) :
    Table.read d (Table.put t i v) j = if j = i then v else Table.read d t j := by
  induction t with
  | nil => simp only [Table.put, Table.read]; split <;> split <;> first | rfl | omega
  | cons p t ih =>
    obtain ⟨k, w⟩ := p
    simp only [Table.put]
    split
    · rw [Table.read_cons, ih, Table.read_cons]
      by_cases hj : j = i
      · subst hj; rw [if_neg (by omega), if_pos rfl, if_pos rfl]
      · simp only [if_neg hj]
    · split
      · next hk =>
        subst hk
        rw [Table.read_cons, Table.read_cons]
        by_cases hj : j = k
        · subst hj; simp
        · rw [if_neg (fun h => hj h.symm), if_neg hj, if_neg (fun h => hj h.symm)]
      · rw [Table.read_cons]
        by_cases hj : j = i
        · subst hj; simp
        · rw [if_neg (fun h => hj h.symm), if_neg hj]

theorem Table.read_drop (d : α) (t : Table α) (i j : Nat) :
    Table.read d (Table.drop t i) j = if j = i then d else Table.read d t j := by
  induction t with
  | nil => simp [Table.drop, Table.read]
  | cons p t ih =>
    obtain ⟨k, w⟩ := p
    by_cases hk : k = i
    · have : Table.drop ((k, w) :: t) i = Table.drop t i := by simp [Table.drop, hk]
      rw [this, ih, Table.read_cons]
      by_cases hj : j = i
      · simp [hj]
      · rw [if_neg hj, if_neg hj, if_neg (by omega)]
    · have : Table.drop ((k, w) :: t) i = (k, w) :: Table.drop t i := by simp [Table.drop, hk]
      rw [this, Table.read_cons, ih, Table.read_cons]
      by_cases hj : j = i
      · subst hj; rw [if_neg hk]; simp
      · simp [hj]

/-- A read after a write gives the value written at its index, and what was there elsewhere. -/
theorem Table.read_write [DecidableEq α] (d : α) (t : Table α) (i j : Nat) (v : α) :
    Table.read d (Table.write d t i v) j = if j = i then v else Table.read d t j := by
  unfold Table.write
  split
  · next h => rw [Table.read_drop, h]
  · exact Table.read_put d t i j v

@[simp] theorem Table.read_write_self [DecidableEq α] (d : α) (t : Table α) (i : Nat) (v : α) :
    Table.read d (Table.write d t i v) i = v := by simp [Table.read_write]

theorem Table.read_write_ne [DecidableEq α] (d : α) (t : Table α) {i j : Nat} (v : α) (h : j ≠ i) :
    Table.read d (Table.write d t i v) j = Table.read d t j := by simp [Table.read_write, h]

theorem Table.read_keep (d : α) (t : Table α) (p : Nat → Bool) (j : Nat) :
    Table.read d (Table.keep p t) j = if p j then Table.read d t j else d := by
  induction t with
  | nil => simp [Table.keep, Table.read]
  | cons q t ih =>
    obtain ⟨k, w⟩ := q
    by_cases hk : p k
    · have : Table.keep p ((k, w) :: t) = (k, w) :: Table.keep p t := by simp [Table.keep, hk]
      rw [this, Table.read_cons, ih, Table.read_cons]
      by_cases hj : k = j
      · subst hj; simp [hk]
      · simp [hj]
    · have : Table.keep p ((k, w) :: t) = Table.keep p t := by simp [Table.keep, hk]
      rw [this, ih, Table.read_cons]
      by_cases hj : k = j
      · subst hj; simp [hk]
      · simp [hj]

/-- The canonical form, one pair at a time. -/
theorem Table.wf_cons [DecidableEq α] (d : α) (k : Nat) (v : α) (t : Table α) :
    Table.wf d ((k, v) :: t) = true ↔ v ≠ d ∧ (∀ p ∈ t, k < p.1) ∧ Table.wf d t = true := by
  simp [Table.wf, and_assoc]

/-- A filter of a table in the canonical form is in it. -/
theorem Table.wf_filter [DecidableEq α] (d : α) (t : Table α) (p : Nat × α → Bool) (h : Table.wf d t = true) :
    Table.wf d (t.filter p) = true := by
  induction t with
  | nil => rfl
  | cons q t ih =>
    obtain ⟨k, v⟩ := q
    obtain ⟨hv, hk, ht⟩ := (Table.wf_cons d k v t).1 h
    rw [List.filter_cons]
    split
    · exact (Table.wf_cons d k v _).2 ⟨hv, fun r hr => hk r (List.mem_of_mem_filter hr), ih ht⟩
    · exact ih ht

theorem Table.wf_drop [DecidableEq α] (d : α) (t : Table α) (i : Nat) (h : Table.wf d t = true) :
    Table.wf d (Table.drop t i) = true := Table.wf_filter d t _ h

theorem Table.wf_keep [DecidableEq α] (d : α) (t : Table α) (p : Nat → Bool) (h : Table.wf d t = true) :
    Table.wf d (Table.keep p t) = true := Table.wf_filter d t _ h

/-- The pairs of a table after a put are the new pair and pairs of the table. -/
theorem Table.mem_put (t : Table α) (i : Nat) (v : α) (p : Nat × α) (h : p ∈ Table.put t i v) : p = (i, v) ∨ p ∈ t := by
  induction t with
  | nil => simpa [Table.put] using h
  | cons q t ih =>
    obtain ⟨k, w⟩ := q
    simp only [Table.put] at h
    split at h
    · rcases List.mem_cons.1 h with h | h
      · exact .inr (by simp [h])
      · rcases ih h with h | h
        · exact .inl h
        · exact .inr (by simp [h])
    · split at h <;> rcases List.mem_cons.1 h with h | h <;> first | exact .inl h | exact .inr (by simp_all)

theorem Table.wf_put [DecidableEq α] (d : α) (t : Table α) (i : Nat) (v : α) (hv : v ≠ d) (h : Table.wf d t = true) :
    Table.wf d (Table.put t i v) = true := by
  induction t with
  | nil => exact (Table.wf_cons d i v []).2 ⟨hv, by simp, rfl⟩
  | cons q t ih =>
    obtain ⟨k, w⟩ := q
    obtain ⟨hw, hk, ht⟩ := (Table.wf_cons d k w t).1 h
    simp only [Table.put]
    split
    · next hlt =>
      refine (Table.wf_cons d k w _).2 ⟨hw, fun p hp => ?_, ih ht⟩
      rcases Table.mem_put t i v p hp with hp | hp
      · rw [hp]; exact hlt
      · exact hk p hp
    · split
      · next he => subst he; exact (Table.wf_cons d k v t).2 ⟨hv, hk, ht⟩
      · refine (Table.wf_cons d i v _).2 ⟨hv, fun p hp => ?_, h⟩
        rcases List.mem_cons.1 hp with hp | hp
        · rw [hp]; show i < k; omega
        · have := hk p hp; omega

/-- A write keeps the canonical form. -/
theorem Table.wf_write [DecidableEq α] (d : α) (t : Table α) (i : Nat) (v : α) (h : Table.wf d t = true) :
    Table.wf d (Table.write d t i v) = true := by
  unfold Table.write
  split
  · exact Table.wf_drop d t i h
  · next hv => exact Table.wf_put d t i v hv h

/-- A change of every value keeps the canonical form. -/
theorem Table.wf_mapVals [DecidableEq α] [DecidableEq β] (d : α) (e : β) (f : Nat → α → β) (t : Table α)
    (h : Table.wf d t = true) : Table.wf e (Table.mapVals e f t) = true := by
  induction t with
  | nil => rfl
  | cons q t ih =>
    obtain ⟨k, v⟩ := q
    obtain ⟨_, hk, ht⟩ := (Table.wf_cons d k v t).1 h
    simp only [Table.mapVals, List.map_cons, List.filter_cons]
    split
    · next hne =>
      refine (Table.wf_cons e k _ _).2 ⟨by simpa using hne, fun p hp => ?_, ih ht⟩
      obtain ⟨q, hq, rfl⟩ := List.mem_map.1 (List.mem_of_mem_filter hp)
      exact hk q hq
    · exact ih ht

/-- In the canonical form, a read after a change of every value gives the changed value at a listed index. -/
theorem Table.read_mapVals [DecidableEq α] [DecidableEq β] (d : α) (e : β) (f : Nat → α → β) (t : Table α) (j : Nat)
    (h : Table.wf d t = true) (hd : f j d = e) : Table.read e (Table.mapVals e f t) j = f j (Table.read d t j) := by
  induction t with
  | nil => exact hd.symm
  | cons q t ih =>
    obtain ⟨k, v⟩ := q
    obtain ⟨_, hk, ht⟩ := (Table.wf_cons d k v t).1 h
    simp only [Table.mapVals, List.map_cons, List.filter_cons]
    have hrest := ih ht
    simp only [Table.mapVals] at hrest
    rw [Table.read_cons]
    by_cases hkj : k = j
    · subst hkj
      rw [if_pos rfl]
      split
      · rw [Table.read_cons, if_pos rfl]
      · next he =>
        rw [hrest, Table.read_of_lt d t k hk, hd]
        simpa using Eq.symm (by simpa using he)
    · rw [if_neg hkj]
      split
      · rw [Table.read_cons, if_neg hkj, hrest]
      · exact hrest

end Sys2Proof.Machine
end

