-- ==== Sys2Proof/Laws/Ops.lean ====
section
/-! SUPPORT. What the shared operations do: a read after a write for every table of the state, and one lemma that says
what each larger operation can do. -/

namespace Sys2Proof.Machine

/-! ## A read after a write -/

theorem State.entry_setEntry (s : State) (i j : Nat) (e : CalendarEntry) :
    (s.setEntry i e).entry j = if j = i then e else s.entry j := by
  simp [State.entry, State.setEntry, Table.read_write]

theorem State.showRecord_setShow (s : State) (i j : Nat) (r : ShowRecord) :
    (s.setShow i r).showRecord j = if j = i then r else s.showRecord j := by
  simp [State.showRecord, State.setShow, Table.read_write]

theorem State.slot_setSlot (s : State) (k j : Nat) (p : Option Playback) :
    (s.setSlot k p).slot j = if j = k then p else s.slot j := by
  simp [State.slot, State.setSlot, Table.read_write]

theorem State.zone_setZone (s : State) (z y : Nat) (r : Zone) :
    (s.setZone z r).zone y = if y = z then r else s.zone y := by
  simp [State.zone, State.setZone, Table.read_write]

theorem State.source_setSource (s : State) (i j : Nat) (x : Source) :
    (s.setSource i x).source j = if j = i then x else s.source j := by
  simp [State.source, State.setSource, Table.read_write]

theorem State.lane_setLane (s : State) (l j : Nat) (r : Lane) :
    (s.setLane l r).lane j = if j = l then r else s.lane j := by
  simp [State.lane, State.setLane, Table.read_write]

theorem State.waitingFrame_setWaiting (s : State) (l j : Nat) (w : Option Waiting) :
    (s.setWaiting l w).waitingFrame j = if j = l then w else s.waitingFrame j := by
  simp [State.waitingFrame, State.setWaiting, Table.read_write]

@[simp] theorem State.lane_setWaiting (s : State) (l j : Nat) (w : Option Waiting) :
    (s.setWaiting l w).lane j = s.lane j := rfl

@[simp] theorem State.waitingFrame_setLane (s : State) (l j : Nat) (r : Lane) :
    (s.setLane l r).waitingFrame j = s.waitingFrame j := rfl

/-! ## Lanes -/

/-- The statuses settle without touching a lane or a waiting frame (R158, R160). -/
@[simp] theorem State.settleLanes_tables (s : State) :
    s.settleLanes.lanes.lanes = s.lanes.lanes ∧ s.settleLanes.lanes.waiting = s.lanes.waiting := by
  unfold State.settleLanes State.settleGuard State.settleSwitch
  split <;> split <;> simp

@[simp] theorem State.lane_settleLanes (s : State) (j : Nat) : s.settleLanes.lane j = s.lane j := by
  simp [State.lane]

@[simp] theorem State.waitingFrame_settleLanes (s : State) (j : Nat) :
    s.settleLanes.waitingFrame j = s.waitingFrame j := by simp [State.waitingFrame]

/-- A lane that enters OFF, REST or FAULTED adopts, stops its timers and loses its waiting frame; no other lane
changes (R143). -/
theorem State.toDark_effect (s : State) (l j : Nat) (st : LaneState) :
    (s.toDark l st).lane j =
        (if j = l then { s.adopted (s.lane l) with state := st, receiptTimer := none, periodTimer := none }
        else s.lane j) ∧
      (s.toDark l st).waitingFrame j = (if j = l then none else s.waitingFrame j) := by
  unfold State.toDark
  simp [State.lane_setLane, State.waitingFrame_setWaiting]

/-- A frame placed for a lane waits there afterwards, with the age of the frame it replaces; only that lane's late
count can change (R151). -/
theorem State.placeFrame_effect (s : State) (l : Nat) (f : FixtureFrame) :
    (∃ age, (s.placeFrame l f).waitingFrame l = some ⟨age, f⟩) ∧
      (∀ j, j ≠ l → (s.placeFrame l f).waitingFrame j = s.waitingFrame j ∧ (s.placeFrame l f).lane j = s.lane j) ∧
      ∃ late, (s.placeFrame l f).lane l = { s.lane l with late := late } := by
  unfold State.placeFrame
  cases s.waitingFrame l with
  | none =>
    refine ⟨⟨s.now, by simp [State.waitingFrame_setWaiting]⟩, fun j hj => ?_, ⟨(s.lane l).late, rfl⟩⟩
    simp [State.waitingFrame_setWaiting, hj]
  | some w =>
    dsimp only
    split
    · refine ⟨⟨w.age, by simp [State.waitingFrame_setWaiting]⟩, fun j hj => ?_, ⟨satInc 65535 (s.lane l).late, ?_⟩⟩
      · simp [State.waitingFrame_setWaiting, State.lane_setLane, hj]
      · simp [State.lane_setLane]
    · refine ⟨⟨w.age, by simp [State.waitingFrame_setWaiting]⟩, fun j hj => ?_, ⟨(s.lane l).late, rfl⟩⟩
      simp [State.waitingFrame_setWaiting, hj]

/-! ## Zones -/

/-- A dropped layer leaves its zone; every other layer, zone and house look stays (R91, R92, R96). -/
theorem State.dropLayer_effect (s : State) (k z : Nat) (t : Int) :
    (s.dropLayer k t z).layer k z = none ∧ (∀ j, j ≠ k → (s.dropLayer k t z).layer j z = s.layer j z) ∧
      (∀ y, y ≠ z → (s.dropLayer k t z).zone y = s.zone y) ∧
      ((s.dropLayer k t z).zone z).house = (s.zone z).house := by
  unfold State.dropLayer State.layer
  dsimp only
  split
  · next h => exact ⟨h, fun _ _ => rfl, fun _ _ => rfl, rfl⟩
  · split <;>
      exact ⟨by simp [State.zone_setZone], fun j hj => by simp [State.zone_setZone, Table.read_write, hj],
        fun y hy => by simp [State.zone_setZone, hy], by simp [State.zone_setZone]⟩

/-! ## Faults -/

/-- Recording a fault counts it as dropped, stores it in the record the search finds, or sets overflow (R183, R184,
R188); whichever it does, nothing but the fault table and the outbound queue changes (State.recordFault_frame). -/
theorem State.recordFault_cases (s : State) (k : FaultKind) :
    (s.faults.overflow = true ∧
        (s.recordFault k).faults = { s.faults with dropped := satInc 255 s.faults.dropped }) ∨
      (s.faults.overflow = false ∧ ∃ i, s.freeFaultRecord = some i ∧
        ∃ alert, (s.recordFault k).faults = { s.storeFault k i with alertPending := alert }) ∨
      (s.faults.overflow = false ∧ s.freeFaultRecord = none ∧ ∃ alert, (s.recordFault k).faults =
        { s.faults with overflow := true, dropped := satInc 255 s.faults.dropped, alertPending := alert }) := by
  have hcond : ∀ t : State, ∃ alert, t.alertCondition.faults = { t.faults with alertPending := alert } := by
    intro t
    unfold State.alertCondition
    split
    · exact ⟨_, rfl⟩
    · split
      · exact ⟨true, rfl⟩
      · exact ⟨t.faults.alertPending, by simp⟩
  unfold State.recordFault
  cases ho : s.faults.overflow with
  | true => exact .inl ⟨rfl, by simp⟩
  | false =>
    right
    cases hf : s.freeFaultRecord with
    | some i =>
      refine .inl ⟨rfl, i, rfl, ?_⟩
      simp only [Bool.false_eq_true, if_false]
      split
      · exact ⟨(s.storeFault k i).alertPending, rfl⟩
      · exact hcond _
    | none => exact .inr ⟨rfl, rfl, hcond (s.withFaults { s.faults with
        overflow := true, dropped := satInc 255 s.faults.dropped })⟩

end Sys2Proof.Machine
end

