-- ==== Sys2Proof/Laws/Firing.lean ====
section
/-! SUPPORT. Firing: a start changes no more of the calendar than the rest timer, and a run of firings leaves the agenda
and the entries as the terms of Safety.lean say. -/

namespace Sys2Proof.Machine

/-! ## What a start leaves of the calendar -/

/-- The calendar engine but for its rest timer. -/
def CalendarEngine.timeless (c : CalendarEngine) : CalendarEngine := { c with restTimer := none }

theorem State.allFreeEvent_timeless (s : State) : s.allFreeEvent.calendar.timeless = s.calendar.timeless := by
  unfold State.allFreeEvent; split <;> rfl

@[simp] theorem State.release_timeless (s : State) (k : Nat) :
    (s.release k).calendar.timeless = s.calendar.timeless := by
  unfold State.release
  split
  · rfl
  · rw [State.allFreeEvent_timeless]; simp [State.slotFreed]

@[simp] theorem State.executeCue_timeless (s : State) (k : Nat) (p : Playback) (d : Int) (c : Cue) :
    (s.executeCue k p d c).calendar.timeless = s.calendar.timeless := by
  unfold State.executeCue State.endSlot State.holdSlot
  (repeat' split) <;> simp

@[simp] theorem runCues_timeless (n k : Nat) (made : List Nat) (s : State) :
    (runCues n k made s).1.calendar.timeless = s.calendar.timeless := by
  induction n generalizing s made with
  | zero => rfl
  | succ n ih => simp only [runCues]; (repeat' split) <;> simp [ih]

@[simp] theorem State.cueExecution_timeless (s : State) (k : Nat) :
    (s.cueExecution k).calendar.timeless = s.calendar.timeless := by
  unfold State.cueExecution; split <;> simp

@[simp] theorem State.startInSlot_timeless (s : State) (k : Nat) (q : StartRequest) :
    (s.startInSlot k q).calendar.timeless = s.calendar.timeless := by
  unfold State.startInSlot
  simp only [State.cueExecution_timeless, State.wakeResting_frame, State.withCalendar_calendar]
  simp [State.slotStarted, CalendarEngine.timeless]

@[simp] theorem State.placeStart_timeless (s : State) (q : StartRequest) :
    (s.placeStart q).calendar.timeless = s.calendar.timeless := by
  unfold State.placeStart; split <;> simp

@[simp] theorem State.offerStart_timeless (s : State) (it : AgendaItem) (n : Nat) :
    (s.offerStart it n).calendar.timeless = s.calendar.timeless := by
  unfold State.offerStart State.calendarStart
  dsimp only
  (repeat' split) <;> simp

/-! ## A run of firings -/

/-- The agenda and the entries read the same of calendars that agree but for the rest timer. -/
theorem State.entry_of_timeless {s t : State} (h : t.calendar.timeless = s.calendar.timeless) :
    t.calendar.agenda = s.calendar.agenda ∧ (∀ e, t.entry e = s.entry e) ∧ t.calendar.state = s.calendar.state ∧
      t.calendar.truncated = s.calendar.truncated ∧ t.calendar.lastActual = s.calendar.lastActual ∧
      t.calendar.wakeTimer = s.calendar.wakeTimer := by
  have key : ∀ x y : CalendarEngine, x.timeless = y.timeless → x.agenda = y.agenda ∧ x.entries = y.entries ∧
      x.state = y.state ∧ x.truncated = y.truncated ∧ x.lastActual = y.lastActual ∧ x.wakeTimer = y.wakeTimer := by
    intro x y h
    cases x; cases y
    simp only [CalendarEngine.timeless, CalendarEngine.mk.injEq] at h ⊢
    tauto
  obtain ⟨h1, h2, h3, h4, h5, h6⟩ := key _ _ h
  exact ⟨h1, fun e => by unfold State.entry; rw [h2], h3, h4, h5, h6⟩

/-- What the firing of one item leaves: nothing changes when the item has left the agenda; otherwise its entry has last
fired then, a once-entry is SPENT, and the item, with the items of a once-entry, leaves the agenda (R30). -/
theorem State.fireItem_calendar (s : State) (it : AgendaItem) (h : s.towerTime ≠ none) :
    (s.calendar.agenda.any it.sameStart = false → s.fireItem it = s) ∧
    (s.calendar.agenda.any it.sameStart = true →
      (s.fireItem it).calendar.agenda = s.calendar.agenda.filter (fun a =>
        !a.sameStart it && !((s.entry it.entry).once && decide (a.entry = it.entry))) ∧
      (∀ e, (s.fireItem it).entry e = if e = it.entry then
        { s.entry e with
          lastFired := some it.instant
          state := if (s.entry e).once then .spent else (s.entry e).state } else s.entry e)) := by
  unfold State.fireItem
  cases ht : s.towerTime with
  | none => exact absurd ht h
  | some t =>
    dsimp only
    refine ⟨fun ha => by rw [ha]; rfl, fun ha => ?_⟩
    rw [ha, if_pos rfl]
    obtain ⟨h1, h2, -⟩ := State.entry_of_timeless
      (State.offerStart_timeless (s.fireEntry it) it (t.abs - it.instant.abs))
    refine ⟨h1, fun e => ?_⟩
    rw [h2]
    simp only [State.fireEntry, State.entry, State.withCalendar, Table.read_write]
    split
    · next he => rw [he]
    · rfl

theorem AgendaItem.sameStart_iff (a b : AgendaItem) : a.sameStart b = true ↔ a.entry = b.entry ∧ a.instant = b.instant := by
  simp [AgendaItem.sameStart]

/-- Each item of due still stands in the agenda, or its entry is a once-entry that has no item left there. -/
def State.Firing (s : State) (due : List AgendaItem) : Prop :=
  ∀ it ∈ due, it ∈ s.calendar.agenda ∨
    ((s.entry it.entry).once = true ∧ ∀ a ∈ s.calendar.agenda, a.entry ≠ it.entry)

theorem State.fireItem_once (s : State) (it : AgendaItem) (h : s.towerTime ≠ none) (e : Nat) :
    ((s.fireItem it).entry e).once = (s.entry e).once := by
  cases ha : s.calendar.agenda.any it.sameStart with
  | false => rw [((s.fireItem_calendar it h).1 ha)]
  | true => rw [((s.fireItem_calendar it h).2 ha).2 e]; split <;> rfl

/-- A firing keeps what a run of firings needs. -/
theorem State.firing_fireItem (s : State) (it : AgendaItem) (due : List AgendaItem) (h : s.towerTime ≠ none)
    (hd : (it :: due).Pairwise (fun a b => a.sameStart b = false)) (hf : s.Firing (it :: due)) :
    (s.fireItem it).Firing due := by
  have honce := s.fireItem_once it h
  have hd1 := (List.pairwise_cons.1 hd).1
  cases ha : s.calendar.agenda.any it.sameStart with
  | false =>
    rw [(s.fireItem_calendar it h).1 ha]
    exact fun x hx => hf x (List.mem_cons_of_mem _ hx)
  | true =>
    have h1 := ((s.fireItem_calendar it h).2 ha).1
    intro x hx
    rw [honce, h1]
    rcases hf x (List.mem_cons_of_mem _ hx) with hm | ⟨ho, hn⟩
    · by_cases hk : (s.entry x.entry).once = true ∧ x.entry = it.entry
      · right
        refine ⟨hk.1, fun a hma => ?_⟩
        have := List.of_mem_filter hma
        rw [← hk.2, hk.1] at this
        simpa using (Bool.and_eq_true_iff.1 this).2
      · left
        refine List.mem_filter.2 ⟨hm, ?_⟩
        have hs : x.sameStart it = false := by
          have := hd1 x hx
          simp only [AgendaItem.sameStart, Bool.and_eq_false_iff, decide_eq_false_iff_not] at this ⊢
          exact this.imp (fun g => fun e => g e.symm) (fun g => fun e => g e.symm)
        rw [hs]
        by_cases he : x.entry = it.entry
        · have : (s.entry it.entry).once = false := by
            rw [← he]; exact Bool.eq_false_iff.2 fun ho => hk ⟨ho, he⟩
          simp [this]
        · simp [he]
    · exact .inr ⟨ho, fun a hma => hn a (List.mem_of_mem_filter hma)⟩

/-- The agenda no longer holds the item, nor, for a once-entry, any item of its entry. -/
def State.Passed (s : State) (it : AgendaItem) : Prop :=
  (∀ a ∈ s.calendar.agenda, a.sameStart it = false) ∧
    ((s.entry it.entry).once = true → ∀ a ∈ s.calendar.agenda, a.entry ≠ it.entry)

/-- After a firing, an item that stood in the agenda or was passed stands there or is passed. -/
theorem State.fireItem_mem_or_passed (s : State) (it x : AgendaItem) (h : s.towerTime ≠ none)
    (hx : x ∈ s.calendar.agenda ∨ s.Passed x) :
    x ∈ (s.fireItem it).calendar.agenda ∨ (s.fireItem it).Passed x := by
  cases ha : s.calendar.agenda.any it.sameStart with
  | false => rw [(s.fireItem_calendar it h).1 ha]; exact hx
  | true =>
    have h1 := ((s.fireItem_calendar it h).2 ha).1
    unfold State.Passed
    rw [s.fireItem_once it h, h1]
    rcases hx with hm | ⟨hs, ho⟩
    · by_cases hk : (!x.sameStart it && !((s.entry it.entry).once && decide (x.entry = it.entry))) = true
      · exact .inl (List.mem_filter.2 ⟨hm, hk⟩)
      · have hxe : x.entry = it.entry := by
          by_contra hne
          exact hk (by simp [AgendaItem.sameStart, hne])
        refine .inr ⟨fun a hma => ?_, fun ho a hma => ?_⟩
        · have hp := List.of_mem_filter hma
          rw [Bool.and_eq_true_iff] at hp
          by_contra hax
          obtain ⟨e1, e2⟩ := (a.sameStart_iff x).1 (by simpa using hax)
          refine hk ?_
          have : x.sameStart it = a.sameStart it := by simp [AgendaItem.sameStart, e1, e2]
          rw [this, ← e1]
          exact Bool.and_eq_true_iff.2 hp
        · have hp := List.of_mem_filter hma
          rw [Bool.and_eq_true_iff] at hp
          have hp2 := hp.2
          rw [hxe] at ho ⊢
          simpa [ho] using hp2
    · exact .inr ⟨fun a hma => hs a (List.mem_of_mem_filter hma), fun g a hma => ho g a (List.mem_of_mem_filter hma)⟩

/-- A run of firings leaves the agenda as agendaAfter says. -/
theorem State.foldl_fireItem_agenda (due : List AgendaItem) (s : State) (h : s.towerTime ≠ none)
    (hf : ∀ it ∈ due, it ∈ s.calendar.agenda ∨ s.Passed it) :
    (due.foldl State.fireItem s).calendar.agenda = s.agendaAfter s.calendar.agenda due := by
  induction due generalizing s with
  | nil => simp [State.agendaAfter]
  | cons it due ih =>
    rw [List.foldl_cons]
    have ht : (s.fireItem it).towerTime ≠ none := by simpa [State.towerTime] using h
    rw [ih _ ht (fun x hx => s.fireItem_mem_or_passed it x h (hf x (List.mem_cons_of_mem _ hx)))]
    unfold State.agendaAfter
    simp only [s.fireItem_once it h, List.all_cons]
    cases ha : s.calendar.agenda.any it.sameStart with
    | false =>
      rw [(s.fireItem_calendar it h).1 ha]
      rcases hf it (List.mem_cons_self ..) with hm | ⟨hs, ho⟩
      · rw [List.any_eq_false] at ha
        exact absurd ((it.sameStart_iff it).2 ⟨rfl, rfl⟩) (by simpa using ha it hm)
      · refine List.filter_congr fun a hma => ?_
        have : ((s.entry a.entry).once && decide (it.entry = a.entry)) = false := by
          by_contra hc
          rw [Bool.not_eq_false, Bool.and_eq_true_iff, decide_eq_true_eq] at hc
          exact ho (hc.2 ▸ hc.1) a hma hc.2.symm
        rw [hs a hma, this]; rfl
    | true =>
      rw [((s.fireItem_calendar it h).2 ha).1, List.filter_filter]
      refine List.filter_congr fun a _ => ?_
      rw [Bool.and_comm]
      by_cases he : a.entry = it.entry
      · simp [he]
      · have hne : ¬ it.entry = a.entry := fun h => he h.symm
        simp [he, hne]

theorem State.entryAfter_cons_ne (s : State) (it : AgendaItem) (due : List AgendaItem) {e : Nat} (h : it.entry ≠ e) :
    s.entryAfter (it :: due) e = s.entryAfter due e := by
  unfold State.entryAfter
  rw [List.filter_cons_of_neg (by simpa using h)]

theorem State.entryAfter_congr {s t : State} {e : Nat} (h : t.entry e = s.entry e) (due : List AgendaItem) :
    t.entryAfter due e = s.entryAfter due e := by
  unfold State.entryAfter; rw [h]

/-- A run of firings leaves an entry as entryAfter says, unless it is a once-entry with no item in the agenda, which
stays. -/
theorem State.foldl_fireItem_entry (due : List AgendaItem) (s : State) (h : s.towerTime ≠ none)
    (hd : due.Pairwise (fun a b => a.sameStart b = false)) (hf : s.Firing due) (e : Nat) :
    (due.foldl State.fireItem s).entry e =
      if (s.entry e).once = true ∧ ∀ a ∈ s.calendar.agenda, a.entry ≠ e then s.entry e else s.entryAfter due e := by
  induction due generalizing s with
  | nil => simp [State.entryAfter]
  | cons it due ih =>
    rw [List.foldl_cons]
    have ht : (s.fireItem it).towerTime ≠ none := by simpa [State.towerTime] using h
    have hf' := s.firing_fireItem it due h hd hf
    rw [ih _ ht (List.pairwise_cons.1 hd).2 hf', s.fireItem_once it h]
    cases ha : s.calendar.agenda.any it.sameStart with
    | false =>
      rw [(s.fireItem_calendar it h).1 ha]
      rcases hf it (List.mem_cons_self ..) with hm | hn
      · rw [List.any_eq_false] at ha
        exact absurd ((it.sameStart_iff it).2 ⟨rfl, rfl⟩) (by simpa using ha it hm)
      · by_cases he : e = it.entry
        · rw [he, if_pos hn, if_pos hn]
        · rw [s.entryAfter_cons_ne it due (Ne.symm he)]
    | true =>
      obtain ⟨h1, h2⟩ := (s.fireItem_calendar it h).2 ha
      have h3 := h2 e
      by_cases he : e = it.entry
      · rw [if_pos he] at h3
        obtain ⟨a, hma, hs⟩ := List.any_eq_true.1 ha
        have hae : a.entry = e := by rw [he]; exact ((it.sameStart_iff a).1 hs).1.symm
        have hlive : ¬ ((s.entry e).once = true ∧ ∀ a ∈ s.calendar.agenda, a.entry ≠ e) := fun g => g.2 a hma hae
        rw [if_neg hlive]
        cases ho : (s.entry e).once with
        | true =>
          have hdead : ∀ b ∈ (s.fireItem it).calendar.agenda, b.entry ≠ e := by
            intro b hb
            rw [h1] at hb
            have := List.of_mem_filter hb
            rw [← he, ho] at this
            simpa using (Bool.and_eq_true_iff.1 this).2
          rw [if_pos ⟨rfl, hdead⟩, h3]
          simp only [State.entryAfter, ho, if_true]
          rw [List.filter_cons_of_pos (by simp [he])]
          rfl
        | false =>
          rw [if_neg (fun g => Bool.noConfusion g.1)]
          rw [ho] at h3
          simp only [State.entryAfter, h3, ho, Bool.false_eq_true, if_false]
          rw [List.filter_cons_of_pos (by simp [he]), List.getLast?_cons]
          cases (due.filter fun x => decide (x.entry = e)).getLast? <;> rfl
      · rw [if_neg he] at h3
        have hq : (∀ a ∈ (s.fireItem it).calendar.agenda, a.entry ≠ e) ↔ ∀ a ∈ s.calendar.agenda, a.entry ≠ e := by
          rw [h1]
          refine ⟨fun g a hma hae => g a (List.mem_filter.2 ⟨hma, ?_⟩) hae,
            fun g a hma => g a (List.mem_of_mem_filter hma)⟩
          have hne : ¬ a.entry = it.entry := fun k => he (hae.symm.trans k)
          simp [AgendaItem.sameStart, hne]
        rw [h3, s.entryAfter_cons_ne it due (Ne.symm he), State.entryAfter_congr h3]
        simp only [hq]

/-- What a firing leaves of the calendar before its start is what State.marked says. -/
theorem State.fireEntry_marked (s : State) (it : AgendaItem) : s.fireEntry it = s.marked it := by
  unfold State.fireEntry State.marked State.setEntry State.agendaAfter
  simp only [State.withCalendar, List.all_cons, List.all_nil, Bool.and_true]
  congr 2
  refine List.filter_congr fun a _ => ?_
  by_cases h : a.entry = it.entry
  · simp [h]
  · have : ¬ it.entry = a.entry := fun g => h g.symm
    simp [h, this]

/-- The firing of an item is a FiredItem. -/
theorem State.fireItem_firedItem (s : State) (it : AgendaItem) (p : TowerTime) (h : s.towerTime = some p) :
    s.FiredItem (s.fireItem it) it (p.abs - it.instant.abs) := by
  have ha : s.calendar.agenda.any it.sameStart = true ↔
      ∃ a ∈ s.calendar.agenda, a.entry = it.entry ∧ a.instant = it.instant := by
    rw [List.any_eq_true]
    refine exists_congr fun a => and_congr_right fun _ => ?_
    rw [AgendaItem.sameStart_iff]
    exact and_congr eq_comm eq_comm
  unfold State.FiredItem State.fireItem
  rw [h]
  dsimp only
  constructor
  · intro hn
    rw [if_neg (fun g => let ⟨a, hm, e⟩ := ha.1 g; hn a hm e)]
  · intro hm
    rw [if_pos (ha.2 hm), s.fireEntry_marked it]
    have hl : (s.marked it).settings.lateLimit = s.settings.lateLimit := rfl
    have hr : (s.marked it).showReady it.showNo = s.showReady it.showNo := rfl
    unfold State.offerStart
    rw [hl, hr]
    refine ⟨fun g => if_pos g, fun g r => ?_, fun g r => ?_⟩ <;> rw [if_neg (Nat.not_lt.2 g), r]
    · exact if_neg Bool.false_ne_true
    · exact if_pos rfl

/-- A run of firings is a FireRun. -/
theorem State.fireRun_foldl (p : TowerTime) (due : List AgendaItem) (s : State) (h : s.towerTime = some p) :
    State.FireRun p due s (due.foldl State.fireItem s) := by
  induction due generalizing s with
  | nil => rfl
  | cons it due ih => exact ⟨_, s.fireItem_firedItem it p h, ih _ (by simpa [State.towerTime] using h)⟩

end Sys2Proof.Machine
end

