-- ==== Sys2Proof/Machine/Replies.lean ====
section
/-! DEFINITION. The octets of what leaves on the show port: replies with their results, and alerts (R168, R190, R198,
R199). Widths and orders that no table shows are log entries 10, 11, 25 and 26. -/

namespace Sys2Proof.Machine

/-! ## Types of R199 -/

/-- A signed field, two's complement (R199). DESIGN CHOICE (log entry 25): a value outside the range of n octets, for
which the spec states no octets, is carried modulo 256^n. -/
def signedOctets (n : Nat) (v : Int) : List Octet := beOctets n (v % (256 ^ n : Nat)).toNat

/-- An instant: eight octets, two's complement. -/
def instantOctets (v : Int) : List Octet := signedOctets 8 v

/-- A flag, yes/no or on/off octet. -/
def flagOctet (b : Bool) : List Octet := beOctets 1 (if b then 1 else 0)

/-- An optional field: a presence octet, then the field, or 0 in its w octets. -/
def optOctets {α : Type} (w : Nat) (f : α → List Octet) : Option α → List Octet
  | some a => 1#8 :: f a
  | none => 0#8 :: List.replicate w 0#8

/-- An optional unsigned field of n octets. -/
def optNat (n : Nat) : Option Nat → List Octet := optOctets n (beOctets n)

/-- A count that is none of the small ones: two octets, unsigned (R199). FREE VALUE (log entry 26): a count above 65,535,
for which the spec states no two octets, is carried as Config.countBeyondTwoOctets of it. -/
def countOctets (n : Nat) : List Octet :=
  beOctets 2 (if n < 65536 then n else (Config.countBeyondTwoOctets n).toNat)

/-- A look: three levels of two octets. -/
def lookOctets (l : Look) : List Octet := beOctets 2 l.red ++ beOctets 2 l.green ++ beOctets 2 l.blue

/-- A point of tower time: day number and ms of day. -/
def timeOctets (t : TowerTime) : List Octet := beOctets 2 t.day ++ beOctets 4 t.ms

/-- A bank's number. -/
def bankOctet : BankNo → List Octet
  | .bank0 => beOctets 1 0
  | .bank1 => beOctets 1 1

/-- Granularity codes, with the octet for the show or entry (R199). -/
def granularityOctets : Granularity → List Octet
  | .all => beOctets 1 0 ++ beOctets 1 0
  | .show s => beOctets 1 1 ++ beOctets 1 s
  | .entry e => beOctets 1 2 ++ beOctets 1 e
  | .resume => beOctets 1 3 ++ beOctets 1 0

/-- Colour orders, RGB 0 through BGR 5 (R199). -/
def orderCode : ColourOrder → Nat
  | .rgb => 0
  | .rbg => 1
  | .grb => 2
  | .gbr => 3
  | .brg => 4
  | .bgr => 5

/-- Curves, LINEAR 1 and EASE 2 (R199). -/
def curveCode : Curve → Nat
  | .linear => 1
  | .ease => 2

/-- Loss policies, HOLD_LAST 1 and TO_FALLBACK 2 (R199). -/
def policyCode : LossPolicy → Nat
  | .holdLast => 1
  | .toFallback => 2

/-- An origin: the entry, or absent for MANUAL (log entry 11). -/
def originOctets : Origin → List Octet
  | .entry e => optNat 1 (some e)
  | .manual => optNat 1 none

/-- Outcome codes (R198). -/
def verdictCode : Verdict → Nat
  | .ok => 0
  | .adjusted => 1
  | .refusedRange => 2
  | .refusedState => 3
  | .noRoom => 4
  | .overlap => 5
  | .notReady => 6
  | .unknownRequest => 7

/-! ## Enumerations that begin at 0 in the order the owning chapter lists them (R199) -/

/-- SET, SLEWED, STEPPED (R12). -/
def actionCode : TimeAction → Nat
  | .set => 0
  | .slewed => 1
  | .stepped => 2

/-- STALE, BUILDING, CURRENT (02). -/
def agendaCode : AgendaPhase → Nat
  | .stale => 0
  | .building => 1
  | .current => 2

/-- EMPTY, LOADING, READY (R43). -/
def showCode : ShowState → Nat
  | .empty => 0
  | .loading _ _ => 1
  | .ready _ _ => 2

/-- The reasons of R51. -/
def reasonCode : BadReason → Nat
  | .notWritten => 0
  | .offsetRange => 1
  | .offsetOrder => 2
  | .zoneRange => 3
  | .sourceRange => 4

/-- FREE, RUNNING, HOLDING, ENDING (R58). -/
def slotCode : SlotPhase → Nat
  | .free => 0
  | .running => 1
  | .holding => 2
  | .ending => 3

/-- UNSET, LOCKED, FREEWHEEL (01). -/
def clockCode : ClockPhase → Nat
  | .unset => 0
  | .locked => 1
  | .freewheel => 2

/-- IDLE, LIVE, LOST (R129). -/
def sourceCode : SourceState → Nat
  | .idle => 0
  | .live => 1
  | .lost => 2

/-- IDLE, SWITCHING (07, 08). -/
def switchCode : SwitchStatus → Nat
  | .idle => 0
  | .switching => 1

/-- DISABLED, SETTLING, ENABLED (08). -/
def guardCode : GuardStatus → Nat
  | .disabled => 0
  | .settling => 1
  | .enabled => 2

/-- OFF, REST, SETUP, WARMUP, EMITTING, FAULTED (R141). -/
def laneCode : LaneState → Nat
  | .off => 0
  | .rest => 1
  | .setup => 2
  | .warmup => 3
  | .emitting => 4
  | .faulted => 5

/-- EMPTY, SAVING, SAVED, FAILED (11). -/
def imageCode : ImagePhase → Nat
  | .empty => 0
  | .saving => 1
  | .saved => 2
  | .failed => 3

/-- EMPTY 0, SET 1, SPENT 2 (R199). -/
def entryCode : EntryState → Nat
  | .empty => 0
  | .set => 1
  | .spent => 2

/-- The fault kinds in the order of R182. -/
def faultCode : FaultKind → Nat
  | .timeLost => 0
  | .timeEarly => 1
  | .sourceLost _ => 2
  | .badFrames => 3
  | .queueOverflow => 4
  | .agendaFull => 5
  | .noSlot _ => 6
  | .showNotReady _ => 7
  | .missedStart _ => 8
  | .noReceipt _ => 9
  | .laneRejected _ => 10
  | .imageWrite => 11

/-- The subject of a fault (R182). -/
def FaultKind.subject : FaultKind → Option Nat
  | .timeLost => none
  | .timeEarly => none
  | .sourceLost i => some i
  | .badFrames => none
  | .queueOverflow => none
  | .agendaFull => none
  | .noSlot e => e
  | .showNotReady e => some e
  | .missedStart e => some e
  | .noReceipt l => some l
  | .laneRejected l => some l
  | .imageWrite => none

/-- The kind of LANE frame, in the order LANE_LEVELS, LANE_SETUP (R198). -/
def waitingCode : WaitingClass → Nat
  | .levels => 0
  | .setup => 1

/-- The reset-cause flags as a set (R201). -/
def causesOctet (c : ResetCauses) : List Octet :=
  beOctets 1 ((if c.powerOn then 1 else 0) + (if c.resetLine then 2 else 0) + (if c.restart then 4 else 0)
    + (if c.imageBad then 8 else 0))

/-! ## Records -/

/-- The flags octet of a calendar entry in a reply (R199). -/
def entryFlags (e : CalendarEntry) : Nat :=
  (if e.endAt.isSome then 1 else 0) + (if e.step.isSome then 2 else 0) + (if e.once then 4 else 0)
    + (if e.lastFired.isSome then 8 else 0)

/-- A calendar entry in a reply, 25 octets (R199). -/
def entryOctets (e : CalendarEntry) : List Octet :=
  beOctets 1 (entryFlags e) ++ beOctets 2 e.firstDate ++ beOctets 2 e.lastDate ++ beOctets 1 e.weekdays
    ++ beOctets 4 e.start ++ beOctets 4 (e.endAt.getD 0) ++ beOctets 2 (e.step.getD 0) ++ beOctets 1 e.showNo
    ++ beOctets 1 e.priority ++ beOctets 1 (entryCode e.state) ++ timeOctets (e.lastFired.getD ⟨0, 0⟩)

/-- The fields of a cue record after the offset, each 0 where the kind does not use it (R199). -/
structure CueFields where
  kind : Nat
  zoneFirst : Nat := 0
  zoneCount : Nat := 0
  look : Look := .black
  source : Nat := 0
  policy : Nat := 0
  fade : Nat := 0
  curve : Nat := 0
  master : Nat := 0
  hold : Nat := 0

/-- The fields a cue's kind uses (R48, R199). -/
def cueFields : Cue → CueFields
  | .look z n l fade c => { kind := 1, zoneFirst := z, zoneCount := n, look := l, fade := fade, curve := curveCode c }
  | .follow z n l src p fade c =>
      { kind := 2, zoneFirst := z, zoneCount := n, look := l, source := src, policy := policyCode p, fade := fade
        curve := curveCode c }
  | .release z n => { kind := 3, zoneFirst := z, zoneCount := n }
  | .master target fade => { kind := 4, fade := fade, master := target }
  | .hold limit => { kind := 5, hold := limit }
  | .finish fade => { kind := 6, fade := fade }

/-- A cue record of a READ_CUES reply, 25 octets; "not written carries 0 in every octet" (R199). -/
def cueOctets : Option CueRecord → List Octet
  | none => List.replicate 25 0#8
  | some r =>
      let f := cueFields r.cue
      beOctets 4 r.offset ++ beOctets 1 f.kind ++ beOctets 1 1 ++ beOctets 1 f.zoneFirst ++ beOctets 1 f.zoneCount
        ++ lookOctets f.look ++ beOctets 1 f.source ++ beOctets 1 f.policy ++ beOctets 4 f.fade ++ beOctets 1 f.curve
        ++ beOctets 2 f.master ++ beOctets 2 f.hold

/-- An agenda item (R25). -/
def itemOctets (it : AgendaItem) : List Octet :=
  beOctets 1 it.entry ++ timeOctets it.instant ++ beOctets 1 it.showNo ++ beOctets 1 it.priority

/-- A handover with its end instant (R100). -/
def handoverOctets (h : Handover) : List Octet :=
  lookOctets h.fromLook ++ instantOctets h.start ++ beOctets 4 h.duration ++ instantOctets h.finish

/-- The code of a layer's mode, LOOK 0 and FOLLOW 1 (R84, R199). -/
def modeCode : LayerMode → Nat
  | .look _ => 0
  | .follow _ _ _ _ _ => 1

/-- The code of a layer's substate, TRACKING 0 and FALLEN 1 (R84, R199). -/
def substateCode : Substate → Nat
  | .tracking => 0
  | .fallen => 1

/-- The fields of a layer that only one mode has, in R84's order: to, source, loss policy, fallback look, follow fade
time and substate. DESIGN CHOICE (log entry 11): each is an optional field of R199, so a field that the layer's mode
does not have is carried as 0 behind a presence octet of 0. -/
def modeOctets : LayerMode → List Octet
  | .look target =>
      optOctets 6 lookOctets (some target) ++ optNat 1 none ++ optNat 1 none ++ optOctets 6 lookOctets none
        ++ optNat 4 none ++ optNat 1 none
  | .follow src p fallback fade sub =>
      optOctets 6 lookOctets none ++ optNat 1 (some src) ++ optNat 1 (some (policyCode p))
        ++ optOctets 6 lookOctets (some fallback) ++ optNat 4 (some fade) ++ optNat 1 (some (substateCode sub))

/-- A layer of a READ_ZONE reply: the fields in R84's order, then L at the current instant (R100). -/
def layerOctets (r : LayerReport) : List Octet :=
  beOctets 1 r.slot ++ beOctets 1 r.layer.priority ++ instantOctets r.layer.runStart
    ++ beOctets 1 (modeCode r.layer.mode) ++ lookOctets r.layer.fadeFrom ++ instantOctets r.layer.fadeStart
    ++ beOctets 4 r.layer.fadeDuration ++ beOctets 1 (curveCode r.layer.curve) ++ modeOctets r.layer.mode
    ++ lookOctets r.value

/-- A master fade: from, to, start and duration (R58). -/
def masterOctets (f : MasterFade) : List Octet :=
  beOctets 2 f.fromLevel ++ beOctets 2 f.toLevel ++ instantOctets f.start ++ beOctets 4 f.duration

/-- The hold of a slot: its start and its limit (R58). -/
def Playback.hold (p : Playback) : Option (Int × Nat) :=
  match p.phase with
  | .holding start limit => some (start, limit)
  | _ => none

/-- The release instant of a slot (R58). -/
def Playback.releaseInstant (p : Playback) : Option Int :=
  match p.phase with
  | .ending r => some r
  | _ => none

/-- The fields of a slot other than its state, in R58's order. DESIGN CHOICE (log entry 11): since each of them is
absent at some time ("A FREE slot holds only its state. Every other field is absent in FREE", R58), each is an
optional field of R199, with a presence octet of its own, and is carried as 0 where it is absent. -/
def slotOctets (p : Option Playback) : List Octet :=
  optNat 1 (p.map (·.showNo)) ++ optOctets 2 originOctets (p.map (·.origin)) ++ optNat 1 (p.map (·.priority))
    ++ optOctets 8 instantOctets (p.map (·.runStart)) ++ optOctets 4 (signedOctets 4) (p.map (·.held))
    ++ optOctets 8 instantOctets ((p.bind (·.hold)).map (·.1)) ++ optNat 2 ((p.bind (·.hold)).map (·.2))
    ++ optNat 2 (p.map (·.nextCue)) ++ optOctets 8 instantOctets (p.bind (·.endInstant))
    ++ optOctets 16 masterOctets (p.map (·.master)) ++ optOctets 8 instantOctets (p.bind (·.releaseInstant))

/-- The slot state of a READ_PLAYBACK reply. -/
def reportedPhase : Option Playback → SlotPhase
  | none => .free
  | some p =>
      match p.phase with
      | .running => .running
      | .holding _ _ => .holding
      | .ending _ => .ending

/-- A fault record (R182, R185). -/
def faultOctets (r : FaultRecord) : List Octet :=
  beOctets 1 (faultCode r.kind) ++ optNat 1 r.kind.subject ++ instantOctets r.runInstant
    ++ optOctets 6 timeOctets r.towerTime

/-- A lane's configuration (R141). -/
def laneConfigOctets (c : LaneConfig) : List Octet :=
  flagOctet c.configured ++ beOctets 2 c.channelCount ++ beOctets 4 c.period ++ beOctets 2 c.warmUp
    ++ flagOctet c.curfewExempt ++ flagOctet c.autoRest

/-- A guard range (R159). -/
def guardOctets (g : Guard) : List Octet :=
  beOctets 1 g.lane ++ beOctets 2 g.first ++ beOctets 2 g.last ++ beOctets 2 g.held

/-- A ceiling band (R111). -/
def bandOctets (b : Band) : List Octet := flagOctet b.present ++ beOctets 4 b.fromMs ++ beOctets 2 b.ceiling

/-! ## Results -/

/-- READ_AGENDA's results (R25). -/
def agendaOctets (r : AgendaReport) : List Octet :=
  beOctets 1 (agendaCode r.state) ++ r.items.flatMap itemOctets ++ optOctets 2 granularityOctets r.building
    ++ optOctets 2 granularityOctets r.pending ++ flagOctet r.truncated ++ optOctets 2 granularityOctets r.lastActual

/-- READ_SHOW's results (R54). -/
def showOctets (r : ShowReport) : List Octet :=
  beOctets 1 (showCode r.state) ++ optNat 2 (r.state.run.map (·.1)) ++ optNat 2 (r.state.run.map (·.2))
    ++ countOctets r.playing ++ optNat 2 r.written ++ countOctets r.freeRecords ++ countOctets r.largestRun
    ++ optNat 2 r.lowestBase

/-- READ_PLAYBACK's results (R79). -/
def playbackOctets (r : PlaybackReport) : List Octet :=
  beOctets 1 (slotCode (reportedPhase r.slot)) ++ slotOctets r.slot
    ++ optOctets 4 (signedOctets 4) r.showTime ++ optNat 2 r.master ++ optOctets 8 instantOctets r.nextCueInstant
    ++ countOctets r.duplicateStarts ++ countOctets r.expiredStarts

/-- READ_ZONE's results (R100). DESIGN CHOICE (log entry 11): the spec gives no code for an owner of NONE, which is
sent as an absent optional slot. -/
def zoneOctets (r : ZoneReport) : List Octet :=
  optNat 1 r.owner ++ lookOctets r.house ++ optOctets 26 handoverOctets r.handover ++ r.layers.flatMap layerOctets
    ++ lookOctets r.ownerValue ++ lookOctets r.value ++ r.live.flatMap (fun p => lookOctets p.1 ++ flagOctet p.2)

/-- READ_CEILING's results (R115): the basis is TIME_OF_DAY 0 with the ms of day used, or UNSET 1. DESIGN CHOICE (log
entry 11): the ms of day, which R115 names with TIME_OF_DAY alone, is an optional field of R199 with a presence octet, and
is carried as 0 under UNSET. -/
def ceilingOctets (r : CeilingReport) : List Octet :=
  r.bands.flatMap bandOctets ++ beOctets 1 (if r.basis.isSome then 0 else 1) ++ optNat 4 r.basis ++ optNat 1 r.inForce
    ++ beOctets 2 r.ceiling

/-- READ_SOURCE's results (R132). DESIGN CHOICE (log entry 10): a stored sequence is an optional field of one octet,
the width it has in a LEVEL frame (R198). -/
def sourceOctets (r : SourceReport) : List Octet :=
  flagOctet r.config.enabled ++ beOctets 1 r.config.origin ++ beOctets 4 r.config.lossTime
    ++ beOctets 1 (sourceCode r.state) ++ optNat 4 r.remaining ++ r.sequences.flatMap (optNat 1)
    ++ countOctets r.accepted ++ countOctets r.duplicate ++ countOctets r.stale

/-- READ_LANE's results (R163). DESIGN CHOICE (log entry 10): the setup sequence and the frame number take one octet
each, the width they have in their frames (R198), and retries left takes two, as any other count of R199. A waiting
frame and its class are one optional field (log entry 11). -/
def laneOctets (r : LaneReport) : List Octet :=
  laneConfigOctets r.config ++ beOctets 1 (laneCode r.state) ++ flagOctet r.cold ++ beOctets 1 r.setupSequence
    ++ countOctets r.retriesLeft ++ optNat 4 r.receiptRemaining ++ optNat 4 r.periodRemaining
    ++ countOctets r.warmUpRemaining ++ beOctets 1 r.frameNumber ++ bankOctet r.bank ++ flagOctet r.guardInUse
    ++ optNat 1 (r.waiting.map waitingCode)

/-- READ_STATUS's results (R177). DESIGN CHOICE (log entry 10): the last accepted tick takes two octets, the width of a
tick sequence in a TIME frame (R198). -/
def statusOctets (r : StatusReport) : List Octet :=
  instantOctets r.runInstant ++ beOctets 1 (clockCode r.clock) ++ optOctets 6 timeOctets r.towerTime
    ++ signedOctets 4 r.remainder ++ optOctets 8 (fun n => instantOctets (n : Nat)) r.lastAccepted ++ optNat 2 r.lastTick
    ++ beOctets 1 (agendaCode r.agenda) ++ countOctets r.itemCount ++ flagOctet r.truncated
    ++ optOctets 2 granularityOctets r.lastActual ++ r.slots.flatMap (fun p => beOctets 1 (slotCode p))
    ++ beOctets 1 (switchCode r.inputSwitch) ++ bankOctet r.inputBank ++ bankOctet r.outputBank
    ++ beOctets 1 (switchCode r.outputSwitch) ++ flagOctet r.requestedGuard ++ beOctets 1 (guardCode r.guardStatus)
    ++ beOctets 1 (imageCode r.image) ++ flagOctet r.faultPending ++ flagOctet r.overflow ++ flagOctet r.alertPending
    ++ causesOctet r.causes ++ countOctets r.requests ++ countOctets r.outbound ++ optNat 1 r.pendingNode

/-- READ_FAULTS's results (R185). -/
def faultsOctets (r : FaultReport) : List Octet :=
  r.records.flatMap (optOctets 18 faultOctets) ++ beOctets 1 r.nextWrite ++ flagOctet r.pending ++ optNat 1 r.first
    ++ countOctets r.present ++ flagOctet r.overflow ++ countOctets r.dropped ++ flagOctet r.alertPending

/-- The show-port counters in the order of R138, then the time unit's (R178). -/
def showPortOctets (c : ShowPortCounters) (accepted early malformed : Nat) : List Octet :=
  [c.badFrame, c.oversize, c.notMine, c.queueFull, c.unknownClass, c.foreignTime, c.foreignRequest, c.managementDrop,
    c.unknownSource, c.malformedLevel].flatMap countOctets
    ++ countOctets accepted ++ countOctets early ++ countOctets malformed

/-- The octets of a reply's results (R199). DESIGN CHOICE (log entry 10): the number of records stored that a WRITE_CUES
reply carries (R50) takes one octet, as the small count that R199 calls the WRITE_CUES record count; R199 does not say
whether it means the reply's number too, which would take two octets as any other count. -/
def resultOctets : Result → List Octet
  | .none => []
  | .timeApplied action d => beOctets 1 (actionCode action) ++ optOctets 4 (signedOctets 4) d
  | .calendarEntry e => entryOctets e
  | .agenda r => agendaOctets r
  | .rebuild place g => beOctets 1 (match place with | .begun => 0 | .pending => 1) ++ granularityOctets g
  | .showOpened base => beOctets 2 base
  | .cuesStored n => beOctets 1 n
  | .badRecord i reason => beOctets 2 i ++ beOctets 1 (reasonCode reason)
  | .cues records => records.flatMap cueOctets
  | .showRecord r => showOctets r
  | .started slot victim =>
      beOctets 1 slot ++ optNat 1 (victim.map (·.1)) ++ optOctets 2 originOctets (victim.map (·.2))
  | .playback r => playbackOctets r
  | .zone r => zoneOctets r
  | .ceiling r => ceilingOctets r
  | .source r => sourceOctets r
  | .inputEntry e bank =>
      flagOctet e.present ++ beOctets 1 e.source ++ beOctets 1 e.sourceLane ++ beOctets 2 e.firstChannel
        ++ beOctets 1 e.zoneFirst ++ beOctets 1 e.zoneCount ++ beOctets 1 (orderCode e.order) ++ bankOctet bank
  | .overlapping i j => beOctets 1 i ++ beOctets 1 j
  | .overlappingOutputs i j => beOctets 2 i ++ beOctets 2 j
  | .lane r => laneOctets r
  | .laneList lanes => lanes.flatMap (beOctets 1)
  | .outputEntry e bank =>
      flagOctet e.present ++ beOctets 1 e.lane ++ beOctets 2 e.firstChannel ++ beOctets 1 e.zoneFirst
        ++ beOctets 1 e.zoneCount ++ beOctets 1 (orderCode e.order) ++ beOctets 2 e.gain ++ bankOctet bank
  | .guards ranges requested status =>
      ranges.flatMap guardOctets ++ flagOctet requested ++ beOctets 1 (guardCode status)
  | .settingValue name value pending =>
      beOctets name.width value ++ (if name = .nodeAddress then optNat 1 pending else [])
  | .settingStored name value => beOctets name.width value
  | .status r => statusOctets r
  | .showPortCounters c accepted early malformed => showPortOctets c accepted early malformed
  | .fixturePortCounters bad foreign malformed => countOctets bad ++ countOctets foreign ++ countOctets malformed
  | .sourceCounters accepted duplicate stale => countOctets accepted ++ countOctets duplicate ++ countOctets stale
  | .laneCounters emitted late stale flag n =>
      countOctets emitted ++ countOctets late ++ countOctets stale ++ flagOctet flag ++ countOctets n
  | .resetMembers m => beOctets 1 m
  | .faults r => faultsOctets r
  | .faultCleared pending present => flagOctet pending ++ countOctets present
  | .overflowCleared dropped => countOctets dropped
  | .resetCauses c => causesOctet c

/-! ## Frames -/

/-- A MGMT_REPLY's payload: tag, kind, outcome, reply flags, results (R198). -/
def replyPayload (r : Reply) : List Octet :=
  let e := r.envelope.getD (0, 0)
  beOctets 2 e.1 ++ beOctets 2 e.2 ++ beOctets 1 (verdictCode r.outcome)
    ++ beOctets 1 (if r.envelope.isNone then 1 else 0) ++ resultOctets r.result

/-- An ALERT's payload: alert flags, first-pending index, present count, dropped count (R190, R198). -/
def alertPayload (a : Alert) : List Octet :=
  beOctets 1 ((if a.first.isSome then 1 else 0) + (if a.overflow then 2 else 0)) ++ beOctets 1 (a.first.getD 0)
    ++ beOctets 1 a.present ++ beOctets 1 a.dropped

/-- The octets of a frame that leaves on the show port (R198, R199). -/
def outOctets : OutFrame → List Octet
  | .reply r => frameOctets classReply r.dest r.origin (replyPayload r)
  | .alert a => frameOctets classAlert a.dest a.origin (alertPayload a)

end Sys2Proof.Machine
end

