-- ==== Sys2Proof/Laws/Replies.lean ====
section
/-! SUPPORT. What a count of a reply is in octets: always two, and up to 65,535 the count itself (R199). -/

namespace Sys2Proof.Machine

@[simp] theorem countOctets_length (n : Nat) : (countOctets n).length = 2 := rfl

@[simp] theorem countOctets_of_le {n : Nat} (h : n ≤ 65535) : countOctets n = beOctets 2 n := by
  simp [countOctets, Nat.lt_succ_of_le h]

end Sys2Proof.Machine
end

