-- ==== Sys2Proof/Laws/Requests.lean ====
section
/-! SUPPORT. What the take of a request leaves (R166 to R169): one lemma per shape of answer, so that no later proof
unfolds State.request. -/

namespace Sys2Proof.Machine

/-- The state in which the owner of a request carries it out: the request has left the queue, and a place of the
outbound queue is reserved (R167). -/
def State.atTake (s : State) : State :=
  s.withMgmt { s.mgmt with requests := s.mgmt.requests.tail, replyReserved := true }

@[simp] theorem State.atTake_frame (s : State) :
    s.atTake.time = s.time ∧ s.atTake.calendar = s.calendar ∧ s.atTake.cueStore = s.cueStore ∧
      s.atTake.playback = s.playback ∧ s.atTake.mixer = s.mixer ∧ s.atTake.ingress = s.ingress ∧
      s.atTake.lanes = s.lanes ∧ s.atTake.faults = s.faults ∧ s.atTake.image = s.image ∧
      s.atTake.pending = s.pending ∧ s.atTake.freeCount = s.freeCount ∧ s.atTake.mgmt.settings = s.mgmt.settings ∧
      s.atTake.mgmt.outbound = s.mgmt.outbound ∧ s.atTake.mgmt.line = s.mgmt.line ∧
      s.atTake.mgmt.pendingNode = s.mgmt.pendingNode ∧ s.atTake.mgmt.restartPending = s.mgmt.restartPending := by
  simp [State.atTake]

/-- A request that is free to be taken is carried out at once: by its owner when its arguments fit, and otherwise
refused. -/
theorem State.request_of_free {s : State} {c : Instr} (hf : s.Free c) (hd : ReqHead) (owner : State → Answer) :
    s.request c hd owner =
      (if hd.fits then owner s.atTake else s.atTake.refuse .refusedRange).state.placeReply
        (replyOf hd c.kindNumber s.settings.nodeAddress
          (if hd.fits then owner s.atTake else s.atTake.refuse .refusedRange)) := by
  obtain ⟨ho, hr, hq⟩ := hf
  have hm : s.mayTake = true := by simp [State.mayTake, ho, hr]
  unfold State.request
  cases hl : s.mgmt.requests with
  | nil =>
    have : s.reserve = s.atTake := by simp [State.reserve, State.atTake, hl, State.withMgmt]
    simp [hm, State.carryOut, this]
  | cons o rest =>
    have ho : o = c := by rcases hq with hq | hq <;> simp_all
    have : (s.withRequests rest).reserve = s.atTake := by
      simp [State.reserve, State.atTake, hl, State.withRequests, State.withMgmt]
    have hs : (s.withRequests rest).settings = s.settings := rfl
    simp only [ho, hm, if_true, State.carryOut, this, hs]

/-- A request that is taken is carried out by its owner, and its reply is placed. -/
theorem State.request_of_takes {s : State} {c : Instr} {hd : ReqHead} (ht : s.Takes c hd) (owner : State → Answer) :
    s.request c hd owner =
      (owner s.atTake).state.placeReply (replyOf hd c.kindNumber s.settings.nodeAddress (owner s.atTake)) := by
  rw [State.request_of_free ht.1, ht.2]; rfl

/-- A refusal changes nothing but the queues of the management unit (R168, R169). -/
theorem State.request_refuse {s : State} {c : Instr} {hd : ReqHead} (ht : s.Takes c hd) {owner : State → Answer}
    {v : Verdict} (h : owner s.atTake = s.atTake.refuse v) : s.request c hd owner = s.repliesOnly c hd v .none := by
  rw [State.request_of_takes ht, h]; rfl

/-- A read changes nothing but the queues of the management unit. -/
theorem State.request_report {s : State} {c : Instr} {hd : ReqHead} (ht : s.Takes c hd) {owner : State → Answer}
    {r : Result} (h : owner s.atTake = s.atTake.report r) : s.request c hd owner = s.repliesOnly c hd .ok r := by
  rw [State.request_of_takes ht, h]; rfl

/-- A request whose owner leaves the management unit alone leaves what the owner leaves, and the reply. -/
theorem State.request_answer {s : State} {c : Instr} {hd : ReqHead} (ht : s.Takes c hd) {owner : State → Answer}
    {v : Verdict} {r : Result} {e : ReplyEnd} {u : State} (h : owner s.atTake = ⟨v, r, u, e⟩)
    (hm : u.mgmt = s.atTake.mgmt) : s.request c hd owner = u.withMgmt (s.replied c hd v r e) := by
  rw [State.request_of_takes ht, h]
  simp only [State.placeReply, hm]; rfl

end Sys2Proof.Machine
end

