-- ==== Sys2Proof/Laws/Wire.lean ====
section
/-! SUPPORT. The common frame there and back: what frameOctets writes, parseFrame reads (R198, R200). -/

namespace Sys2Proof.Machine

/-- A frame whose header fields fit their octets is read back as it was written. -/
theorem parseFrame_frameOctets (cls dest origin : Nat) (payload : List Octet) (hc : cls < 256) (hd : dest < 256)
    (ho : origin < 256) (hp : payload.length < 65536) :
    parseFrame (frameOctets cls dest origin payload) = some ⟨cls, dest, origin, payload⟩ := by
  have hbody : ∀ tail : List Octet, beOctets 1 cls ++ beOctets 1 dest ++ beOctets 1 origin ++
      beOctets 2 payload.length ++ payload ++ tail =
      BitVec.ofNat 8 cls :: BitVec.ofNat 8 dest :: BitVec.ofNat 8 origin :: BitVec.ofNat 8 (payload.length / 256) ::
        BitVec.ofNat 8 payload.length :: (payload ++ tail) := by
    intro tail; simp [beOctets]
  have hn : beNat [BitVec.ofNat 8 (payload.length / 256), BitVec.ofNat 8 payload.length] = payload.length := by
    simp [beNat]; omega
  obtain ⟨chk, hchk⟩ : ∃ chk, checkOctets (checkWord (BitVec.ofNat 8 cls :: BitVec.ofNat 8 dest :: BitVec.ofNat 8 origin ::
      BitVec.ofNat 8 (payload.length / 256) :: BitVec.ofNat 8 payload.length :: payload)) = chk := ⟨_, rfl⟩
  have hlen : chk.length = 4 := by rw [← hchk]; rfl
  have hpre := hbody []
  rw [List.append_nil, List.append_nil] at hpre
  have hframe : frameOctets cls dest origin payload = BitVec.ofNat 8 cls :: BitVec.ofNat 8 dest ::
      BitVec.ofNat 8 origin :: BitVec.ofNat 8 (payload.length / 256) :: BitVec.ofNat 8 payload.length ::
      (payload ++ chk) := by
    unfold frameOctets
    rw [← hbody chk, ← hchk, ← hpre]
  rw [hframe]
  unfold parseFrame
  simp only [hn]
  have htake : (BitVec.ofNat 8 cls :: BitVec.ofNat 8 dest :: BitVec.ofNat 8 origin ::
      BitVec.ofNat 8 (payload.length / 256) :: BitVec.ofNat 8 payload.length :: (payload ++ chk)).take
      (5 + payload.length) = BitVec.ofNat 8 cls :: BitVec.ofNat 8 dest :: BitVec.ofNat 8 origin ::
      BitVec.ofNat 8 (payload.length / 256) :: BitVec.ofNat 8 payload.length :: payload := by
    rw [Nat.add_comm]; simp
  have hdrop : (BitVec.ofNat 8 cls :: BitVec.ofNat 8 dest :: BitVec.ofNat 8 origin ::
      BitVec.ofNat 8 (payload.length / 256) :: BitVec.ofNat 8 payload.length :: (payload ++ chk)).drop
      (5 + payload.length) = chk := by rw [Nat.add_comm]; simp
  rw [htake, hdrop, hchk, if_pos ⟨by simp [hlen]; omega, rfl⟩]
  simp [Nat.mod_eq_of_lt, hc, hd, ho]

end Sys2Proof.Machine
end

