-- ==== Sys2Proof/Tests/Slice0.lean ====
section
/-! SUPPORT. Tests: ill-formed commands are refused; the manual's worked numbers; for every statement of
Certificates/Slice0 with hypotheses, a state and operands that meet them. -/

-- One theorem after another: each test evaluates by itself, and elaborated side by side they would need a thread each.
set_option Elab.async false

namespace Sys2Proof.Tests
open Sys2Proof Sys2Proof.Machine

/-! ## Helpers -/

/-- The head of a request from station 200 to node 16 with tag 1. -/
def hd : ReqHead := ⟨200, 16, 1, true⟩

/-- The state a command leaves. -/
def after (c : Instr) (s : State) : State :=
  match exec c s with
  | .next t => t
  | .fault _ => s
  | .refused _ => s

/-- s at another instant. -/
def atInstant (n : Nat) (s : State) : State := s.withTime { s.time with runClock := n }

/-- The machine after reset, in FREEWHEEL at an instant and a tower time. -/
def clockAt (n d ms : Nat) : State :=
  State.reset.withTime { State.reset.time with runClock := n, clock := .freewheel ⟨d, ms⟩ }

/-- The state a request leaves once its reply has been sent. -/
def answered (c : Instr) (s : State) : State :=
  (after c s).withMgmt { (after c s).mgmt with outbound := s.mgmt.outbound }

/-- The outcome and the results of the newest frame of the outbound queue. -/
def lastReply (s : State) : Option (Verdict × Result) :=
  match s.mgmt.outbound.getLast? with
  | some (.reply r) => some (r.outcome, r.result)
  | _ => none

/-! ## Ill-formed commands: one for each check of WellFormed -/

theorem test_wf_head_origin : (Instr.readStatus { hd with origin := 256 }).wf = false := by decide
theorem test_wf_head_dest : (Instr.readStatus { hd with dest := 256 }).wf = false := by decide
theorem test_wf_head_tag : (Instr.readStatus { hd with tag := 65536 }).wf = false := by decide
theorem test_wf_slot : (Instr.nextCueInstant 4).wf = false ∧ (Instr.holdExpiry 4).wf = false ∧
    (Instr.releaseInstant 4).wf = false ∧ (Instr.endInstant 4).wf = false := by decide
theorem test_wf_zone : (Instr.handoverEnd 240).wf = false := by decide
theorem test_wf_source : (Instr.livenessTimerExpiry 8).wf = false := by decide
theorem test_wf_lane : (Instr.receiptTimerExpiry 24).wf = false ∧ (Instr.periodEvent 24).wf = false := by decide
theorem test_wf_octet1 : (Instr.unknownRequest hd (some 65536)).wf = false ∧ (Instr.readZone hd 256).wf = false ∧
    (Instr.startShow hd 256 0).wf = false ∧ (Instr.blockReset hd 256).wf = false := by decide
theorem test_wf_octet2 : (Instr.setTime hd 65536 0).wf = false ∧ (Instr.openShow hd 0 65536).wf = false ∧
    (Instr.writeGuard hd 0 0 65536 0 0).wf = false ∧ (Instr.writeOutputPatch hd 65536 ⟨none, 0, 0, 0, 0, none, 0⟩).wf =
      false := by decide
theorem test_wf_octet4 : (Instr.setTime hd 0 4294967296).wf = false ∧
    (Instr.writeSource hd 0 none 0 4294967296).wf = false ∧ (Instr.setSetting hd none 4294967296).wf = false := by decide
theorem test_wf_look : (Instr.writeHouseLook hd 0 1 ⟨0, 65536, 0⟩).wf = false := by decide
theorem test_wf_lane_set : (Instr.restLanes hd 16777216).wf = false ∧ (Instr.wakeLanes hd 16777216).wf = false := by
  decide
theorem test_wf_records : (Instr.writeCalendarEntry hd 0 ⟨0, 0, 256, 0, none, none, 0, 0, false, false⟩).wf = false ∧
    (Instr.writeInputPatch hd 0 ⟨none, 0, 0, 65536, 0, 0, none⟩).wf = false ∧
    (Instr.writeLane hd 0 ⟨none, 0, 0, 65536, none, none⟩).wf = false := by decide
theorem test_wf_cues : (Instr.writeCues hd 0 0 [⟨0, none, 0, 256, .black, 0, none, 0, none, 0, 0, false⟩]).wf = false := by
  decide
theorem test_wf_granularity : (Instr.rebuildAgenda hd (some (.entry 256))).wf = false ∧
    (Instr.readCounters hd (some (.lane 256)) none).wf = false := by decide

/-! ## The manual's numbers -/

/-- 12.5: the check word of the nine digits as octets is CBF43926. -/
theorem test_check_word :
    checkWord ([0x31, 0x32, 0x33, 0x34, 0x35, 0x36, 0x37, 0x38, 0x39].map (BitVec.ofNat 8)) = 0xCBF43926#32 := by
  decide +kernel

/-- 6.7: a fade from 1000 to 3000 over 2000 ms, 500 ms in. -/
theorem test_blend_linear_ease : blend .linear 500 2000 1000 3000 = 1500 ∧ blend .ease 500 2000 1000 3000 = 1125 ∧
    blend .linear 500 2000 3000 1000 = 2500 := by decide

/-- 6.7: the ends of the ranges. -/
theorem test_blend_ends : blend .linear 7 0 200 3900 = 3900 ∧ progress 1999 2000 = 4093 ∧ mix 1 0 2048 = 1 ∧
    mix 1 0 4096 = 0 ∧ scaleLevel 4095 0 = 0 ∧ scaleLevel 1500 3072 = 1125 := by decide

/-- 6.7: gain and saturation. -/
theorem test_gain : outputLevel 1125 6000 = 1647 ∧ outputLevel 3500 6000 = 4095 ∧ clipped 3500 6000 = true ∧
    outputLevel 4095 8191 = 4095 ∧ clipped 4095 4096 = false := by decide

/-- The ceiling table of 6.7. -/
def bandsOfDay (s : State) : State :=
  s.withMixer { s.mixer with
    bands := [(0, ⟨true, 21600000, 4095⟩), (1, ⟨true, 79200000, 3000⟩), (2, ⟨true, 3600000, 1200⟩),
      (3, ⟨true, 79200000, 3500⟩)] }

theorem test_ceiling_before_first : (bandsOfDay (clockAt 0 0 1800000)).ceilingInForce = 3000 ∧
    (bandsOfDay (clockAt 0 0 1800000)).bandIndexInForce = some 1 := by decide +kernel
theorem test_ceiling_by_hour : (bandsOfDay (clockAt 0 0 10800000)).ceilingInForce = 1200 ∧
    (bandsOfDay (clockAt 0 0 25200000)).ceilingInForce = 4095 ∧
    (bandsOfDay (clockAt 0 0 84600000)).ceilingInForce = 3000 := by decide +kernel
theorem test_ceiling_unset : (bandsOfDay State.reset).ceilingInForce = 1200 ∧
    (bandsOfDay State.reset).bandIndexInForce = none := by decide +kernel

/-- 1.11: at a slewed advance tower time moves by 2, and the remainder moves toward 0. -/
theorem test_slewed_advance :
    let s := (clockAt 49 100 0).withTime { (clockAt 49 100 0).time with remainder := 5 }
    (after .runClockAdvance s).towerTime = some ⟨100, 2⟩ ∧ (after .runClockAdvance s).time.remainder = 4 := by
  decide +kernel

/-- R14: past the last millisecond of day 36524 tower time is lost, and TIME_LOST is recorded. -/
theorem test_end_of_range :
    let t := after .runClockAdvance (clockAt 7 36524 86399999)
    t.towerTime = none ∧ t.faultRecord 0 = some ⟨.timeLost, 8, none⟩ := by decide +kernel

/-- R12: SET_TIME beyond 200 ms steps, within it slews. -/
theorem test_set_time : lastReply (after (.setTime hd 100 201) (clockAt 7 100 0)) =
      some (.ok, .timeApplied .stepped (some 201)) ∧
    lastReply (after (.setTime hd 100 200) (clockAt 7 100 0)) = some (.ok, .timeApplied .slewed (some 200)) := by
  decide +kernel

/-- R44: allocation takes the lowest free run that is long enough. -/
theorem test_allocate : allocate [(0, 10), (15, 5), (30, 4066)] 6 = some 20 ∧
    allocate [(0, 10), (15, 5), (30, 4066)] 5 = some 10 ∧ allocate [(0, 4096)] 1 = none := by decide +kernel

/-- A slot playing a show. -/
def playing (sh priority : Nat) (start : Int) (ph : Phase) : Playback :=
  ⟨ph, sh, .manual, priority, start, 0, 1, none, ⟨start, 0, 4096, 4096⟩⟩

/-- The four slots of 4.10, all taken. -/
def fourPlaying : State :=
  State.reset.withPlayback { State.reset.playback with
    slots := [(0, some (playing 1 1 1000000 .running)), (1, some (playing 2 2 8200000 .running)),
      (2, some (playing 20 1 9000000 .running)), (3, some (playing 5 3 11800000 .running))] }

/-- 4.10: of the slots of priority 1, the earlier run start is preempted; an equal priority preempts nothing. -/
theorem test_slot_choice : fourPlaying.chooseSlot 7 = .preempt 0 (playing 1 1 1000000 .running) ∧
    fourPlaying.chooseSlot 1 = .refused := by decide +kernel

/-- 4.10: SET_MASTER from 4096 to 2048 over 4000 ms gives 3584 after 1000 ms. -/
theorem test_master_fade : (MasterFade.mk 5100000 4000 4096 2048).value 5101000 = 3584 := by decide +kernel

/-- R126: a sequence 1 to 127 ahead is accepted, an equal one a duplicate, any other stale. -/
theorem test_sequence_check : sequenceCheck (some 250) 5 = .accepted ∧ sequenceCheck (some 5) 5 = .duplicate ∧
    sequenceCheck (some 5) 133 = .stale ∧ sequenceCheck (some 5) 132 = .accepted ∧ sequenceCheck none 9 = .accepted := by
  decide

/-- R119: of a parsed frame, the destination decides. -/
theorem test_arrival_destination :
    (after (.showPortArrival (frameOctets 1 16 3 [])) State.reset).ingress.queue.length = 1 ∧
      (after (.showPortArrival (frameOctets 1 20 3 [])) State.reset).ingress.counters.notMine = 1 := by decide +kernel

/-- R199: levels are packed two to three octets. -/
theorem test_packing : packLevels [0xABC, 0x123, 0xFED] = [0xAB#8, 0xC1#8, 0x23#8, 0xFE#8, 0xD0#8] ∧
    unpackLevels 3 [0xAB#8, 0xC1#8, 0x23#8, 0xFE#8, 0xD0#8] = [0xABC, 0x123, 0xFED] := by decide +kernel

/-- R84, R199: a LOOK layer in a reply: slot, priority, run start, mode, fade from, start, duration, curve, then its look
behind a presence octet, the fields of FOLLOW absent, and the value. -/
theorem test_layer_octets :
    (layerOctets ⟨1, ⟨2, 3, .look ⟨4, 5, 6⟩, ⟨7, 8, 9⟩, 10, 11, .ease⟩, ⟨12, 13, 14⟩⟩).map (·.toNat) =
      [1, 2, 0, 0, 0, 0, 0, 0, 0, 3, 0, 0, 7, 0, 8, 0, 9, 0, 0, 0, 0, 0, 0, 0, 10, 0, 0, 0, 11, 2, 1, 0, 4, 0, 5, 0, 6,
        0, 0, 0, 0, 0, 0, 0, 0, 0, 0, 0, 0, 0, 0, 0, 0, 0, 0, 0, 12, 0, 13, 0, 14] := by decide +kernel

/-- R58, R199: a FREE slot in a reply is its state and absent fields carried as 0. -/
theorem test_free_slot_octets : slotOctets none = List.replicate 71 0#8 := by decide +kernel

/-- R178, R199: the counts of a source in a reply take two octets each, the 32-bit one among them. -/
theorem test_source_counts_octets :
    (resultOctets (.sourceCounters 65535 258 3)).map (·.toNat) = [255, 255, 1, 2, 0, 3] := by decide +kernel

/-- R115, R199: a ceiling chosen under UNSET: its ms of day and its band index are absent fields carried as 0. -/
theorem test_ceiling_octets :
    (ceilingOctets ⟨[], none, none, 4095⟩).map (·.toNat) = [1, 0, 0, 0, 0, 0, 0, 0, 15, 255] := by decide +kernel

/-- R175: a late limit above 14,400 is clamped and answered ADJUSTED, an identity out of range is refused. -/
theorem test_set_setting : lastReply (after (.setSetting hd (some .lateLimit) 20000) State.reset) =
      some (.adjusted, .settingStored .lateLimit 14400) ∧
    lastReply (after (.setSetting hd (some .timekeeperAddress) 255) State.reset) = some (.refusedRange, .none) := by
  decide +kernel

/-- R176: the node address changes at the end of the reply. -/
theorem test_node_address :
    let t := after (.setSetting hd (some .nodeAddress) 20) State.reset
    t.settings.nodeAddress = 16 ∧
      (after .showPortTransmitEnd (atInstant 1 (after (.showPortTransmitStart true) t))).settings.nodeAddress = 20 := by
  decide +kernel

/-- A lane of 8 channels in EMITTING under the ceiling table of 6.7 at 23:30, with zones 12 and 13 set by their house
looks. -/
def frameOfSix : State :=
  ((bandsOfDay (clockAt 1000 0 84600000)).withMixer { (bandsOfDay (clockAt 1000 0 84600000)).mixer with
    zones := [(12, ⟨none, none, ⟨1125, 3500, 0⟩, []⟩), (13, ⟨none, none, ⟨200, 2730, 4095⟩, []⟩)] }).withLanes
    { State.reset.lanes with
      lanes := [(3, { Lane.initial ⟨true, 8, 25, 4, false, true⟩ with
        state := .emitting, periodTimer := some 1000, guardInUse := true })]
      bank0 := [(0, ⟨true, 3, 0, 12, 2, .rgb, 6000⟩)]
      guards := [(0, ⟨3, 7, 7, 4095⟩)]
      requestedGuard := true
      guardStatus := .settling }

/-- 6.7: one frame of a lane. -/
theorem test_frame_of_a_lane : (after (.periodEvent 3) frameOfSix).waitingFrame 3 =
    some ⟨1000, .levels 16 3 0 [1647, 3000, 0, 292, 3000, 3000, 0, 4095]⟩ := by decide +kernel
theorem test_frame_clips : ((after (.periodEvent 3) frameOfSix).lane 3).clipCount = 1 ∧
    ((after (.periodEvent 3) frameOfSix).lane 3).frameNumber = 1 := by decide +kernel

/-- A lane in REST with setup sequence 5 (8.12). -/
def restingLane : State :=
  (State.reset.setLane 3 { Lane.initial ⟨true, 120, 20, 4, false, true⟩ with setupSequence := 5 }).withCalendar
    { State.reset.calendar with wakeTimer := some 0 }

/-- 8.12: the wake puts a LANE_SETUP with sequence 6 in the queue. -/
theorem test_wake_places_setup : (after .wakeTimerExpiry restingLane).waitingFrame 3 =
    some ⟨0, .setup 16 3 6 120 20⟩ := by decide +kernel

/-- 8.12: an ACCEPT of the current attempt begins the warm-up of a cold lane. -/
theorem test_accept_begins_warmup :
    let t := after (.receiptArrival (frameOctets 0x13 16 1 [3, 6, 1])) (after .wakeTimerExpiry restingLane)
    (t.lane 3).state = .warmup ∧ (t.lane 3).warmUpRemaining = 4 ∧ t.waitingFrame 3 = none := by decide +kernel

/-- R159, R169: WRITE_GUARD with a channel above 383 is refused. -/
theorem test_guard_refused : lastReply (after (.writeGuard hd 0 0 384 384 0) State.reset) =
    some (.refusedRange, .none) := by decide +kernel

/-- R183: eight faults fill the table, the ninth sets overflow and counts as dropped. -/
theorem test_fault_overflow :
    let t := (List.range 9).foldl (fun s i => s.recordFault (.sourceLost i)) State.reset
    t.faults.overflow = true ∧ t.faults.dropped = 1 ∧ t.faults.first = some 0 ∧ t.presentFaults = 8 := by
  decide +kernel

/-- R194: the read-back that agrees stores the snapshot. -/
theorem test_save_image :
    let t := after (.imageWriteEnd true) (atInstant 5 (after (.saveImage hd) State.reset))
    t.image.state = .saved ∧ t.image.stored = .image State.reset.snapshot := by decide +kernel

/-- R169: a request whose payload is too short for the envelope is UNKNOWN_REQUEST. -/
theorem test_short_request : decodeRequest 200 16 [0x01#8] = .unknownRequest ⟨200, 16, 0, true⟩ none := by
  decide +kernel

/-- R201: SET_TIME is request 0101, with a day of two octets and an ms of four. -/
theorem test_decode_set_time : decodeRequest 200 16
    [0x00#8, 0x07#8, 0x01#8, 0x01#8, 0x00#8, 0x64#8, 0x00#8, 0x00#8, 0x10#8, 0x00#8] =
      .setTime ⟨200, 16, 7, true⟩ 100 4096 := by decide +kernel

/-- No row of the table gives bits, so no word spells a command. -/
theorem test_no_table_words : decodeTableWord 16 0 = none := by decide


/-! ## Witnesses: the hypotheses of every statement can be met -/

/-- With an empty request queue and outbound queue, a request is taken. -/
theorem takes {s : State} {c : Instr} (ho : s.mgmt.outbound = []) (hr : s.mgmt.restartPending = false)
    (hq : s.mgmt.requests = []) : s.Takes c hd := ⟨⟨by rw [ho]; decide, hr, .inl hq⟩, rfl⟩

/-- The management unit after reset with n alerts in its outbound queue and m requests waiting. -/
def loadedUnit (n m : Nat) : State :=
  State.reset.withMgmt { State.reset.mgmt with
    outbound := List.replicate n (.alert ⟨255, 16, none, 0, false, 0⟩), requests := List.replicate m (.readFaults hd) }

theorem witness_StepRunsFrontCommand :
    (State.reset.withPending [.powerOn, .ingressTake]).pending = .powerOn :: [.ingressTake] := rfl

theorem witness_IdleStepAndWaitingRequests :
    State.reset.pending = [] ∧ (Instr.readStatus hd).head = some hd ∧
    ((loadedUnit 8 0).mgmt.requests = [] ∧ (loadedUnit 8 0).mayTake = false ∧ (loadedUnit 8 0).mgmt.requests.length < 4) ∧
    ((loadedUnit 0 3).mgmt.requests ≠ [] ∧ (loadedUnit 0 3).mgmt.requests.head? ≠ some (.readStatus hd) ∧
      (loadedUnit 0 3).mgmt.requests.length < 4) ∧
    ((loadedUnit 0 4).mgmt.requests ≠ [] ∧ (loadedUnit 0 4).mgmt.requests.head? ≠ some (.readStatus hd) ∧
      4 ≤ (loadedUnit 0 4).mgmt.requests.length) ∧
    ((loadedUnit 8 1).mgmt.requests.head? = some (.readFaults hd) ∧ (loadedUnit 8 1).mayTake = false) := by
  decide +kernel

theorem witness_BadRequestsOnlyAnswered :
    (Instr.readStatus { hd with fits := false }).head = some { hd with fits := false } ∧
    (∀ k, Instr.readStatus { hd with fits := false } ≠ .unknownRequest { hd with fits := false } k) ∧
    State.reset.Free (.readStatus { hd with fits := false }) ∧ State.reset.Free (.unknownRequest hd none) :=
  ⟨rfl, fun _ h => Instr.noConfusion h, ⟨by decide, rfl, .inl rfl⟩, ⟨by decide, rfl, .inl rfl⟩⟩

/-- A request in processing since instant 0, at instant 1, with n requests waiting. -/
def requestInProcessing (n : Nat) : State :=
  (atInstant 1 (loadedUnit 0 n)).withIngress { State.reset.ingress with
    processing := some ⟨⟨3, 16, 200, []⟩, .request 255, 0⟩ }

theorem witness_RequestJoinsAtCompletion :
    (requestInProcessing 3).ingress.processing = some ⟨⟨3, 16, 200, []⟩, .request 255, 0⟩ ∧
    0 < (requestInProcessing 3).now ∧ (requestInProcessing 3).mgmt.requests.length < 4 ∧
    (requestInProcessing 4).ingress.processing = some ⟨⟨3, 16, 200, []⟩, .request 255, 0⟩ ∧
    0 < (requestInProcessing 4).now ∧ 4 ≤ (requestInProcessing 4).mgmt.requests.length := by decide +kernel

/-- The frame f on the show-port line since instant 0, at instant 1. -/
def onShowLine (f : OutFrame) : State :=
  (atInstant 1 State.reset).withMgmt { State.reset.mgmt with line := some ⟨f, 0⟩ }

/-- A reply with the given effect at the end of its transmission. -/
def replyWith (e : ReplyEnd) : Reply := ⟨200, 16, none, .ok, .none, e⟩

/-- An alert pending with the mask off, and n alerts in the outbound queue. -/
def alertPendingWith (n : Nat) : State :=
  ((loadedUnit n 0).withMgmt { (loadedUnit n 0).mgmt with
    settings := { Settings.defaults with alertMask := false } }).withFaults
    { FaultTable.initial with overflow := true, dropped := 1, alertPending := true }

theorem witness_ShowPortLineSendsOldestFrame :
    ((loadedUnit 1 0).mgmt.line = none ∧
      (loadedUnit 1 0).mgmt.outbound = [.alert ⟨255, 16, none, 0, false, 0⟩] ∧
      (loadedUnit 1 0).faults.alertPending = false) ∧
    ((alertPendingWith 8).mgmt.line = none ∧ (alertPendingWith 8).mgmt.outbound.tail.length = 7 ∧
      (alertPendingWith 8).faults.alertPending = true ∧ (alertPendingWith 8).settings.alertMask = false ∧
      (alertPendingWith 8).mgmt.replyReserved = false) ∧
    ((onShowLine (.alert ⟨255, 16, none, 0, false, 0⟩)).mgmt.line = some ⟨.alert ⟨255, 16, none, 0, false, 0⟩, 0⟩ ∧
      0 < (onShowLine (.alert ⟨255, 16, none, 0, false, 0⟩)).now ∧
      (onShowLine (.alert ⟨255, 16, none, 0, false, 0⟩)).faults.alertPending = false) ∧
    ((onShowLine (.reply (replyWith .nothing))).mgmt.line = some ⟨.reply (replyWith .nothing), 0⟩ ∧
      (replyWith .nothing).atEnd = .nothing ∧ 0 < (onShowLine (.reply (replyWith .nothing))).now) := by
  decide +kernel

/-- The same with the alert mask as given, a request waiting, and a restart pending or not. -/
def alertAndRequest (n : Nat) (mask restart : Bool) : State :=
  (alertPendingWith n).withMgmt { (alertPendingWith n).mgmt with
    requests := [.readFaults hd], restartPending := restart
    settings := { Settings.defaults with alertMask := mask } }

theorem witness_ShowPortLineSendsOldestFrame_takeFirst :
    ((alertAndRequest 8 false false).mgmt.line = none ∧ (alertAndRequest 8 false false).mgmt.outbound.tail.length = 7 ∧
      (alertAndRequest 8 false false).faults.alertPending = true ∧
      (alertAndRequest 8 false false).settings.alertMask = false ∧
      (alertAndRequest 8 false false).mgmt.replyReserved = false ∧
      (alertAndRequest 8 false false).mgmt.requests ≠ [] ∧
      (alertAndRequest 8 false false).mgmt.restartPending = false) ∧
    ((alertAndRequest 7 false false).mgmt.outbound.tail.length = 6 ∧
      (alertAndRequest 8 false true).mgmt.restartPending = true ∧ (alertPendingWith 8).mgmt.requests = []) ∧
    ((alertAndRequest 8 true false).mgmt.outbound ≠ [] ∧ (alertAndRequest 8 true false).settings.alertMask = true ∧
      (alertAndRequest 8 true false).faults.alertPending = true) := by decide +kernel

/-- R167, R171, R189: the freed place goes to the alert or, with the take first, is left for the request; with the mask on
the alert stays pending. -/
theorem test_freed_place :
    let placed := fun (s : State) (b : Bool) =>
      let t := after (.showPortTransmitStart b) s
      (t.mgmt.outbound.length, t.faults.alertPending)
    placed (alertAndRequest 8 false false) true = (7, true) ∧ placed (alertAndRequest 8 false false) false = (8, false) ∧
    placed (alertAndRequest 7 false false) true = (7, false) ∧ placed (alertAndRequest 8 false true) true = (8, false) ∧
    placed (alertPendingWith 8) true = (8, false) ∧ placed (alertAndRequest 8 true false) false = (7, true) := by
  decide +kernel

/-- A pending node address n of serial 3, with the reply that set serial m on the line. -/
def nodeChangeEnding (n m : Nat) : State :=
  (onShowLine (.reply (replyWith (.nodeAddress m)))).withMgmt
    { (onShowLine (.reply (replyWith (.nodeAddress m)))).mgmt with pendingNode := some ⟨n, 3⟩ }

theorem witness_SettingsAreStored_nodeAddress :
    (State.reset.Takes (.setSetting hd (some .nodeAddress) 254) hd ∧ 254 ≠ State.reset.settings.nodeAddress) ∧
    (State.reset.Takes (.setSetting hd (some .nodeAddress) State.reset.settings.nodeAddress) hd ∧
      1 ≤ State.reset.settings.nodeAddress ∧ State.reset.settings.nodeAddress ≤ 254 ∧
      State.reset.mgmt.pendingNode = none) ∧
    ((nodeChangeEnding 20 3).mgmt.line = some ⟨.reply (replyWith (.nodeAddress 3)), 0⟩ ∧
      0 < (nodeChangeEnding 20 3).now ∧ (nodeChangeEnding 20 3).mgmt.pendingNode = some ⟨20, 3⟩ ∧
      (nodeChangeEnding 20 3).faults.alertPending = false) ∧
    ((nodeChangeEnding 20 2).mgmt.line = some ⟨.reply (replyWith (.nodeAddress 2)), 0⟩ ∧
      (nodeChangeEnding 20 2).mgmt.pendingNode = some ⟨20, 3⟩ ∧ 3 ≠ 2) :=
  ⟨⟨takes rfl rfl rfl, by decide⟩, ⟨takes rfl rfl rfl, by decide, by decide, rfl⟩,
    by decide +kernel, by decide +kernel⟩

theorem witness_SettingsAreStored_others :
    (State.reset.Takes (.setSetting hd (some .timekeeperAddress) 255) hd ∧
      254 = clamp (settingRange .timekeeperAddress).1 (settingRange .timekeeperAddress).2 255 ∧
      settingIdentity .timekeeperAddress = true ∧ 254 ≠ 255) ∧
    (State.reset.Takes (.setSetting hd (some .lateLimit) 14401) hd ∧
      14400 = clamp (settingRange .lateLimit).1 (settingRange .lateLimit).2 14401 ∧
      settingIdentity .lateLimit = false ∧ SettingName.lateLimit ≠ .preludeLead) ∧
    (State.reset.Takes (.setSetting hd (some .preludeLead) 3600) hd ∧
      3600 = clamp (settingRange .preludeLead).1 (settingRange .preludeLead).2 3600) ∧
    ((alertPendingWith 6).Takes (.setSetting hd (some .alertMask) 0) hd ∧
      (alertPendingWith 6).faults.alertPending = true ∧ (alertPendingWith 6).mgmt.outbound.length < 7) :=
  ⟨⟨takes rfl rfl rfl, by decide⟩, ⟨takes rfl rfl rfl, by decide⟩, ⟨takes rfl rfl rfl, by decide⟩,
    ⟨⟨by decide +kernel, rfl, .inl rfl⟩, rfl⟩, rfl, by decide +kernel⟩

theorem witness_SettingsAreStored_refused :
    State.reset.Takes (.setSetting hd none 0) hd ∧ State.reset.Takes (.setSetting hd (some .nodeAddress) 0) hd ∧
    (State.reset.Takes (.setSetting hd (some .nodeAddress) 255) hd ∧ 254 < 255) ∧
    ((alertPendingWith 7).Takes (.setSetting hd (some .alertMask) 0) hd ∧
      (alertPendingWith 7).faults.alertPending = true ∧ 7 ≤ (alertPendingWith 7).mgmt.outbound.length) ∧
    (alertPendingWith 7).Takes (.setSetting hd (some .alertMask) 1) hd :=
  ⟨takes rfl rfl rfl, takes rfl rfl rfl, ⟨takes rfl rfl rfl, by decide⟩,
    ⟨⟨⟨by decide +kernel, rfl, .inl rfl⟩, rfl⟩, rfl, by decide +kernel⟩, ⟨by decide +kernel, rfl, .inl rfl⟩, rfl⟩

theorem witness_SystemReadsChangeNothing (n : SettingName) :
    State.reset.Takes (.getSetting hd (some n)) hd ∧ State.reset.Takes (.getSetting hd none) hd ∧
    State.reset.Takes (.readFaults hd) hd ∧ State.reset.Takes (.readStatus hd) hd :=
  ⟨takes rfl rfl rfl, takes rfl rfl rfl, takes rfl rfl rfl, takes rfl rfl rfl⟩

theorem witness_ReadCountersReportsThenClears (g : CounterGroup) (clear : Bool) :
    State.reset.Takes (.readCounters hd (some g) (some clear)) hd := takes rfl rfl rfl

theorem witness_BlockResetResetsNamedBlocks :
    ((clockAt 5 100 0).Takes (.blockReset hd 63) hd ∧ (63).testBit 0 = true ∧ (63).testBit 4 = true ∧
      (clockAt 5 100 0).time.clock ≠ .unset ∧ (clockAt 5 100 0).lanes.requestedGuard = false) ∧
    (State.reset.Takes (.blockReset hd 0) hd ∧ (0).testBit 2 = false ∧ (0).testBit 3 = false ∧
      (0).testBit 4 = false) :=
  ⟨⟨takes rfl rfl rfl, by decide +kernel⟩, takes rfl rfl rfl, by decide +kernel⟩

/-- Guarding on: lane 0 in REST and named by an enabled range, lane 22 in REST and lane 23 in EMITTING, neither named. -/
def guardOn : State :=
  State.reset.withLanes { State.reset.lanes with
    requestedGuard := true, guardStatus := .settling, guards := [(7, ⟨0, 383, 383, 4095⟩)]
    lanes := [(0, Lane.initial ⟨true, 384, 25, 4, false, true⟩), (22, Lane.initial ⟨true, 384, 25, 4, false, true⟩),
      (23, { Lane.initial ⟨true, 384, 25, 4, false, true⟩ with state := .emitting, periodTimer := some 9 })] }

theorem witness_BlockResetResetsNamedBlocks_guard :
    (State.reset.Takes (.blockReset hd 64) hd ∧ 63 < 64) ∧
    (State.reset.Takes (.blockReset hd 1) hd ∧ (1).testBit 1 = false ∧ State.reset.time.clock = .unset) ∧
    (guardOn.Takes (.blockReset hd 16) hd ∧ (16).testBit 4 = true ∧ (guardOn.lane 1).state = .off ∧
      (guardOn.lane 0).state ≠ .off ∧ (guardOn.lanes.requestedGuard && guardOn.rangeNames 0) = true ∧
      (guardOn.lane 22).state = .rest ∧ (guardOn.lanes.requestedGuard && guardOn.rangeNames 22) = false ∧
      (guardOn.lane 23).state ≠ .rest ∧ (guardOn.lanes.requestedGuard && guardOn.rangeNames 23) = false) :=
  ⟨⟨takes rfl rfl rfl, by decide⟩, ⟨takes rfl rfl rfl, rfl, rfl⟩, takes rfl rfl rfl, by decide +kernel⟩

/-- R165: the reset rests the active lanes and wakes the named one, whose LANE_SETUP is all that waits. -/
theorem test_block_reset_lanes :
    let t := after (.blockReset hd 16) guardOn
    ((t.lane 0).state, (t.lane 22).state, (t.lane 23).state) = (.setup, .rest, .rest) ∧
      t.lanes.waiting = [(0, some ⟨0, .setup 16 0 1 384 25⟩)] ∧ t.lanes.guardStatus = .settling := by decide +kernel

/-- The layers of zone 239: slot 0 follows source 7 with TO_FALLBACK, slot 1 with HOLD_LAST, slot 2 has fallen, and
slot 3 has a LOOK. -/
def fourLayers : Table (Option Layer) :=
  [(0, some ⟨1, 0, .follow 7 .toFallback ⟨9, 9, 9⟩ 50 .tracking, .black, 0, 0, .linear⟩),
    (1, some ⟨1, 0, .follow 7 .holdLast ⟨9, 9, 9⟩ 50 .tracking, .black, 0, 0, .linear⟩),
    (2, some ⟨1, 0, .follow 7 .toFallback ⟨9, 9, 9⟩ 50 .fallen, .black, 0, 0, .linear⟩),
    (3, some ⟨2, 0, .look ⟨8, 8, 8⟩, .black, 0, 0, .linear⟩)]

/-- A zone table with those layers, owned by slot 3. -/
def layeredZones : Table Zone := [(239, ⟨some 3, none, ⟨5, 5, 5⟩, fourLayers⟩)]

/-- The four slots of 4.10 with layers in zone 239, and a handover time. -/
def layeredShow (time : Nat) : State :=
  ((fourPlaying.withMixer { fourPlaying.mixer with zones := layeredZones }).withMgmt
    { fourPlaying.mgmt with settings := { Settings.defaults with handoverTime := time } })

theorem layered_zonesOwned (s : State) (h : s.mixer.zones = layeredZones) : s.ZonesOwned := by
  unfold State.ZonesOwned Zone.Owned
  rw [h]
  decide +kernel

theorem layeredShow_layersHaveSlots (time : Nat) : (layeredShow time).LayersHaveSlots := by
  refine ⟨layered_zonesOwned _ rfl, fun z k _ h => ?_⟩
  have hs : ∀ j, j < 4 → ((layeredShow time).slot j).isSome = true := by
    have : ∀ j, (layeredShow time).slot j = fourPlaying.slot j := fun _ => rfl
    simp only [this]; decide +kernel
  by_cases hz : z = 239
  · subst hz
    by_cases hk : k < 4
    · exact hs k hk
    · refine absurd h ?_
      have e : (layeredShow time).layer k 239 = Table.read none fourLayers k := rfl
      rw [e]
      simp [fourLayers, Table.read_cons, show ¬ 0 = k by omega, show ¬ 1 = k by omega, show ¬ 2 = k by omega,
        show ¬ 3 = k by omega]
  · refine absurd h ?_
    have e : (layeredShow time).zone z = Zone.blank := by
      show Table.read .blank layeredZones z = _
      simp [layeredZones, Table.read_cons, show ¬ 239 = z from fun g => hz g.symm]
    simp [State.layer, e, Zone.blank]

/-- A LIVE source 7 with its timer due, and layers in zone 239. -/
def layeredSource (st : SourceState) : State :=
  (State.reset.withMixer { State.reset.mixer with zones := layeredZones }).withIngress { State.reset.ingress with
    sources := [(7, { Source.blank with enabled := true, origin := 3, state := st, timer := some 0 })] }

theorem witness_BlockResetResetsNamedBlocks_layers :
    ((layeredShow 1000).Takes (.blockReset hd 4) hd ∧ (layeredShow 1000).LayersHaveSlots ∧ (4).testBit 2 = true ∧
      ((layeredShow 1000).zone 239).owner ≠ none ∧ ((layeredShow 1000).zone 0).owner = none ∧
      (layeredShow 1000).settings.handoverTime ≠ 0 ∧ (layeredShow 0).settings.handoverTime = 0) ∧
    ((layeredSource .live).Takes (.blockReset hd 8) hd ∧ (8).testBit 2 = false ∧ (8).testBit 3 = true ∧
      (layeredSource .live).ZonesOwned ∧ ((layeredSource .live).source 7).state = .live) :=
  ⟨⟨takes rfl rfl rfl, layeredShow_layersHaveSlots _, rfl, by decide +kernel, by decide +kernel, by decide, rfl⟩,
    takes rfl rfl rfl, rfl, rfl, layered_zonesOwned _ rfl, by decide +kernel⟩

/-- R81, R102: the release of every slot hands the zone over from its value to the house look; INGRESS makes the tracking
TO_FALLBACK layer of a LIVE source fall, and no other. -/
theorem test_block_reset_layers :
    (after (.blockReset hd 4) (layeredShow 1000)).zone 239 = ⟨none, some ⟨⟨8, 8, 8⟩, 0, 1000⟩, ⟨5, 5, 5⟩, []⟩ ∧
    (after (.blockReset hd 8) (layeredSource .live)).layer 0 239 =
      some ⟨1, 0, .follow 7 .toFallback ⟨9, 9, 9⟩ 50 .fallen, .black, 0, 50, .linear⟩ ∧
    (after (.blockReset hd 8) (layeredSource .live)).layer 1 239 = (layeredSource .live).layer 1 239 := by
  decide +kernel

/-- RESTART's reply on the line. -/
def restartEnding : State :=
  (onShowLine (.reply (replyWith .restart))).withMgmt
    { (onShowLine (.reply (replyWith .restart))).mgmt with restartPending := true }

theorem witness_RestartTakesEffectAtReplyEnd :
    State.reset.Takes (.restart hd) hd ∧ restartEnding.mgmt.line = some ⟨.reply (replyWith .restart), 0⟩ ∧
    (replyWith .restart).atEnd = .restart ∧ 0 < restartEnding.now ∧ restartEnding.mgmt.restartPending = true :=
  ⟨takes rfl rfl rfl, rfl, rfl, by decide, rfl⟩

/-- The machine with an image of the reset tables in its store. -/
def withStoredImage : State :=
  State.reset.withImage { State.reset.image with state := .saved, stored := .image State.reset.snapshot }

theorem reset_image_canonical : State.reset.snapshot.Canonical := by
  unfold Image.Canonical; decide +kernel

theorem witness_PowerOnRestoresFromImage :
    State.reset.image.storedAtReset = .blank ∧
    withStoredImage.image.storedAtReset = .image State.reset.snapshot ∧ State.reset.snapshot.Canonical ∧
    State.reset.snapshot.requestedGuard = false := ⟨rfl, rfl, reset_image_canonical, rfl⟩

/-- A store whose copy fails its check. -/
def withFailingImage : State :=
  State.reset.withImage { State.reset.image with state := .failed, stored := .failing }

/-- An image with the requested guard state on, lanes 0 and 23 configured, and lane 0 named by an enabled range. -/
def guardImage : Image :=
  { State.reset.snapshot with
    requestedGuard := true, guards := [(7, ⟨0, 383, 383, 4095⟩)]
    lanes := [(0, ⟨true, 384, 25, 4, false, true⟩), (23, ⟨true, 6, 25, 4, false, true⟩)] }

/-- The machine with that image in its store. -/
def withGuardImage : State :=
  State.reset.withImage { State.reset.image with state := .saved, stored := .image guardImage }

theorem witness_PowerOnRestoresFromImage_guard :
    withFailingImage.image.storedAtReset = .failing ∧
    withGuardImage.image.storedAtReset = .image guardImage ∧ guardImage.Canonical ∧
    guardImage.requestedGuard = true ∧
    ((Table.read .blank guardImage.lanes 0).configured && (after .powerOn withGuardImage).rangeNames 0) = true ∧
    ((Table.read .blank guardImage.lanes 23).configured && (after .powerOn withGuardImage).rangeNames 23) = false :=
  ⟨rfl, rfl, by unfold Image.Canonical; decide +kernel, rfl, by decide +kernel, by decide +kernel⟩

/-- R164, R197: a power-on with the guard state restored on begins the setup of the named lane. -/
theorem test_power_on_guard :
    let t := after .powerOn withGuardImage
    ((t.lane 0).state, (t.lane 0).setupSequence, (t.lane 23).state, t.lanes.guardStatus) = (.setup, 1, .rest, .enabled) ∧
      t.lanes.waiting = [(0, some ⟨0, .setup 16 0 1 384 25⟩)] := by decide +kernel

theorem witness_RestartTakesEffectAtReplyEnd_time :
    let s := restartEnding.withTime { restartEnding.time with clock := .locked ⟨100, 7⟩ }
    s.towerTime = some ⟨100, 7⟩ ∧ 100 ≤ lastDay ∧ 7 < msPerDay ∧ s.mgmt.line = restartEnding.mgmt.line ∧ 0 < s.now ∧
      s.image.storedAtReset = .blank ∧ Image.defaults.Canonical :=
  ⟨rfl, by decide, by decide, rfl, by decide, rfl, by unfold Image.Canonical; decide +kernel⟩

/-- R16, R41, R180: RESTART keeps tower time, makes LOCKED FREEWHEEL and begins a RESUME build. -/
theorem test_restart_keeps_time :
    let t := after .showPortTransmitEnd (restartEnding.withTime { restartEnding.time with clock := .locked ⟨100, 7⟩ })
    t.time.clock = .freewheel ⟨100, 7⟩ ∧
      t.calendar.state = .building ⟨.resume, ⟨99, 84600007⟩, ⟨101, 3600000⟩, [], [], 0⟩ none := by decide +kernel

theorem witness_ResetLineKeepsTowerTime_images :
    withStoredImage.image.storedAtReset = .image State.reset.snapshot ∧ State.reset.snapshot.Canonical ∧
    withFailingImage.image.storedAtReset = .failing ∧
    (clockAt 5 36524 86399999).towerTime = some ⟨36524, 86399999⟩ ∧
    lastDay < (TowerTime.ofAbs ((TowerTime.mk 36524 86399999).abs + 1)).day :=
  ⟨rfl, reset_image_canonical, rfl, rfl, by decide +kernel⟩

theorem witness_ResetLineKeepsTowerTime :
    State.reset.towerTime = none ∧ (clockAt 5 36524 0).towerTime = some ⟨36524, 0⟩ ∧
    (TowerTime.ofAbs ((TowerTime.mk 36524 0).abs + 86399999)).day ≤ lastDay := by decide +kernel

/-- The image store writing a snapshot since instant 0, at instant 1. -/
def savingImage : State :=
  (atInstant 1 State.reset).withImage { State.reset.image with state := .saving State.reset.snapshot 0 }

theorem reset_canonical : State.reset.Canonical := by
  unfold State.Canonical
  refine ⟨rfl, rfl, rfl, rfl, ⟨rfl, by decide⟩, rfl, rfl, ⟨rfl, by decide⟩, rfl, rfl, rfl, rfl, rfl, rfl, rfl, rfl,
    fun _ h => absurd h (by simp [State.reset]), fun _ _ h => absurd h (by simp [State.reset])⟩


theorem witness_SaveImageWritesSnapshot :
    (State.reset.Takes (.saveImage hd) hd ∧ State.reset.image.state.isSaving = false) ∧
    (savingImage.Takes (.saveImage hd) hd ∧ savingImage.image.state.isSaving = true) ∧
    (savingImage.image.state = .saving State.reset.snapshot 0 ∧ 0 < savingImage.now) ∧
    (State.reset.Takes (.clearResetCause hd 16) hd ∧ 15 < 16 ∧ State.reset.Takes (.clearResetCause hd 15) hd) ∧
    State.reset.Canonical :=
  ⟨⟨takes rfl rfl rfl, rfl⟩, ⟨takes rfl rfl rfl, rfl⟩, ⟨rfl, by decide⟩,
    ⟨takes rfl rfl rfl, by decide, takes rfl rfl rfl⟩, reset_canonical⟩

/-- Show 63 READY with two records, the first beyond them not its own; entry 3 SET with a last fired. -/
def snapshotSource : State :=
  (State.reset.withCueStore
    ⟨[(63, ⟨.ready 4 2, 1⟩)], [(4, some ⟨0, .hold 0⟩), (5, some ⟨9, .finish 1⟩), (6, some ⟨0, .hold 3⟩)]⟩).setEntry 3
    ⟨.set, 0, 9, 127, 0, none, none, 63, 1, false, some ⟨1, 0⟩⟩

theorem witness_SaveImageWritesSnapshot_ready :
    snapshotSource.Canonical ∧ (snapshotSource.showRecord 63).state = .ready 4 2 ∧
    (snapshotSource.showRecord 0).state = .empty ∧ snapshotSource.cue 5 = some ⟨9, .finish 1⟩ ∧
    (snapshotSource.entry 3).lastFired = some ⟨1, 0⟩ := by
  refine ⟨?_, by decide +kernel⟩
  unfold State.Canonical
  exact ⟨by decide, by decide, by decide, rfl, ⟨rfl, by decide⟩, rfl, rfl, ⟨rfl, by decide⟩, rfl, rfl, rfl, rfl, rfl, rfl,
    rfl, rfl, fun _ h => absurd h (by simp [snapshotSource, State.setEntry, State.withCalendar, State.withCueStore, State.reset]),
    fun _ _ h => absurd h (by simp [snapshotSource, State.setEntry, State.withCalendar, State.withCueStore, State.reset])⟩

/-- R192: a snapshot holds a READY show without its playing count, with its own cues only. -/
theorem test_snapshot_ready : snapshotSource.snapshot.shows = [(63, ⟨.ready 4 2, 0⟩)] ∧
    snapshotSource.snapshot.cues = [(4, some ⟨0, .hold 0⟩), (5, some ⟨9, .finish 1⟩)] := by decide +kernel

theorem witness_AdvanceMovesBothClocks :
    (State.reset.now < lastInstant ∧ State.reset.time.clock = .unset) ∧
    ((clockAt 49 36524 86399998).now < lastInstant ∧
      (clockAt 49 36524 86399998).towerTime = some ⟨36524, 86399998⟩ ∧
      (TowerTime.ofAbs ((TowerTime.mk 36524 86399998).abs + 1)).day ≤ lastDay) ∧
    ((clockAt 49 36524 86399999).towerTime = some ⟨36524, 86399999⟩ ∧
      lastDay < (TowerTime.ofAbs ((TowerTime.mk 36524 86399999).abs + 1)).day ∧
      (clockAt 49 36524 86399999).freeFaultRecord = some 0) := by decide +kernel

/-- The last millisecond of day 100, with a build in flight or the agenda STALE. -/
def beforeMidnight (st : AgendaState) : State :=
  (clockAt 5 100 86399999).withCalendar { State.reset.calendar with state := st }

/-- A build of every entry, begun at instant 4 at tower time (100, 0), with results. -/
def buildOf (results : List AgendaItem) : Build := ⟨.all, ⟨100, 0⟩, ⟨101, 3600000⟩, results, [], 4⟩

theorem witness_AdvanceMovesBothClocks_midnight :
    (beforeMidnight .stale).towerTime = some ⟨100, 86399999⟩ ∧
    TowerTime.ofAbs ((TowerTime.mk 100 86399999).abs + 1) = ⟨101, 0⟩ ∧ (100 : Nat) ≠ 101 ∧ 101 ≤ lastDay ∧
    (beforeMidnight .stale).calendar.state = .stale ∧
    (beforeMidnight (.building (buildOf []) none)).calendar.state = .building (buildOf []) none ∧
    (clockAt 5 100 0).towerTime = some ⟨100, 0⟩ ∧ TowerTime.ofAbs ((TowerTime.mk 100 0).abs + 1) = ⟨100, 1⟩ := by
  decide +kernel

/-- R13, R36: midnight begins a build, or is kept for after the build in flight. -/
theorem test_midnight :
    (after .runClockAdvance (beforeMidnight .stale)).calendar.state =
      .building ⟨.all, ⟨101, 0⟩, ⟨102, 3600000⟩, [], [], 6⟩ none ∧
    (after .runClockAdvance (beforeMidnight (.building (buildOf []) (some (.show 3))))).calendar.state =
      .building (buildOf []) (some .all) := by decide +kernel

theorem witness_OnlyAdvanceMovesRunClock :
    exec .ingressTake State.reset = .next State.reset ∧ Instr.ingressTake ≠ .runClockAdvance :=
  ⟨rfl, fun h => Instr.noConfusion h⟩

theorem witness_OnlyAdvanceMovesRunClock_restart :
    exec .showPortTransmitEnd restartEnding = .next (after .showPortTransmitEnd restartEnding) ∧
    (after .showPortTransmitEnd restartEnding).now ≠ restartEnding.now := ⟨rfl, by decide +kernel⟩

/-- A TIME frame with the payload, in processing since instant 0, at an instant, from clock state c. -/
def timeInProcessing (now : Nat) (c : TowerClock) (last : Option Nat) (payload : List Octet) : State :=
  (State.reset.withTime { State.reset.time with runClock := now, clock := c, lastAccepted := last }).withIngress
    { State.reset.ingress with processing := some ⟨⟨2, 16, 3, payload⟩, .time 3, 0⟩ }

/-- The payload of a TIME frame: day 100, an ms of two low octets, tick 0. -/
def timePayload (ms1 ms0 : Octet) : List Octet := [0#8, 100#8, 0#8, 0#8, ms1, ms0, 0#8, 0#8]

theorem witness_TimeFrameIsCheckedAndApplied :
    ((timeInProcessing 1 .unset none []).ingress.processing = some ⟨⟨2, 16, 3, []⟩, .time 3, 0⟩ ∧
      0 < (timeInProcessing 1 .unset none []).now ∧ ([] : List Octet).length ≠ 8) ∧
    (cutFields [2, 4, 2] (timePayload 0#8 200#8) = some [100, 200, 0] ∧ 100 ≤ lastDay ∧ 200 < msPerDay) ∧
    ((timeInProcessing 900 .unset (some 1) []).time.lastAccepted = some 1 ∧
      (timeInProcessing 900 .unset (some 1) []).now < 1 + 900 ∧
      (timeInProcessing 900 .unset (some 1) []).time.earlyRun + 1 ≠ 3) ∧
    ((timeInProcessing 901 .unset (some 1) []).time.lastAccepted = some 1 ∧
      1 + 900 ≤ (timeInProcessing 901 .unset (some 1) []).now ∧
      (timeInProcessing 901 .unset (some 1) []).towerTime = none) ∧
    ((timeInProcessing 1 (.freewheel ⟨100, 0⟩) none []).towerTime = some ⟨100, 0⟩ ∧
      (timeDifference ⟨100, 200⟩ ⟨100, 0⟩).natAbs ≤ 200 ∧ 200 < (timeDifference ⟨100, 201⟩ ⟨100, 0⟩).natAbs) := by
  decide +kernel

/-- The third early frame in a row is at hand. -/
def thirdEarly : State :=
  (timeInProcessing 900 .unset (some 1) (timePayload 0#8 200#8)).withTime
    { (timeInProcessing 900 .unset (some 1) (timePayload 0#8 200#8)).time with earlyRun := 2 }

theorem witness_TimeFrameIsCheckedAndApplied_third :
    thirdEarly.ingress.processing = some ⟨⟨2, 16, 3, timePayload 0#8 200#8⟩, .time 3, 0⟩ ∧
    thirdEarly.time.earlyRun + 1 = 3 ∧ thirdEarly.time.lastAccepted = some 1 ∧ thirdEarly.now < 1 + 900 := by
  decide +kernel

/-- LOCKED with the loss timer due. -/
def lossDue : State :=
  State.reset.withTime { State.reset.time with runClock := 3000, clock := .locked ⟨100, 0⟩, lossTimer := some 3000 }

theorem witness_TimeFrameIsCheckedAndApplied_loss :
    lossDue.time.lossTimer = some 3000 ∧ 3000 ≤ lossDue.now ∧ lossDue.time.clock = .locked ⟨100, 0⟩ := by
  decide +kernel

theorem witness_SetTimeSetsSlewsOrSteps :
    (State.reset.Takes (.setTime hd 36525 0) hd ∧ lastDay < 36525) ∧
    (State.reset.Takes (.setTime hd 36524 86399999) hd ∧ 36524 ≤ lastDay ∧ 86399999 < msPerDay ∧
      State.reset.time.clock = .unset) ∧
    ((clockAt 1 100 0).Takes (.setTime hd 100 200) hd ∧ (clockAt 1 100 0).towerTime = some ⟨100, 0⟩ ∧
      (timeDifference ⟨100, 200⟩ ⟨100, 0⟩).natAbs ≤ 200) ∧
    ((clockAt 1 100 0).Takes (.setTime hd 100 201) hd ∧ 200 < (timeDifference ⟨100, 201⟩ ⟨100, 0⟩).natAbs) :=
  ⟨⟨takes rfl rfl rfl, by decide⟩, ⟨takes rfl rfl rfl, by decide, by decide, rfl⟩,
    ⟨takes rfl rfl rfl, rfl, by decide +kernel⟩, takes rfl rfl rfl, by decide +kernel⟩

/-- An agenda of one item for show 7 at (100, 1), at tower time (100, 0). -/
def oneItem (st : AgendaState) : State :=
  (clockAt 5 100 0).withCalendar { State.reset.calendar with agenda := [⟨3, ⟨100, 1⟩, 7, 1, none⟩], state := st }

theorem oneItem_ordered (st : AgendaState) : (oneItem st).calendar.Ordered :=
  ⟨show 1 ≤ 24 by decide, List.pairwise_singleton _ _, List.pairwise_singleton _ _⟩

/-- Steps of tower time: within the day past an item, into the next day with and without a build in flight, and back. -/
theorem witness_CalendarStepped :
    ((oneItem .current).Takes (.setTime hd 100 300) hd ∧ (oneItem .current).towerTime = some ⟨100, 0⟩ ∧
      200 < (timeDifference ⟨100, 300⟩ ⟨100, 0⟩).natAbs ∧ (oneItem .current).calendar.Ordered ∧
      (oneItem .current).itemsBetween ⟨100, 0⟩ ⟨100, 300⟩ = [⟨3, ⟨100, 1⟩, 7, 1, none⟩]) ∧
    ((oneItem (.building (buildOf []) none)).Takes (.setTime hd 101 0) hd ∧ (100 : Nat) ≠ 101 ∧
      200 < (timeDifference ⟨101, 0⟩ ⟨100, 0⟩).natAbs ∧
      (oneItem (.building (buildOf []) none)).calendar.state = .building (buildOf []) none) ∧
    ((oneItem .stale).Takes (.setTime hd 99 0) hd ∧ (oneItem .stale).calendar.state = .stale ∧
      200 < (timeDifference ⟨99, 0⟩ ⟨100, 0⟩).natAbs ∧ (oneItem .stale).itemsBetween ⟨100, 0⟩ ⟨99, 0⟩ = []) :=
  ⟨⟨takes rfl rfl rfl, rfl, by decide +kernel, oneItem_ordered _, by decide +kernel⟩,
    ⟨takes rfl rfl rfl, by decide, by decide +kernel, rfl⟩, takes rfl rfl rfl, rfl, by decide +kernel, by decide +kernel⟩

/-- R34, R35: a step over an item fires it; a step into another day leaves a build in flight and asks for ALL. -/
theorem test_time_step :
    let t := after (.setTime hd 101 0) (oneItem (.building (buildOf []) none))
    t.calendar.agenda = [] ∧ t.calendar.state = .building (buildOf []) (some .all) ∧
      (t.entry 3).lastFired = some ⟨100, 1⟩ ∧ t.faultRecord 0 = some ⟨.missedStart 3, 5, some ⟨101, 0⟩⟩ := by
  decide +kernel

/-- A calendar entry for every day, at the given ms of day. -/
def daily (start : Nat) : CalendarArgs := ⟨0, 36524, 127, start, none, none, 1, 1, false, false⟩

/-- The machine at tower time (100, 0) with a build in flight. -/
def building (pending : Option Granularity) : State :=
  (clockAt 5 100 0).withCalendar { State.reset.calendar with
    state := .building ⟨.all, ⟨100, 0⟩, ⟨101, 3600000⟩, [], [], 4⟩ pending }

theorem witness_CalendarWriteReplacesEntry :
    (State.reset.Takes (.writeCalendarEntry hd 96 (daily 0)) hd ∧ 95 < 96) ∧
    (State.reset.Takes (.clearCalendarEntry hd 96) hd) ∧
    (State.reset.Takes (.writeCalendarEntry hd 95 (daily 86399999)) hd ∧
      (calendarEntryOf (daily 86399999)).isSome = true ∧ calendarEntryOf (daily 86400000) = none) ∧
    State.reset.Takes (.clearCalendarEntry hd 95) hd ∧ State.reset.calendar.state = .stale ∧
    (∃ b, (building none).calendar.state = .building b none) :=
  ⟨⟨takes rfl rfl rfl, by decide⟩, takes rfl rfl rfl, ⟨takes rfl rfl rfl, by decide +kernel, by decide +kernel⟩,
    takes rfl rfl rfl, rfl, _, rfl⟩

theorem witness_RebuildBeginsOrWaits :
    (State.reset.Takes (.rebuildAgenda hd (some (.entry 96))) hd ∧ requestable (.entry 96) = false) ∧
    (State.reset.Takes (.rebuildAgenda hd (some (.show 63))) hd ∧ requestable (.show 63) = true ∧
      State.reset.time.clock = .unset) ∧
    ((clockAt 5 100 0).Takes (.rebuildAgenda hd (some .all)) hd ∧ requestable .all = true ∧
      (clockAt 5 100 0).towerTime = some ⟨100, 0⟩ ∧ (clockAt 5 100 0).calendar.state = .stale) ∧
    ((building none).Takes (.rebuildAgenda hd (some (.entry 95))) hd ∧ requestable (.entry 95) = true ∧
      ∃ b, (building none).calendar.state = .building b none) :=
  ⟨⟨takes rfl rfl rfl, rfl⟩, ⟨takes rfl rfl rfl, rfl, rfl⟩, ⟨takes rfl rfl rfl, rfl, rfl, rfl⟩,
    takes rfl rfl rfl, rfl, _, rfl⟩

theorem witness_BuildCompletionInstallsAgenda :
    (building none).calendar.state = .building ⟨.all, ⟨100, 0⟩, ⟨101, 3600000⟩, [], [], 4⟩ none ∧
    4 < (building none).now ∧ (building none).towerTime = some ⟨100, 0⟩ ∧
    (building (some .resume)).calendar.state =
      .building ⟨.all, ⟨100, 0⟩, ⟨101, 3600000⟩, [], [], 4⟩ (some .resume) ∧
    (building none).mergedAgenda ⟨.all, ⟨100, 0⟩, ⟨101, 3600000⟩, [], [], 4⟩ = [] := by decide +kernel

/-- A build completing at tower time (100, 0) over an agenda of one item outside its scope, due already, with results;
show 7 is READY with one cue at offset 5 when ready is given. -/
def completing (results : List AgendaItem) (ready : Bool) : State :=
  let s := (clockAt 5 100 0).withCalendar { State.reset.calendar with
    agenda := [⟨3, ⟨100, 0⟩, 7, 1, none⟩]
    state := .building { buildOf results with scope := .entry 5 } none }
  if ready then s.withCueStore ⟨[(7, ⟨.ready 0 1, 0⟩)], [(0, some ⟨5, .hold 0⟩)]⟩ else s

/-- Results of entry 5 on n instants of day 100. -/
def resultsOf (n : Nat) : List AgendaItem := (List.range n).map (fun i => ⟨5, ⟨100, i + 1⟩, 7, 1, none⟩)

theorem completing_ordered (ready : Bool) : (completing [] ready).calendar.Ordered := by
  cases ready <;>
    exact ⟨by decide, List.pairwise_singleton _ _, List.pairwise_singleton _ _⟩

theorem witness_BuildCompletionInstallsAgenda_firing :
    ((completing [] false).calendar.state = .building { buildOf [] with scope := .entry 5 } none ∧
      4 < (completing [] false).now ∧ (completing [] false).towerTime = some ⟨100, 0⟩ ∧
      (completing [] false).calendar.Ordered) ∧
    ((completing [] false).mergedAgenda { buildOf [] with scope := .entry 5 } = [⟨3, ⟨100, 0⟩, 7, 1, none⟩] ∧
      (completing [] false).freeFaultRecord = some 0 ∧ (completing [] false).showReady 7 = false) ∧
    ((completing [] true).showReady 7 = true ∧ (completing [] true).calendar.Ordered ∧
      (completing [] true).mergedAgenda { buildOf [] with scope := .entry 5 } = [⟨3, ⟨100, 0⟩, 7, 1, none⟩]) ∧
    24 < ((completing (resultsOf 24) false).mergedAgenda { buildOf (resultsOf 24) with scope := .entry 5 }).length ∧
    (after .buildCompletion (completing [] false)).calendar.head ≠ (completing [] false).calendar.head := by
  exact ⟨⟨rfl, by decide, rfl, completing_ordered _⟩, by decide +kernel,
    ⟨by decide +kernel, completing_ordered _, by decide +kernel⟩, by decide +kernel, by decide +kernel⟩

/-- R27: what is due fires at the completion, and a truncated agenda records AGENDA_FULL first. -/
theorem test_build_completion :
    let t := after .buildCompletion (completing (resultsOf 24) true)
    t.calendar.agenda = resultsOf 23 ∧ t.calendar.truncated = true ∧ t.calendar.state = .current ∧
      t.faultRecord 0 = some ⟨.agendaFull, 5, some ⟨100, 0⟩⟩ ∧ (t.entry 3).lastFired = some ⟨100, 0⟩ ∧
      t.slot 0 = some ⟨.running, 7, .entry 3, 1, 5, 0, 0, none, ⟨5, 0, 4096, 4096⟩⟩ := by decide +kernel

/-- One agenda item is reached by the next advance, its show not READY. -/
def aboutToFire : State :=
  (clockAt 5 100 0).withCalendar { State.reset.calendar with agenda := [⟨3, ⟨100, 1⟩, 7, 1, none⟩], state := .current }

theorem witness_AdvanceFiresReachedItems :
    aboutToFire.now < lastInstant ∧ exec .runClockAdvance aboutToFire = .next (after .runClockAdvance aboutToFire) ∧
    aboutToFire.towerTime = some ⟨100, 0⟩ ∧ (after .runClockAdvance aboutToFire).towerTime = some ⟨100, 1⟩ ∧
    aboutToFire.calendar.agenda.filter (fun a => decide ((TowerTime.mk 100 0).abs < a.instant.abs) &&
      decide (a.instant.abs ≤ (TowerTime.mk 100 1).abs)) = [⟨3, ⟨100, 1⟩, 7, 1, none⟩] ∧
    aboutToFire.freeFaultRecord = some 0 ∧ aboutToFire.showReady 7 = false := by
  refine ⟨by decide, rfl, ?_⟩; decide +kernel

theorem witness_AdvanceFiresReachedItems_ready :
    let s := aboutToFire.withCueStore (completing [] true).cueStore
    s.now < lastInstant ∧ exec .runClockAdvance s = .next (after .runClockAdvance s) ∧ s.showReady 7 = true ∧
    (after .runClockAdvance s).towerTime = some ⟨100, 1⟩ := by
  refine ⟨by decide, rfl, ?_⟩; decide +kernel

/-- The next advance, a slewed one, reaches an item of entry 3, whose show 7 is READY, and one of entry 4, whose show is
not. -/
def twoToFire : State :=
  (((clockAt 49 100 0).withTime { (clockAt 49 100 0).time with remainder := 5 }).withCalendar
    { State.reset.calendar with
      agenda := [⟨3, ⟨100, 1⟩, 7, 1, none⟩, ⟨4, ⟨100, 2⟩, 8, 1, none⟩], state := .current }).withCueStore
    (completing [] true).cueStore

theorem witness_AdvanceFiresReachedItems_two :
    twoToFire.now < lastInstant ∧ exec .runClockAdvance twoToFire = .next (after .runClockAdvance twoToFire) ∧
    twoToFire.towerTime = some ⟨100, 0⟩ ∧ (after .runClockAdvance twoToFire).towerTime = some ⟨100, 2⟩ ∧
    (twoToFire.calendar.agenda.filter (fun a => decide ((TowerTime.mk 100 0).abs < a.instant.abs) &&
      decide (a.instant.abs ≤ (TowerTime.mk 100 2).abs))).length = 2 ∧ twoToFire.calendar.Ordered :=
  ⟨by decide, rfl, rfl, by decide +kernel, by decide +kernel, by decide, by decide, by decide⟩

/-- R4, R30, R31: both items fire in the one advance, each with its own outcome. -/
theorem test_two_items_fire :
    let t := after .runClockAdvance twoToFire
    t.calendar.agenda = [] ∧ (t.entry 3).lastFired = some ⟨100, 1⟩ ∧ (t.entry 4).lastFired = some ⟨100, 2⟩ ∧
      (t.slot 0).map (·.runStart) = some 49 ∧ t.faultRecord 0 = some ⟨.showNotReady 4, 50, some ⟨100, 2⟩⟩ := by
  decide +kernel

/-- Both lane timers due, one lane in REST, one in EMITTING that allows auto-rest. -/
def laneTimersDue : State :=
  (clockAt 5 100 0).withCalendar { State.reset.calendar with wakeTimer := some 5, restTimer := some 5 }
    |>.withLanes { State.reset.lanes with
      lanes := [(0, Lane.initial ⟨true, 120, 20, 4, false, true⟩),
        (23, { Lane.initial ⟨true, 120, 20, 4, false, true⟩ with state := .emitting, periodTimer := some 9 })] }

/-- The rest timer due while a slot plays. -/
def restTimerBusy : State := laneTimersDue.withPlayback fourPlaying.playback

theorem witness_LaneTimersWakeAndRest :
    (laneTimersDue.calendar.wakeTimer = some 5 ∧ 5 ≤ laneTimersDue.now ∧ (laneTimersDue.lane 0).state = .rest ∧
      (laneTimersDue.lane 23).state ≠ .rest) ∧
    (laneTimersDue.calendar.restTimer = some 5 ∧ laneTimersDue.allFree = true ∧ laneTimersDue.noStartNear = true ∧
      ((laneTimersDue.lane 23).config.autoRest && (laneTimersDue.lane 23).active && !laneTimersDue.guarded 23) = true ∧
      ((laneTimersDue.lane 0).config.autoRest && (laneTimersDue.lane 0).active && !laneTimersDue.guarded 0) = false) ∧
    (restTimerBusy.calendar.restTimer = some 5 ∧ restTimerBusy.allFree = false) := by decide +kernel

theorem witness_ReadsChangeNothing (n : Nat) (b : BankName) :
    State.reset.Takes (.readCalendarEntry hd n) hd ∧ State.reset.Takes (.readAgenda hd) hd ∧
    State.reset.Takes (.readCues hd n 0 1) hd ∧ State.reset.Takes (.readShow hd n) hd ∧
    State.reset.Takes (.readPlayback hd n) hd ∧ State.reset.Takes (.readZone hd n) hd ∧
    State.reset.Takes (.readCeiling hd) hd ∧ State.reset.Takes (.readSource hd n) hd ∧
    State.reset.Takes (.readInputPatch hd (some b) n) hd ∧ State.reset.Takes (.readOutputPatch hd (some b) n) hd ∧
    State.reset.Takes (.readLane hd n) hd ∧ State.reset.Takes (.readGuard hd) hd :=
  ⟨takes rfl rfl rfl, takes rfl rfl rfl, takes rfl rfl rfl, takes rfl rfl rfl, takes rfl rfl rfl, takes rfl rfl rfl,
    takes rfl rfl rfl, takes rfl rfl rfl, takes rfl rfl rfl, takes rfl rfl rfl, takes rfl rfl rfl, takes rfl rfl rfl⟩

/-- Show 0 LOADING with four records from index 0, show 1 READY and playing, show 63 READY and not playing. -/
def threeShows : State :=
  State.reset.withCueStore
    ⟨[(0, ⟨.loading 0 4, 0⟩), (1, ⟨.ready 4 1, 1⟩), (63, ⟨.ready 5 4091, 0⟩)],
      [(0, some ⟨0, .hold 0⟩), (1, some ⟨0, .hold 0⟩), (2, some ⟨0, .hold 0⟩), (3, some ⟨0, .hold 0⟩)]⟩

theorem witness_OpenShowAllocates :
    (State.reset.Takes (.openShow hd 64 1) hd ∧ 63 < 64) ∧
    (threeShows.Takes (.openShow hd 0 4096) hd ∧ (threeShows.showRecord 0).state = .loading 0 4) ∧
    ((threeShows.showRecord 1).state = .ready 4 1 ∧ 0 < (threeShows.showRecord 1).playing) ∧
    ((threeShows.showRecord 2).state = .empty ∧ allocate threeShows.runs 1 = none) ∧
    ((threeShows.showRecord 63).state = .ready 5 4091 ∧ (threeShows.showRecord 63).playing = 0 ∧
      allocate (threeShows.runsWithout 63) 4091 = some 5) :=
  ⟨⟨takes rfl rfl rfl, by decide⟩, ⟨takes rfl rfl rfl, rfl⟩, by decide +kernel, by decide +kernel, by decide +kernel⟩

/-- Two shows with gaps of free records before, between and after: show 0 LOADING at 2 with two of three records written,
show 63 READY at 7. -/
def gappedShows : State :=
  State.reset.withCueStore
    ⟨[(0, ⟨.loading 2 3, 0⟩), (63, ⟨.ready 7 4087, 0⟩)], [(2, some ⟨0, .hold 0⟩), (4, some ⟨0, .hold 0⟩)]⟩

theorem witness_OpenShowAllocates_runs :
    Table.wf .blank gappedShows.cueStore.shows = true ∧ gappedShows.HoldsRun 0 (2, 3) ∧
    gappedShows.HoldsRun 63 (7, 4087) ∧ gappedShows.runs = [(2, 3), (7, 4087)] ∧
    gappedShows.runsWithout 63 = [(2, 3)] := by unfold State.HoldsRun; decide +kernel

/-- R54: what READ_SHOW reports of a LOADING, a READY and an EMPTY show; of free runs of one length the lowest base. -/
theorem test_show_report :
    gappedShows.showReport 0 = ⟨.loading 2 3, 0, some 2, 6, 2, some 0⟩ ∧
    gappedShows.showReport 63 = ⟨.ready 7 4087, 0, some 4087, 6, 2, some 0⟩ ∧
    gappedShows.showReport 1 = ⟨.empty, 0, none, 6, 2, some 0⟩ ∧
    threeShows.showReport 1 = ⟨.ready 4 1, 1, some 1, 0, 0, none⟩ := by decide +kernel

/-- A WRITE_CUES record: a HOLD without limit. -/
def holdArgs : CueArgs := ⟨0, some .hold, 0, 0, .black, 0, none, 0, none, 0, 3600, false⟩

theorem witness_WriteCuesStoresRecords :
    (threeShows.Takes (.writeCues hd 0 3 [holdArgs]) hd ∧ (threeShows.showRecord 0).state = .loading 0 4 ∧
      3 + [holdArgs].length ≤ 4 ∧ [holdArgs].map cueRecordOf = [((⟨0, .hold 3600⟩, false) : CueRecord × Bool)].map some) ∧
    (threeShows.Takes (.writeCues hd 0 4 [holdArgs]) hd ∧ 4 < 4 + [holdArgs].length) ∧
    (threeShows.Takes (.writeCues hd 64 0 [holdArgs]) hd ∧ 63 < 64) ∧
    (threeShows.Takes (.writeCues hd 2 0 [holdArgs]) hd ∧ (threeShows.showRecord 2).state = .empty) :=
  ⟨⟨takes rfl rfl rfl, by decide +kernel⟩, ⟨takes rfl rfl rfl, by decide⟩, ⟨takes rfl rfl rfl, by decide⟩,
    takes rfl rfl rfl, rfl⟩

theorem witness_WriteCuesStoresRecords_ready :
    (threeShows.Takes (.writeCues hd 1 0 [holdArgs]) hd ∧ (threeShows.showRecord 1).state = .ready 4 1 ∧
      ∀ a ∈ [holdArgs], cueRecordOf a ≠ none) ∧
    (threeShows.Takes (.writeCues hd 1 0 [{ holdArgs with strayFlags := true }]) hd ∧
      cueRecordOf { holdArgs with strayFlags := true } = none) ∧
    cueRecordOf { holdArgs with kind := some .look, curve := some .ease, look := ⟨4096, 0, 1⟩, fade := 600001 } =
      some (⟨0, .look 0 0 ⟨4095, 0, 1⟩ 600000 .ease⟩, true) ∧
    cueRecordOf { holdArgs with holdLimit := 3601 } = some (⟨0, .hold 3600⟩, true) :=
  ⟨⟨takes rfl rfl rfl, by decide +kernel⟩, ⟨takes rfl rfl rfl, by decide +kernel⟩, by decide +kernel, by decide +kernel⟩

theorem witness_CloseAndDeleteShow :
    (threeShows.Takes (.closeShow hd 0) hd ∧ (threeShows.showRecord 0).state = .loading 0 4 ∧
      ∀ i, i < 4 → badReason (threeShows.cueBefore 0 i) (threeShows.cue (0 + i)) = none) ∧
    ((threeShows.allocateShow 2 4 1).Takes (.closeShow hd 2) hd ∧
      ((threeShows.allocateShow 2 4 1).showRecord 2).state = .loading 4 1 ∧
      badReason ((threeShows.allocateShow 2 4 1).cueBefore 4 0) ((threeShows.allocateShow 2 4 1).cue (4 + 0)) =
        some .notWritten) ∧
    (threeShows.Takes (.closeShow hd 63) hd ∧ (threeShows.showRecord 63).state = .ready 5 4091) ∧
    (threeShows.Takes (.deleteShow hd 1) hd ∧ 0 < (threeShows.showRecord 1).playing) ∧
    (threeShows.Takes (.deleteShow hd 63) hd ∧ (threeShows.showRecord 63).playing = 0) :=
  ⟨⟨takes rfl rfl rfl, by decide +kernel⟩, ⟨takes rfl rfl rfl, by decide +kernel⟩, ⟨takes rfl rfl rfl, by decide +kernel⟩,
    ⟨takes rfl rfl rfl, by decide +kernel⟩, takes rfl rfl rfl, by decide +kernel⟩

theorem witness_CloseAndDeleteShow_range :
    threeShows.Takes (.closeShow hd 64) hd ∧ threeShows.Takes (.deleteShow hd 64) hd ∧ 63 < 64 ∧
    (Cue.release 0 241).ZonesOutside ∧ ¬ (Cue.hold 0).ZonesOutside ∧
    (Cue.follow 0 240 .black 8 .holdLast 0 .linear).SourceOutside ∧ ¬ (Cue.hold 0).SourceOutside := by
  refine ⟨takes rfl rfl rfl, takes rfl rfl rfl, by decide, ⟨0, 241, .inr (.inr rfl), by decide⟩, ?_,
    ⟨0, 240, .black, 8, .holdLast, 0, .linear, rfl, by decide⟩, ?_⟩ <;>
  simp [Cue.ZonesOutside, Cue.SourceOutside]

/-- R51: the five checks in their order, each at its boundary. -/
theorem test_bad_reason :
    badReason none none = some .notWritten ∧ badReason none (some ⟨14400001, .release 240 0⟩) = some .offsetRange ∧
    badReason (some ⟨14400000, .hold 0⟩) (some ⟨14399999, .release 240 0⟩) = some .offsetOrder ∧
    badReason (some ⟨14400000, .hold 0⟩) (some ⟨14400000, .release 239 2⟩) = some .zoneRange ∧
    badReason none (some ⟨0, .follow 239 1 .black 8 .holdLast 0 .linear⟩) = some .sourceRange ∧
    badReason none (some ⟨0, .follow 0 240 .black 7 .holdLast 0 .linear⟩) = none ∧
    badReason (some ⟨5, .hold 0⟩) (some ⟨5, .hold 0⟩) = none := by decide +kernel

/-- Show 63 READY with a first cue at offset 1, and the slots of another state. -/
def readyShow (slots : Table (Option Playback)) : State :=
  (State.reset.withCueStore ⟨[(63, ⟨.ready 0 1, 0⟩)], [(0, some ⟨1, .hold 0⟩)]⟩).withPlayback ⟨slots, 0, 0⟩

theorem witness_StartShowTakesSlot :
    (State.reset.Takes (.startShow hd 63 8) hd ∧ 7 < 8) ∧
    (State.reset.Takes (.startShow hd 63 7) hd ∧ State.reset.showReady 63 = false) ∧
    ((readyShow []).Takes (.startShow hd 63 0) hd ∧ (readyShow []).showReady 63 = true ∧
      (readyShow []).chooseSlot 0 = .free 0 ∧ (readyShow []).showCue 63 0 = some ⟨1, .hold 0⟩) ∧
    ((readyShow fourPlaying.playback.slots).Takes (.startShow hd 63 2) hd ∧
      (readyShow fourPlaying.playback.slots).chooseSlot 2 = .preempt 0 (playing 1 1 1000000 .running)) ∧
    ((readyShow fourPlaying.playback.slots).Takes (.startShow hd 63 1) hd ∧
      (readyShow fourPlaying.playback.slots).chooseSlot 1 = .refused ∧
      (readyShow fourPlaying.playback.slots).freeFaultRecord = some 0) :=
  ⟨⟨takes rfl rfl rfl, by decide⟩, ⟨takes rfl rfl rfl, rfl⟩, ⟨takes rfl rfl rfl, by decide +kernel⟩,
    ⟨takes rfl rfl rfl, by decide +kernel⟩, takes rfl rfl rfl, by decide +kernel⟩

/-- An agenda item of entry 3 for show 63 at ms 1000, with an end. -/
def endingItem (fin : Option Nat) : AgendaItem := ⟨3, ⟨100, 1000⟩, 63, 2, fin⟩

theorem witness_StartShowTakesSlot_calendar :
    ((readyShow [(3, some { playing 63 1 0 .running with origin := .entry 3 })]).slot 3 =
      some { playing 63 1 0 .running with origin := .entry 3 }) ∧
    (∀ k, k < 4 → ∀ p, (readyShow []).slot k = some p → p.origin ≠ .entry (endingItem none).entry) ∧
    ((readyShow []).chooseSlot (endingItem none).priority = .free 0 ∧ (endingItem none).endAt = none ∧
      (endingItem (some 1001)).endAt = some 1001 ∧ ((readyShow []).instant - (1 : Nat) + 1001 - 1000 : Int) ≤ 0 ∧
      (readyShow []).instant < ((readyShow []).instant - (1 : Nat) + 1000 + 86400000 - 1000 : Int)) ∧
    ((readyShow fourPlaying.playback.slots).chooseSlot (endingItem none).priority =
      .preempt 0 (playing 1 1 1000000 .running) ∧ (readyShow fourPlaying.playback.slots).chooseSlot 1 = .refused) :=
  ⟨rfl, fun k _ p h => absurd h (by simp [State.slot, readyShow, State.withPlayback]), by decide +kernel, by decide +kernel⟩

/-- R63, R66: a start 400 ms late has its run start moved back; an end at the start means a day's length. -/
theorem test_calendar_start :
    let s := (readyShow []).calendarStart (endingItem (some 1000)) 400
    s.slot 0 = some ⟨.holding (-399) 0, 63, .entry 3, 2, -400, 0, 1, some 86399600, ⟨-400, 0, 4096, 4096⟩⟩ ∧
      (s.showRecord 63).playing = 1 := by decide +kernel

/-- R63: an end that has come drops the start as expired. -/
theorem test_expired_start :
    ((readyShow []).calendarStart (endingItem (some 1400)) 400).playback.expiredStarts = 1 := by decide +kernel

/-- At an instant, slot 0 playing show 63 in the given phase, the only cue of the show behind it. -/
def slotIn (now : Nat) (ph : Phase) : State :=
  atInstant now (readyShow [(0, some (playing 63 1 0 ph))])

theorem witness_GoAndHoldExpiryResume :
    ((slotIn 5000 .running).Takes (.go hd 4) hd ∧ 3 < 4) ∧
    ((slotIn 5000 .running).Takes (.go hd 0) hd ∧ (slotIn 5000 .running).slot 0 = some (playing 63 1 0 .running) ∧
      ∀ start limit, (playing 63 1 0 .running).phase ≠ .holding start limit) ∧
    ((slotIn 5000 (.holding 1000 4)).Takes (.go hd 0) hd ∧
      (slotIn 5000 (.holding 1000 4)).slot 0 = some (playing 63 1 0 (.holding 1000 4)) ∧
      (slotIn 5000 (.holding 1000 4)).showCue 63 1 = none) ∧
    ((4 : Nat) ≠ 0 ∧ (1000 : Int) + 1000 * 4 ≤ (slotIn 5000 (.holding 1000 4)).instant) :=
  ⟨⟨takes rfl rfl rfl, by decide⟩, ⟨takes rfl rfl rfl, rfl, fun _ _ h => Phase.noConfusion h⟩,
    ⟨takes rfl rfl rfl, rfl, by decide +kernel⟩, by decide, by decide +kernel⟩

theorem witness_StopAndMasterFade :
    ((slotIn 9 .running).Takes (.setMaster hd 0 4097 600001) hd ∧
      (slotIn 9 .running).slot 0 = some (playing 63 1 0 .running)) ∧
    ((slotIn 9 .running).Takes (.stopPlayback hd 0 1) hd ∧
      (slotIn 9 (.holding 1 0)).Takes (.stopPlayback hd 0 600000) hd ∧
      (slotIn 9 (.holding 1 0)).slot 0 = some (playing 63 1 0 (.holding 1 0))) ∧
    ((slotIn 9 .running).Takes (.stopPlayback hd 0 0) hd ∧ (slotIn 9 (.ending 20)).Takes (.stopPlayback hd 0 1) hd ∧
      (slotIn 9 (.ending 20)).slot 0 = some (playing 63 1 0 (.ending 20))) ∧
    (State.reset.slot 3 = none ∧ State.reset.Takes (.setMaster hd 3 0 0) hd ∧
      State.reset.Takes (.stopPlayback hd 3 0) hd) :=
  ⟨⟨takes rfl rfl rfl, rfl⟩, ⟨takes rfl rfl rfl, takes rfl rfl rfl, rfl⟩,
    ⟨takes rfl rfl rfl, takes rfl rfl rfl, rfl⟩, rfl, takes rfl rfl rfl, takes rfl rfl rfl⟩


/-- A slot that plays show 63, RUNNING, with only this cue, due at offset 0. -/
def cueDue (c : Cue) : State :=
  (State.reset.withCueStore ⟨[(63, ⟨.ready 0 1, 1⟩)], [(0, some ⟨0, c⟩)]⟩).withPlayback
    ⟨[(0, some { playing 63 1 0 .running with nextCue := 0 })], 0, 0⟩

theorem reset_zonesOwned : State.reset.ZonesOwned := ⟨rfl, fun _ h => absurd h (by simp [State.reset])⟩

theorem witness_DueCueTakesEffect (c : Cue) :
    State.reset.ZonesOwned ∧ (cueDue c).mixer = State.reset.mixer ∧
    (cueDue c).slot 0 = some { playing 63 1 0 .running with nextCue := 0 } ∧
    (cueDue c).showCue 63 0 = some ⟨0, c⟩ ∧ (0 : Int) + 0 + (0 : Nat) ≤ (cueDue c).instant ∧
    (cueDue c).showCue 63 1 = none := ⟨reset_zonesOwned, rfl, rfl, rfl, le_refl _, rfl⟩

theorem witness_DueCueTakesEffect_ends :
    (cueDue (.hold 1)).instant < 0 + 1000 * 1 ∧ (cueDue (.finish 1)).instant < (0 : Int) + (1 : Nat) ∧
    (0 : Int) + (0 : Nat) ≤ (cueDue (.finish 0)).instant := by decide +kernel

theorem witness_DueCueTakesEffect_hold_passed :
    (atInstant 1000 (cueDue (.hold 1))).slot 0 = some { playing 63 1 0 .running with nextCue := 0 } ∧
    (atInstant 1000 (cueDue (.hold 1))).showCue 63 0 = some ⟨0, .hold 1⟩ ∧
    (0 : Int) + 1000 * 1 ≤ (atInstant 1000 (cueDue (.hold 1))).instant ∧ ∀ z n, Cue.hold 1 ≠ .release z n :=
  ⟨rfl, rfl, by decide +kernel, fun _ _ h => Cue.noConfusion h⟩

/-- At instant 5000, slot 0 is to run a LOOK and a RELEASE of zone 0, both due at 0; zone 0 still holds a handover from
the same instant that has ended. -/
def catchUp : State :=
  ((atInstant 5000 State.reset).withCueStore ⟨[(63, ⟨.ready 0 2, 1⟩)],
    [(0, some ⟨0, .look 0 1 .black 100 .linear⟩), (1, some ⟨0, .release 0 1⟩)]⟩).withPlayback
      ⟨[(0, some { playing 63 1 0 .running with nextCue := 0 })], 0, 0⟩
    |>.withMixer { State.reset.mixer with zones := [(0, ⟨none, some ⟨⟨5, 5, 5⟩, 0, 1000⟩, .black, []⟩)] }

/-- R82: the handover that the run makes has ended when the run is complete, and is removed, although it equals the one
that the zone held before. -/
theorem test_ended_handover_removed : (after (.nextCueInstant 0) catchUp).zone 0 = ⟨none, none, .black, []⟩ := by
  decide +kernel

theorem witness_DueCueTakesEffect_release :
    let s := (cueDue (.release 239 1)).withMixer { State.reset.mixer with
      zones := [(239, ⟨some 0, none, .black, [(0, some ⟨1, 0, .look .black, ⟨9, 9, 9⟩, 0, 0, .linear⟩)]⟩)] }
    s.ZonesOwned ∧ (s.zone 239).owner = some 0 ∧ (s.zone 238).owner ≠ some 0 ∧
      s.showCue 63 0 = some ⟨0, .release 239 1⟩ :=
  ⟨⟨rfl, by unfold Zone.Owned; decide +kernel⟩, by decide +kernel⟩

/-- R91, R94: the layer that a cue creates takes the zone from a weaker owner and removes the handover. -/
theorem test_created_layer_takes_zone :
    let s := (cueDue (.follow 239 1 ⟨9, 9, 9⟩ 7 .toFallback 10 .ease)).withMixer { State.reset.mixer with
      zones := [(239, ⟨none, some ⟨⟨1, 2, 3⟩, 0, 1000⟩, .black, []⟩)] }
    (after (.nextCueInstant 0) s).zone 239 = ⟨some 0, none, .black,
      [(0, some ⟨1, 0, .follow 7 .toFallback ⟨9, 9, 9⟩ 10 .tracking, ⟨1, 2, 3⟩, 0, 10, .ease⟩)]⟩ := by decide +kernel

/-- A RUNNING slot whose end instant has come. -/
def endReached : State :=
  State.reset.withPlayback ⟨[(0, some { playing 63 1 0 .running with endInstant := some 0 })], 0, 0⟩

theorem witness_ReleaseFreesSlot :
    ((slotIn 9 (.ending 9)).slot 0 = some (playing 63 1 0 (.ending 9)) ∧ (9 : Int) ≤ (slotIn 9 (.ending 9)).instant ∧
      ∀ j, j < 4 → j ≠ 0 → (slotIn 9 (.ending 9)).slot j = none) ∧
    (endReached.slot 0 = some { playing 63 1 0 .running with endInstant := some 0 } ∧ (0 : Int) ≤ endReached.instant) ∧
    (fourPlaying.slot 3 = some (playing 5 3 11800000 .running) ∧ ∃ j, j < 4 ∧ j ≠ 3 ∧ fourPlaying.slot j ≠ none) :=
  ⟨by decide +kernel, by decide +kernel, by decide +kernel, 0, by decide +kernel⟩

/-- Zone 239 with a handover from instant 0 that lasts 1000 ms, at an instant. -/
def handoverAtZone (now : Nat) : State :=
  (atInstant now State.reset).withMixer { State.reset.mixer with
    zones := [(239, ⟨none, some ⟨.black, 0, 1000⟩, .black, []⟩)] }

theorem witness_HouseLookAndHandoverEnd :
    (State.reset.Takes (.writeHouseLook hd 239 2 .black) hd ∧ 240 < 239 + 2) ∧
    (State.reset.Takes (.writeHouseLook hd 239 1 ⟨4096, 0, 0⟩) hd ∧ 239 + 1 ≤ 240) ∧
    (((handoverAtZone 1000).zone 239).handover = some ⟨.black, 0, 1000⟩ ∧
      (0 : Int) + (1000 : Nat) ≤ (handoverAtZone 1000).instant) :=
  ⟨⟨takes rfl rfl rfl, by decide⟩, ⟨takes rfl rfl rfl, by decide⟩, by decide +kernel⟩

theorem witness_BandsAndCeilingInForce :
    (State.reset.Takes (.writeCeilingBand hd 8 0 0) hd ∧ 7 < 8) ∧
    (State.reset.Takes (.writeCeilingBand hd 7 86399999 4096) hd ∧ 86399999 < 86400000) ∧
    (State.reset.Takes (.clearCeilingBand hd 8) hd ∧ State.reset.Takes (.clearCeilingBand hd 7) hd) ∧
    ((bandsOfDay (clockAt 0 0 79200000)).towerTime = some ⟨0, 79200000⟩ ∧
      (bandsOfDay (clockAt 0 0 79200000)).bandIndexInForce = some 1) ∧
    ((bandsOfDay (clockAt 0 0 0)).towerTime ≠ none ∧ ((bandsOfDay (clockAt 0 0 0)).band 0).present = true) ∧
    (∀ j, j < 8 → (State.reset.band j).present = false) ∧ State.reset.towerTime = none :=
  ⟨⟨takes rfl rfl rfl, by decide⟩, ⟨takes rfl rfl rfl, by decide⟩, ⟨takes rfl rfl rfl, takes rfl rfl rfl⟩,
    by decide +kernel, by decide +kernel, by decide +kernel, rfl⟩

/-- A LOOK layer of a priority. -/
def lookLayer (priority : Nat) : Layer := ⟨priority, 0, .look .black, .black, 0, 0, .linear⟩

/-- Zone 239 with layers of slots 0 and 3, owned by slot 3, and a handover time. -/
def twoLayers (time : Nat) : State :=
  (State.reset.withMixer { State.reset.mixer with
    zones := [(239, ⟨some 3, none, .black, [(0, some (lookLayer 1)), (3, some (lookLayer 2))]⟩)] }).withMgmt
    { State.reset.mgmt with settings := { Settings.defaults with handoverTime := time } }

theorem witness_DropIsContinuous :
    strongest [(0, some (lookLayer 1)), (3, some (lookLayer 2))] = some 3 ∧
    (((twoLayers 1000).zone 239).Owned ∧ (twoLayers 1000).layer 3 239 = some (lookLayer 2) ∧
      (((twoLayers 1000).dropLayer 3 5 239).zone 239).owner ≠ ((twoLayers 1000).zone 239).owner ∧
      (twoLayers 1000).settings.handoverTime ≠ 0) ∧
    ((twoLayers 1000).layer 0 239 = some (lookLayer 1) ∧
      (((twoLayers 1000).dropLayer 0 5 239).zone 239).owner = ((twoLayers 1000).zone 239).owner) ∧
    (((twoLayers 0).zone 239).Owned ∧ (twoLayers 0).settings.handoverTime = 0) := by
  unfold Zone.Owned; decide +kernel

/-- Zone 239 with a layer of slot 3, which owns it, and a handover; slot 3 plays show 5 at master 2048; source 7 has a
stored look for the zone, mapped by an entry of the bank in use or not. -/
def evaluatedZone (mode : LayerMode) (present : Bool) (h : Option Handover) : State :=
  ((State.reset.withMixer { State.reset.mixer with
      zones := [(239, ⟨some 3, h, .black, [(3, some ⟨2, 0, mode, ⟨0, 400, 0⟩, 0, 100, .linear⟩)]⟩)]
      live := [(liveIndex 7 239, ⟨1000, 0, 0⟩)] }).withPlayback
        ⟨[(3, some ⟨.running, 5, .manual, 2, 0, 0, 0, none, ⟨0, 0, 4096, 2048⟩⟩)], 0, 0⟩).withIngress
    { State.reset.ingress with bank0 := [(95, ⟨present, 7, 15, 381, 239, 1, .rgb⟩)] }

theorem witness_BlendMovesBetweenItsEnds :
    ((95, (⟨true, 7, 15, 381, 239, 1, .rgb⟩ : InputEntry)) ∈
        (evaluatedZone (.look .black) true none).inputBank (evaluatedZone (.look .black) true none).ingress.inUse) ∧
    ((evaluatedZone (.look .black) true none).zone 239).owner = some 3 ∧
    ((evaluatedZone (.look .black) true none).layer 3 239).isSome = true ∧
    ((evaluatedZone (.look .black) true none).slot 3).isSome = true ∧
    (State.reset.zone 239).owner = none ∧ (State.reset.zone 239).handover = none ∧
    ((evaluatedZone (.look .black) true (some ⟨⟨8, 8, 8⟩, 0, 100⟩)).zone 239).handover = some ⟨⟨8, 8, 8⟩, 0, 100⟩ := by
  decide +kernel

/-- R86 to R90, half way through a fade from (0, 400, 0) at master one half: a look, a live look mapped and not mapped, a
fallback look, and a handover from (8, 8, 8). -/
theorem test_zone_evaluation :
    let value := fun (mode : LayerMode) (present : Bool) (h : Option Handover) =>
      (evaluatedZone mode present h).zoneValue 239 50
    value (.look ⟨800, 0, 0⟩) true none = ⟨200, 100, 0⟩ ∧
    value (.follow 7 .toFallback ⟨0, 0, 80⟩ 9 .tracking) true none = ⟨250, 100, 0⟩ ∧
    value (.follow 7 .toFallback ⟨0, 0, 80⟩ 9 .tracking) false none = ⟨0, 100, 0⟩ ∧
    value (.follow 7 .toFallback ⟨0, 0, 80⟩ 9 .fallen) true none = ⟨0, 100, 20⟩ ∧
    value (.look ⟨800, 0, 0⟩) true (some ⟨⟨8, 8, 8⟩, 0, 100⟩) = ⟨104, 54, 4⟩ := by decide +kernel

/-- The ingress processor after reset with a full queue and the given counts. -/
def ingressWith (queued bad full : Nat) : State :=
  State.reset.withIngress { State.reset.ingress with
    queue := List.replicate queued ⟨1, 16, 3, []⟩
    counters := { ShowPortCounters.zero with badFrame := bad, queueFull := full } }

theorem witness_ArrivalChecksInOrder :
    (parseFrame [] = none ∧ (ingressWith 0 126 0).ingress.counters.badFrame ≠ 127 ∧
      (ingressWith 0 127 0).ingress.counters.badFrame = 127) ∧
    ((parseFrame (frameOctets 1 16 3 [])).map (·.dest) = some 16 ∧ (frameOctets 1 16 3 []).length ≤ 820 ∧
      State.reset.settings.nodeAddress = 16) ∧
    ((parseFrame (frameOctets 1 17 3 [])).map (·.dest) = some 17 ∧ 17 ≠ State.reset.settings.nodeAddress) ∧
    (12 ≤ (ingressWith 12 0 1).ingress.queue.length ∧ (ingressWith 12 0 1).ingress.counters.queueFull ≠ 0 ∧
      (ingressWith 12 0 0).ingress.counters.queueFull = 0 ∧ (ingressWith 11 0 0).ingress.queue.length < 12) := by
  decide +kernel

theorem witness_ArrivalChecksInOrder_oversize :
    parseFrame (frameOctets 1 16 3 (List.replicate 812 0#8)) = some ⟨1, 16, 3, List.replicate 812 0#8⟩ ∧
      820 < (frameOctets 1 16 3 (List.replicate 812 0#8)).length :=
  ⟨parseFrame_frameOctets 1 16 3 _ (by decide) (by decide) (by decide)
    (by rw [List.length_replicate]; omega), by decide +kernel⟩

/-- R119, R200: a frame is read back; one octet more, a damaged check word or a wrong payload length makes it none. -/
theorem test_parse_frame :
    parseFrame (frameOctets 1 16 3 [7]) = some ⟨1, 16, 3, [7]⟩ ∧ parseFrame (frameOctets 1 16 3 [7] ++ [0]) = none ∧
    parseFrame ((frameOctets 1 16 3 [7]).dropLast ++ [0]) = none ∧
    parseFrame ((frameOctets 1 16 3 [7]).set 4 2) = none ∧ parseFrame [1, 16, 3, 0] = none := by decide +kernel

/-- One frame of a class and payload from origin 3 in the ingress queue, the timekeeper and station addresses given,
and source 7 enabled with origin 3 and a stored sequence for lane 15. -/
def frameWaiting (cls timekeeper station : Nat) (payload : List Octet) (stored : Option Nat) : State :=
  (State.reset.withIngress { State.reset.ingress with
    queue := [⟨cls, 16, 3, payload⟩]
    sources := [(7, { Source.blank with enabled := true, origin := 3, sequences := [(15, stored)] })] }).withMgmt
    { State.reset.mgmt with
      settings := { Settings.defaults with timekeeperAddress := timekeeper, stationAddress := station } }

/-- A LEVEL payload of source lane 15 with one level on channel 383 and a sequence. -/
def levelPayload (sequence : Octet) : List Octet := [15#8, sequence, 1#8, 127#8, 0#8, 1#8, 0xAB#8, 0xC0#8]

theorem witness_TakeHandlesFrameByClass :
    ((frameWaiting 4 0 255 [] none).ingress.processing = none ∧ (frameWaiting 4 0 255 [] none).ingress.switch = .idle ∧
      (frameWaiting 4 0 255 [] none).ingress.queue = [⟨4, 16, 3, []⟩]) ∧
    ((frameWaiting 2 3 255 [] none).settings.timekeeperAddress = 3 ∧
      (frameWaiting 2 0 255 [] none).settings.timekeeperAddress = 0 ∧
      (frameWaiting 3 0 255 [] none).settings.stationAddress = 255 ∧
      (frameWaiting 3 0 0 [] none).settings.stationAddress = 0) ∧
    ((frameWaiting 1 0 255 [] none).ingress.queue = [⟨1, 16, 3, []⟩] ∧ levelFields [] = none ∧
      ((frameWaiting 1 0 255 [] none).source 7).enabled = true ∧
      ((frameWaiting 1 0 255 [] none).source 7).origin = 3 ∧
      ∀ j, j < 7 → ((frameWaiting 1 0 255 [] none).source j).enabled = false) ∧
    ((levelFields (levelPayload 7#8)).isSome = true ∧
      ((frameWaiting 1 0 255 (levelPayload 7#8) none).source 7).sequence 15 = none ∧
      ((frameWaiting 1 0 255 (levelPayload 7#8) (some 7)).source 7).sequence 15 = some 7 ∧
      (7 + 256 - 136) % 256 = 127 ∧ (7 + 256 - 135) % 256 = 128 ∧ (7 + 256 - 6) % 256 = 1) ∧
    (State.reset.source 7).enabled = false := by decide +kernel

/-- A LEVEL frame of source 7 in processing since instant 0, at instant 1, with one patch entry that maps channels 381
to 383 of lane 15 to zone 239, and one that is not present and passes zone 239; the source has the given state and
enabled flag. -/
def levelInProcessing (st : SourceState) (on : Bool) : State :=
  (atInstant 1 State.reset).withIngress { State.reset.ingress with
    processing := some ⟨⟨1, 16, 3, levelPayload 7#8⟩, .level 7 true 3 .bank0, 0⟩
    sources := [(7, { Source.blank with enabled := on, origin := 3, state := st, timer := some 1 })]
    bank0 := [(94, ⟨false, 7, 15, 0, 239, 128, .rgb⟩), (95, ⟨true, 7, 15, 381, 239, 1, .rgb⟩)] }

theorem witness_LevelFrameWritesLiveStore :
    (levelInProcessing .live true).ingress.processing =
      some ⟨⟨1, 16, 3, levelPayload 7#8⟩, .level 7 true 3 .bank0, 0⟩ ∧
    0 < (levelInProcessing .live true).now ∧
    levelFields (levelPayload 7#8) = some ⟨15, 7, 383, [0xABC]⟩ ∧
    (∀ p ∈ (levelInProcessing .live true).inputBank .bank0, p.2.present = true →
      p.2.zoneFirst + p.2.zoneCount ≤ 240) ∧
    (95, (⟨true, 7, 15, 381, 239, 1, .rgb⟩ : InputEntry)) ∈ (levelInProcessing .live true).inputBank .bank0 ∧
    (∀ p ∈ (levelInProcessing .live true).inputBank .bank0, p.2.source = 7 → 238 < p.2.zoneFirst) := by
  decide +kernel

theorem witness_SourceLossAndReturn :
    ((levelInProcessing .live true).ZonesOwned ∧ ((levelInProcessing .live true).source 7).timer = some 1 ∧
      1 ≤ (levelInProcessing .live true).now ∧ (levelInProcessing .live true).freeFaultRecord = some 0) ∧
    ((levelInProcessing .lost true).ZonesOwned ∧ (levelInProcessing .lost true).ingress.processing =
      some ⟨⟨1, 16, 3, levelPayload 7#8⟩, .level 7 true ((levelInProcessing .lost true).source 7).origin .bank0, 0⟩ ∧
      ((levelInProcessing .lost true).source 7).enabled = true ∧
      ((levelInProcessing .lost true).source 7).state = .lost) :=
  ⟨⟨reset_zonesOwned, by decide +kernel⟩, reset_zonesOwned, by decide +kernel⟩

/-- The same with layers in zone 239. -/
def layeredLevels (st : SourceState) : State :=
  (levelInProcessing st true).withMixer { State.reset.mixer with zones := layeredZones }

theorem witness_SourceLossAndReturn_layers :
    ((layeredLevels .live).ZonesOwned ∧ ((layeredLevels .live).source 7).timer = some 1 ∧ 1 ≤ (layeredLevels .live).now ∧
      ((layeredLevels .live).layer 0 239).map (·.mode) = some (.follow 7 .toFallback ⟨9, 9, 9⟩ 50 .tracking) ∧
      ((layeredLevels .live).layer 1 239).map (·.mode) = some (.follow 7 .holdLast ⟨9, 9, 9⟩ 50 .tracking) ∧
      (layeredLevels .live).layer 4 239 = none) ∧
    ((layeredLevels .lost).ZonesOwned ∧ ((layeredLevels .lost).source 7).state = .lost ∧
      ((layeredLevels .lost).layer 2 239).map (·.mode) = some (.follow 7 .toFallback ⟨9, 9, 9⟩ 50 .fallen) ∧
      ((layeredLevels .lost).layer 3 239).map (·.mode) = some (.look ⟨8, 8, 8⟩)) :=
  ⟨⟨layered_zonesOwned _ rfl, by decide +kernel⟩, layered_zonesOwned _ rfl, by decide +kernel⟩

/-- R97, R98: a loss makes the tracking TO_FALLBACK layer fall; a return restarts the fallen and the HOLD_LAST layer, and
leaves a TO_FALLBACK layer that tracks. -/
theorem test_loss_and_return :
    let t := after (.livenessTimerExpiry 7) (layeredLevels .live)
    let u := after .levelFrameCompletion (layeredLevels .lost)
    (t.layer 0 239, t.layer 1 239) = (some ⟨1, 0, .follow 7 .toFallback ⟨9, 9, 9⟩ 50 .fallen, .black, 1, 50, .linear⟩,
      (layeredLevels .live).layer 1 239) ∧
    (u.layer 1 239).map (·.fadeStart) = some 1 ∧ u.layer 2 239 =
      some ⟨1, 0, .follow 7 .toFallback ⟨9, 9, 9⟩ 50 .tracking, ⟨9, 9, 9⟩, 1, 50, .linear⟩ ∧
    u.layer 0 239 = (layeredLevels .lost).layer 0 239 := by decide +kernel

theorem witness_SourceWritesConfigure_loss :
    (layeredLevels .live).Takes (.writeSource hd 7 (some false) 3 10000) hd ∧ (layeredLevels .live).ZonesOwned ∧
    ((layeredLevels .live).source 7).enabled = true ∧ ((layeredLevels .live).source 7).state = .live :=
  ⟨takes rfl rfl rfl, layered_zonesOwned _ rfl, by decide +kernel⟩

theorem witness_SourceWritesConfigure :
    (State.reset.Takes (.writeSource hd 7 (some true) 255 100) hd ∧ 254 < 255) ∧
    (State.reset.Takes (.writeSource hd 7 (some true) 254 99) hd ∧ (7 : Nat) ≤ 7) ∧
    ((levelInProcessing .live true).Takes (.writeSource hd 7 (some false) 3 10000) hd ∧
      ((levelInProcessing .live true).source 7).enabled = true ∧
      ((levelInProcessing .live true).source 7).state = .live) ∧
    (State.reset.Takes (.forgetSequence hd 8) hd ∧ State.reset.Takes (.forgetSequence hd 7) hd) :=
  ⟨⟨takes rfl rfl rfl, by decide⟩, ⟨takes rfl rfl rfl, by decide⟩, ⟨takes rfl rfl rfl, by decide +kernel⟩,
    takes rfl rfl rfl, takes rfl rfl rfl⟩

/-- Standby input banks: entries that overlap, and a switch that waits. -/
def inputStandby (bank : Table InputEntry) (sw : SwitchStatus) : State :=
  (levelInProcessing .live true).withIngress { (levelInProcessing .live true).ingress with bank1 := bank, switch := sw }

/-- Standby output banks, and lane 23 composing from a bank. -/
def outputStandby (bank : Table OutputEntry) (sw : SwitchStatus) : State :=
  State.reset.withLanes { State.reset.lanes with
    bank1 := bank, switch := sw
    lanes := [(23, { Lane.initial ⟨true, 6, 20, 4, false, true⟩ with state := .emitting, periodTimer := some 9 })] }

theorem witness_PatchBanksSwitch_input :
    (State.reset.Takes (.writeInputPatch hd 96 ⟨none, 0, 0, 0, 0, 0, none⟩) hd ∧
      inputEntryOf ⟨none, 0, 0, 0, 0, 0, none⟩ = none) ∧
    (State.reset.Takes (.writeInputPatch hd 95 ⟨some true, 7, 15, 381, 239, 1, some .bgr⟩) hd ∧
      inputEntryOf ⟨some true, 7, 15, 381, 239, 1, some .bgr⟩ = some ⟨true, 7, 15, 381, 239, 1, .bgr⟩ ∧
      State.reset.ingress.switch = .idle) ∧
    ((inputStandby [] .switching).Takes (.writeInputPatch hd 95 ⟨some true, 7, 15, 381, 239, 1, some .bgr⟩) hd ∧
      (inputStandby [] .switching).ingress.switch = .switching) ∧
    (State.reset.Takes (.copyInputBank hd) hd ∧ State.reset.Takes (.switchInputBank hd) hd ∧
      (inputStandby [] .switching).Takes (.switchInputBank hd) hd) ∧
    ((State.reset.inputBank State.reset.ingress.inUse.other).Pairwise
        (fun a b => inputConflict a.2 b.2 = false) ∧
      ¬ ([(0, ⟨true, 7, 0, 0, 239, 1, .rgb⟩), (95, ⟨true, 7, 1, 0, 239, 1, .rgb⟩)] : Table InputEntry).Pairwise
        (fun a b => inputConflict a.2 b.2 = false)) :=
  ⟨⟨takes rfl rfl rfl, by decide⟩, ⟨takes rfl rfl rfl, by decide +kernel⟩, ⟨takes rfl rfl rfl, rfl⟩,
    ⟨takes rfl rfl rfl, takes rfl rfl rfl, takes rfl rfl rfl⟩, by decide +kernel⟩

theorem witness_PatchBanksSwitch_overlap :
    Table.wf .blank ([(0, ⟨true, 7, 0, 0, 239, 1, .rgb⟩), (95, ⟨true, 7, 1, 0, 239, 1, .rgb⟩)] : Table InputEntry) =
      true ∧
    Table.wf .blank ([(0, ⟨true, 23, 0, 0, 2, .rgb, 0⟩), (191, ⟨true, 23, 5, 0, 1, .rgb, 0⟩)] : Table OutputEntry) =
      true := by decide +kernel

theorem witness_PatchBanksSwitch_output :
    (State.reset.Takes (.writeOutputPatch hd 192 ⟨none, 0, 0, 0, 0, none, 0⟩) hd ∧
      outputEntryOf ⟨none, 0, 0, 0, 0, none, 0⟩ = none) ∧
    (State.reset.Takes (.writeOutputPatch hd 191 ⟨some true, 23, 381, 239, 1, some .bgr, 8192⟩) hd ∧
      outputEntryOf ⟨some true, 23, 381, 239, 1, some .bgr, 8192⟩ = some ⟨true, 23, 381, 239, 1, .bgr, 8191⟩ ∧
      State.reset.lanes.switch = .idle) ∧
    ((outputStandby [] .switching).Takes (.copyOutputBank hd) hd ∧
      (outputStandby [] .switching).lanes.switch = .switching) ∧
    (State.reset.Takes (.switchOutputBank hd) hd ∧ (outputStandby [] .idle).Takes (.switchOutputBank hd) hd ∧
      ((outputStandby [] .idle).lane 23).composing = true ∧
      ((outputStandby [] .idle).lane 23).bank ≠ (outputStandby [] .idle).lanes.selected.other) ∧
    ¬ ([(0, ⟨true, 23, 0, 0, 2, .rgb, 0⟩), (191, ⟨true, 23, 5, 0, 1, .rgb, 0⟩)] : Table OutputEntry).Pairwise
      (fun a b => outputConflict a.2 b.2 = false) :=
  ⟨⟨takes rfl rfl rfl, by decide⟩, ⟨takes rfl rfl rfl, by decide +kernel⟩, ⟨takes rfl rfl rfl, rfl⟩,
    ⟨takes rfl rfl rfl, takes rfl rfl rfl, by decide +kernel⟩, by decide +kernel⟩

/-- R133, R136, R155, R157: runs that touch do not overlap, runs that share one zone or one channel do; the ends of the
ranges of a write. -/
theorem test_patch_entries :
    inputConflict ⟨true, 7, 0, 0, 0, 10, .rgb⟩ ⟨true, 7, 1, 0, 9, 1, .rgb⟩ = true ∧
    inputConflict ⟨true, 7, 0, 0, 0, 10, .rgb⟩ ⟨true, 7, 1, 0, 10, 1, .rgb⟩ = false ∧
    inputConflict ⟨true, 7, 0, 0, 0, 10, .rgb⟩ ⟨false, 7, 1, 0, 9, 1, .rgb⟩ = false ∧
    inputConflict ⟨true, 7, 0, 0, 0, 10, .rgb⟩ ⟨true, 6, 1, 0, 9, 1, .rgb⟩ = false ∧
    outputConflict ⟨true, 23, 0, 0, 2, .rgb, 0⟩ ⟨true, 23, 5, 9, 1, .rgb, 0⟩ = true ∧
    outputConflict ⟨true, 23, 0, 0, 2, .rgb, 0⟩ ⟨true, 23, 6, 0, 1, .rgb, 0⟩ = false ∧
    inputEntryOf ⟨some true, 7, 15, 381, 239, 2, some .rgb⟩ = none ∧
    inputEntryOf ⟨some false, 7, 15, 381, 239, 128, some .rgb⟩ = some ⟨false, 7, 15, 381, 239, 128, .rgb⟩ ∧
    outputEntryOf ⟨some true, 23, 382, 0, 1, some .rgb, 4096⟩ = none := by decide +kernel

/-- Lane 23 configured for 384 channels in a state. -/
def laneIn (st : LaneState) : State :=
  State.reset.setLane 23 { Lane.initial ⟨true, 384, 25, 4, false, true⟩ with
    state := st, periodTimer := if st = .emitting then some 9 else none }

theorem witness_WriteLaneActsByState (c : Bool) :
    (State.reset.Takes (.writeLane hd 24 ⟨some c, 1, 10, 0, some c, some c⟩) hd ∧
      State.reset.Takes (.writeLane hd 23 ⟨some c, 385, 10, 0, some c, some c⟩) hd) ∧
    (State.reset.Takes (.writeLane hd 23 ⟨some c, 384, 9, 256, some c, some c⟩) hd ∧
      (State.reset.lane 23).state = .off) ∧
    ((laneIn .rest).Takes (.writeLane hd 23 ⟨some c, 1, 250, 255, some c, some c⟩) hd ∧
      ((laneIn .rest).lane 23).state = .rest) ∧
    ((laneIn .faulted).Takes (.writeLane hd 23 ⟨some c, 1, 250, 255, some c, some c⟩) hd ∧
      ((laneIn .faulted).lane 23).state = .faulted) ∧
    ((laneIn .emitting).Takes (.writeLane hd 23 ⟨some c, 384, 25, 255, some c, some c⟩) hd ∧
      ((laneIn .emitting).lane 23).active = true ∧ ((laneIn .emitting).lane 23).config.channelCount = 384 ∧
      ((laneIn .emitting).lane 23).config.period = 25) :=
  ⟨⟨takes rfl rfl rfl, takes rfl rfl rfl⟩, ⟨takes rfl rfl rfl, rfl⟩, ⟨takes rfl rfl rfl, rfl⟩,
    ⟨takes rfl rfl rfl, rfl⟩, takes rfl rfl rfl, rfl, rfl, rfl⟩

theorem witness_RestAndWakeRequests :
    (State.reset.Takes (.restLanes hd 16777216) hd ∧ State.reset.Takes (.wakeLanes hd 16777216) hd) ∧
    ((laneIn .emitting).Takes (.restLanes hd 16777215) hd ∧
      ((16777215).testBit 23 && (((laneIn .emitting).lane 23).active && !(laneIn .emitting).guarded 23)) = true ∧
      ((16777215).testBit 0 && (((laneIn .emitting).lane 0).active && !(laneIn .emitting).guarded 0)) = false) ∧
    ((laneIn .faulted).Takes (.wakeLanes hd 16777215) hd ∧ (16777215).testBit 23 = true ∧
      ((laneIn .faulted).lane 23).state = .faulted ∧ ((laneIn .faulted).lane 0).state = .off) :=
  ⟨⟨takes rfl rfl rfl, takes rfl rfl rfl⟩, ⟨takes rfl rfl rfl, by decide +kernel⟩, takes rfl rfl rfl,
    by decide +kernel⟩

/-- The octets of a RECEIPT frame with a payload. -/
def receiptOctets (payload : List Octet) : List Octet := frameOctets 0x13 16 1 payload

/-- Lane 23 in SETUP with sequence 15, its receipt timer due at 0, and a number of retries left. -/
def setupLane (retries : Nat) : State :=
  State.reset.setLane 23 { Lane.initial ⟨true, 384, 25, 4, false, true⟩ with
    state := .setup, cold := true, setupSequence := 15, retriesLeft := retries, receiptTimer := some 0 }

theorem witness_ReceiptsEndSetup :
    (parseFrame [] = none ∧ (parseFrame (frameOctets 0x12 16 1 [])).map (·.cls) = some 0x12) ∧
    ((parseFrame (receiptOctets [])).map (·.payload) = some [] ∧ ([] : List Octet).length ≠ 3 ∧
      (parseFrame (receiptOctets [24#8, 0#8, 1#8])).map (·.payload) = some [24#8, 0#8, 1#8] ∧ 23 < (24#8).toNat) ∧
    ((parseFrame (receiptOctets [23#8, 15#8, 1#8])).map (·.payload) = some [23#8, 15#8, 1#8] ∧
      (receiptOctets [23#8, 15#8, 1#8]).length ≤ 820 ∧ ((setupLane 1).lane 23).state = .setup ∧
      ((setupLane 1).lane 23).setupSequence = 15 ∧ ((setupLane 1).lane 23).cold = true) ∧
    ((parseFrame (receiptOctets [23#8, 15#8, 2#8])).map (·.payload) = some [23#8, 15#8, 2#8] ∧
      (setupLane 1).freeFaultRecord = some 0 ∧ (State.reset.lane 23).state ≠ .setup) ∧
    (((setupLane 1).lane 23).receiptTimer = some 0 ∧ 0 ≤ (setupLane 1).now ∧ 0 < ((setupLane 1).lane 23).retriesLeft) ∧
    (((setupLane 0).lane 23).receiptTimer = some 0 ∧ ((setupLane 0).lane 23).retriesLeft = 0) := by decide +kernel

theorem witness_PeriodEventComposesFrame :
    (frameOfSix.lane 3).state = .emitting ∧ (frameOfSix.lane 3).periodTimer = some 1000 ∧ 1000 ≤ frameOfSix.now ∧
    ((frameOfSix.guardRange 0).lane = 3 ∧ (frameOfSix.guardRange 0).first ≤ 7 ∧ 7 ≤ (frameOfSix.guardRange 0).last ∧
      frameOfSix.lanes.requestedGuard = true ∧ 7 < (frameOfSix.lane 3).config.channelCount) ∧
    (∀ i, i < 8 → ¬ ((frameOfSix.guardRange i).lane = 3 ∧ (frameOfSix.guardRange i).first ≤ 6 ∧
      6 ≤ (frameOfSix.guardRange i).last)) ∧
    ((0, (⟨true, 3, 0, 12, 2, .rgb, 6000⟩ : OutputEntry)) ∈ frameOfSix.outputBank frameOfSix.lanes.selected ∧
      (5 : Nat) < 0 + 3 * 2 ∧ (0 : Nat) + 3 * 2 ≤ 6) := by decide +kernel

/-- frameOfSix with an earlier frame of the lane waiting. -/
def frameWaitingToo (f : FixtureFrame) : State := frameOfSix.setWaiting 3 (some ⟨900, f⟩)

theorem witness_PeriodEventComposesFrame_clip :
    (frameOfSix.Unguarded 3 1 ∧ (OutputEntry.mk true 3 0 12 2 .rgb 6000).Covers 3 1 ∧
      (∀ q ∈ frameOfSix.outputBank frameOfSix.lanes.selected, q = (0, ⟨true, 3, 0, 12, 2, .rgb, 6000⟩)) ∧
      4095 < frameOfSix.gainedAt ⟨true, 3, 0, 12, 2, .rgb, 6000⟩ 1) ∧
    (frameOfSix.waitingFrame 3 = none ∧
      (frameWaitingToo (.levels 16 3 255 [])).waitingFrame 3 = some ⟨900, .levels 16 3 255 []⟩ ∧
      ((frameWaitingToo (.levels 16 3 255 [])).lane 3).state = .emitting) ∧
    (frameOfSix.gainedAt ⟨true, 3, 0, 12, 2, .rgb, 4096⟩ 1 ≤ 4095) := by
  unfold State.Unguarded OutputEntry.Covers; decide +kernel

/-- R151: a replaced LANE_LEVELS counts as late, and the new frame keeps its age. -/
theorem test_late_frame :
    let t := after (.periodEvent 3) (frameWaitingToo (.levels 16 3 255 []))
    (t.lane 3).late = 1 ∧ (t.waitingFrame 3).map (·.age) = some 900 := by decide +kernel

/-- Lane 23 in WARMUP with its last warm-up frame to come. -/
def warmLane : State :=
  State.reset.setLane 23 { Lane.initial ⟨true, 384, 25, 1, false, true⟩ with
    state := .warmup, warmUpRemaining := 1, periodTimer := some 0 }

theorem witness_PeriodEventComposesFrame_warmup :
    (warmLane.lane 23).state = .warmup ∧ (warmLane.lane 23).periodTimer = some 0 ∧ 0 ≤ warmLane.now ∧
    warmLane.lanes.requestedGuard = false ∧ 383 < (warmLane.lane 23).config.channelCount := by decide +kernel

/-- Lanes 22 and 23 in EMITTING from bank 0 after a switch to bank 1 that waits for them, lane 22 having adopted or not. -/
def lastToAdopt (adopted : Bool) : State :=
  State.reset.withLanes { State.reset.lanes with
    selected := .bank1, switch := .switching
    lanes := (List.range 24).map (fun l => (l, { Lane.initial ⟨true, 6, 25, 1, false, true⟩ with
      state := if 22 ≤ l then .emitting else .rest, periodTimer := if 22 ≤ l then some 0 else none
      bank := if l < 22 || (l == 22 && adopted) then .bank1 else .bank0 })) }

theorem witness_PeriodEventComposesFrame_adoption :
    (∀ a, ((lastToAdopt a).lane 23).state = .emitting ∧ ((lastToAdopt a).lane 23).periodTimer = some 0) ∧
    (∀ j, j < 24 → j ≠ 23 → ((lastToAdopt true).lane j).bank = (lastToAdopt true).lanes.selected) ∧
    ((lastToAdopt false).lane 22).bank ≠ (lastToAdopt false).lanes.selected ∧
    (∀ j, j < 24 → j ≠ 23 → (warmLane.lane j).guardInUse = warmLane.lanes.requestedGuard) ∧
    (frameOfSix.lane 0).guardInUse ≠ frameOfSix.lanes.requestedGuard := by decide +kernel

/-- R149, R158: the last adoption makes the output switch IDLE; the last warm-up frame clears cold. -/
theorem test_last_adoption :
    (after (.periodEvent 23) (lastToAdopt true)).lanes.switch = .idle ∧
    (after (.periodEvent 23) (lastToAdopt false)).lanes.switch = .switching ∧
    ((after (.periodEvent 23) (warmLane.setLane 23 { warmLane.lane 23 with cold := true })).lane 23).cold = false := by
  decide +kernel

/-- The frames of lanes 0 and 23 wait with the same age; a frame may be on the line since instant 0, at instant 1. -/
def fixtureQueue (line : Option FixtureLine) (st : LaneState) : State :=
  ((atInstant 1 State.reset).withLanes { State.reset.lanes with
    waiting := [(0, some ⟨0, .levels 16 0 0 []⟩), (23, some ⟨0, .setup 16 23 1 384 25⟩)], line := line }).setLane 23
    { Lane.initial ⟨true, 384, 25, 4, false, true⟩ with state := st, setupSequence := 1 }

theorem witness_FixtureLineTakesOldestFrame :
    ((fixtureQueue none .setup).lanes.line = none ∧
      (fixtureQueue none .setup).waitingFrame 0 = some ⟨0, .levels 16 0 0 []⟩ ∧
      (∀ j, j < 24 → j ≠ 0 → ((fixtureQueue none .setup).waitingFrame j).all (fun v => decide (0 ≤ v.age)) = true)) ∧
    ((fixtureQueue (some ⟨.setup 16 23 1 384 25, 0⟩) .setup).lanes.line = some ⟨.setup 16 23 1 384 25, 0⟩ ∧
      0 < (fixtureQueue (some ⟨.setup 16 23 1 384 25, 0⟩) .setup).now ∧
      ((fixtureQueue (some ⟨.setup 16 23 1 384 25, 0⟩) .setup).lane 23).state = .setup ∧
      ((fixtureQueue (some ⟨.setup 16 23 1 384 25, 0⟩) .setup).lane 23).setupSequence = 1) ∧
    ((fixtureQueue (some ⟨.setup 16 23 1 384 25, 0⟩) .rest).lane 23).state ≠ .setup ∧
    (fixtureQueue (some ⟨.levels 16 0 0 [], 0⟩) .rest).lanes.line = some ⟨.levels 16 0 0 [], 0⟩ := by decide +kernel

/-- Guarding with a status, lane 23 composing with a guard state and lane 0 resting and named by an enabled range. -/
def guarding (st : GuardStatus) (inUse : Bool) : State :=
  State.reset.withLanes { State.reset.lanes with
    guardStatus := st
    guards := [(7, ⟨0, 383, 383, 4095⟩)]
    lanes := [(0, Lane.initial ⟨true, 384, 25, 4, false, true⟩),
      (23, { Lane.initial ⟨true, 384, 25, 4, false, true⟩ with
        state := .emitting, periodTimer := some 9, guardInUse := inUse })] }

theorem witness_GuardRequests :
    (State.reset.Takes (.writeGuard hd 8 0 0 0 0) hd ∧ 7 < 8) ∧
    ((guarding .enabled false).Takes (.writeGuard hd 7 23 383 383 4096) hd ∧
      (guarding .enabled false).lanes.guardStatus ≠ .disabled) ∧
    (State.reset.Takes (.writeGuard hd 7 23 383 383 4096) hd ∧ State.reset.lanes.guardStatus = .disabled) ∧
    ((guarding .settling false).Takes (.setGuardEnable hd (some true)) hd ∧
      (guarding .settling false).lanes.guardStatus = .settling) ∧
    ((guarding .disabled false).Takes (.setGuardEnable hd (some true)) hd ∧
      (guarding .disabled false).lanes.guardStatus ≠ .settling ∧
      ((guarding .disabled false).lane 23).composing = true ∧ ((guarding .disabled false).lane 23).guardInUse ≠ true ∧
      ((guarding .disabled false).lane 0).state = .rest ∧ (guarding .disabled false).rangeNames 0 = true) ∧
    ((guarding .disabled true).Takes (.setGuardEnable hd (some true)) hd ∧
      ((guarding .disabled true).lane 23).guardInUse = true) :=
  ⟨⟨takes rfl rfl rfl, by decide⟩, ⟨takes rfl rfl rfl, by decide⟩, ⟨takes rfl rfl rfl, rfl⟩, ⟨takes rfl rfl rfl, rfl⟩,
    ⟨takes rfl rfl rfl, by decide +kernel⟩, takes rfl rfl rfl, by decide +kernel⟩

/-- The fault table after n faults. -/
def faulty (n : Nat) : State := (List.range n).foldl (fun s i => s.recordFault (.sourceLost i)) State.reset

theorem witness_RecordFaultStoresOrOverflows :
    ((faulty 9).faults.nextWrite < 8 ∧ (faulty 9).faults.overflow = true) ∧
    ((faulty 7).faults.nextWrite = 7 ∧ (faulty 7).faults.overflow = false ∧ (faulty 7).faultRecord ((7 + 0) % 8) = none ∧
      (faulty 7).faults.pending = true) ∧
    ((faulty 0).faults.pending = false ∧ (faulty 0).settings.alertMask = true) ∧
    ((alertPendingWith 0).settings.alertMask = false ∧ (alertPendingWith 0).outboundRoom = true) ∧
    ((faulty 8).faults.overflow = false ∧ ∀ i, i < 8 → (faulty 8).faultRecord i ≠ none) := by decide +kernel

/-- A full fault table without overflow, the mask off and no alert pending. -/
def fullQuiet : State :=
  ((faulty 8).withMgmt { (faulty 8).mgmt with settings := { Settings.defaults with alertMask := false } }).withFaults
    { (faulty 8).faults with alertPending := false }

theorem witness_RecordFaultStoresOrOverflows_overflow :
    (faulty 8).faults.alertPending = true ∧
    (fullQuiet.faults.overflow = false ∧ (∀ i, i < 8 → fullQuiet.faultRecord i ≠ none) ∧
      fullQuiet.faults.alertPending = false ∧ fullQuiet.settings.alertMask = false ∧
      fullQuiet.outboundRoom = true) := by decide +kernel

/-- R188: the fault that sets overflow places an ALERT when the mask is off. -/
theorem test_overflow_alert : (fullQuiet.recordFault .imageWrite).mgmt.outbound =
    [.alert ⟨255, 16, some 0, 8, true, 1⟩] := by decide +kernel

theorem faulty_agrees : (faulty 8).faults.Agrees ∧ (faulty 0).faults.Agrees := by
  unfold FaultTable.Agrees
  refine ⟨⟨by decide +kernel, by decide +kernel, by decide +kernel, by decide +kernel, by decide +kernel,
    fun i h => ?_, by decide +kernel⟩, by decide +kernel, by decide +kernel, by decide +kernel, by decide +kernel,
    by decide +kernel, fun i h => ?_, by decide +kernel⟩
  · have h8 : (faulty 8).faults.first = some 0 := by decide +kernel
    obtain rfl : 0 = i := Option.some.inj (h8.symm.trans h)
    decide +kernel
  · have h0 : (faulty 0).faults.first = none := by decide +kernel
    exact absurd (h0.symm.trans h) (by simp)

theorem witness_ClearsFollowTheRecords :
    (faulty 8).faults.Agrees ∧ (faulty 8).Takes (.clearFault hd 8) hd ∧
    ((faulty 8).Takes (.clearFault hd 7) hd ∧ (faulty 8).faultRecord 7 ≠ none ∧ (faulty 8).faults.first ≠ some 7) ∧
    ((faulty 8).Takes (.clearFault hd 0) hd ∧ (faulty 8).faultRecord 0 ≠ none ∧ (faulty 8).faults.first = some 0) ∧
    ((faulty 0).faults.Agrees ∧ (faulty 0).Takes (.clearFault hd 7) hd ∧ (faulty 0).faultRecord 7 = none) ∧
    (faulty 8).Takes (.clearOverflow hd) hd := by
  have h : ∀ c, (faulty 8).Takes c hd := fun c => takes (by decide +kernel) (by decide +kernel) (by decide +kernel)
  exact ⟨faulty_agrees.1, h _, ⟨h _, by decide +kernel⟩, ⟨h _, by decide +kernel⟩,
    ⟨faulty_agrees.2, takes rfl rfl rfl, rfl⟩, h _⟩

/-- A full fault table agrees, and a step from it answers a next state. -/
theorem witness_StepsKeepFaultTableAgreement :
    (faulty 8).faults.Agrees ∧ step ((faulty 8).withPending [.runClockAdvance]) = .next (after .runClockAdvance (faulty 8)) :=
  ⟨faulty_agrees.1, rfl⟩

/-- For StepsKeepTablesCanonical, StepsKeepQueuesBounded, StepsKeepTimeAndAgenda, StepsKeepPlayingCounts,
StepsKeepZonesOwned and StepsKeepSettingsLegal: each invariant holds of the machine after reset, and a step runs from
there. -/
theorem witness_StepsKeepInvariants :
    State.reset.Canonical ∧ State.reset.QueuesBounded ∧ State.reset.ingress.SwitchWaits ∧
    State.reset.time.Consistent ∧ State.reset.TimelessIsStale ∧ State.reset.calendar.Ordered ∧
    State.reset.PlayingCounts ∧ State.reset.LayersHaveSlots ∧ State.reset.SettingsLegal ∧
    step (State.reset.withPending [.runClockAdvance]) = .next (after .runClockAdvance State.reset) := by
  refine ⟨reset_canonical, by unfold State.QueuesBounded; decide, fun h => absurd h (by decide),
    ⟨by decide +kernel, by decide, by decide, by decide, by decide, by decide, fun p h => absurd h (by simp [State.reset, TimeUnit.initial, TowerClock.time]), fun _ => rfl, by decide⟩,
    fun _ => ⟨rfl, rfl, rfl⟩, ⟨by decide, List.Pairwise.nil, List.Pairwise.nil⟩,
    ⟨by decide, fun sh => rfl, fun k p h => absurd h (by simp [State.slot, State.reset]),
      fun _ h => absurd h (by simp [State.reset]), fun _ _ h => absurd h (by simp [State.reset])⟩,
    ⟨reset_zonesOwned, fun z k _ h => absurd h (by simp [State.layer, State.zone, State.reset, Zone.blank])⟩,
    ⟨fun n => by cases n <;> decide, fun _ h => absurd h (by simp [State.reset, ManagementUnit.initial]),
      fun _ h => absurd h (by simp [State.reset]), fun _ _ h => absurd h (by simp [State.reset])⟩, rfl⟩

theorem reset_lanesAgree : State.reset.LanesAgree :=
  ⟨fun _ => by decide +kernel, fun _ => ⟨by decide +kernel, by decide +kernel⟩, by decide +kernel,
    fun l h => absurd h (by simp [State.lane, State.reset, LaneController.initial, Lane.blank, Lane.initial]),
    fun l => by
      simp [State.lane, State.reset, LaneController.initial, Lane.blank, Lane.initial, Lane.composing, LaneConfig.blank]⟩

theorem witness_StepsKeepLanesInAgreement_settled :
    (lastToAdopt true).LanesSettled ∧
    step ((lastToAdopt true).withPending [.periodEvent 23]) = .next (after (.periodEvent 23) (lastToAdopt true)) :=
  ⟨⟨fun h => absurd (h 23 (by decide)) (by decide +kernel), fun _ => by decide⟩, rfl⟩

theorem witness_StepsKeepLanesInAgreement :
    State.reset.LanesAgree ∧ step State.reset = .next State.reset := ⟨reset_lanesAgree, rfl⟩

end Sys2Proof.Tests
end

section
/-! SUPPORT. The take of a frame by its class, source and sequence (R121 to R126). -/

namespace Sys2Proof.Machine

/-! ## The oldest frame is taken -/

/-- An idle processor takes the oldest frame off the queue and handles it by its class (R121, R122). -/
theorem exec_ingressTake_cons {s : State} {f : Frame} {rest : List Frame} (hp : s.ingress.processing = none)
    (hq : s.ingress.queue = f :: rest) :
    exec .ingressTake s = .next ((s.withIngress { s.ingress with queue := rest }).classify f) := by
  change execIngressTake s = _
  simp only [execIngressTake, hp, hq]

/-- Without a waiting switch there is nothing to complete (R137). -/
theorem State.completeSwitch_of_idle {s : State} (h : s.ingress.switch = .idle) : s.completeSwitch = s := by
  simp only [State.completeSwitch, h]

/-- Without a waiting switch a drop at the take only counts (R121, R137). -/
theorem State.dropAtTake_of_idle {s : State} (h : s.ingress.switch = .idle)
    (k : ShowPortCounters → ShowPortCounters) : s.dropAtTake k = s.count k :=
  State.completeSwitch_of_idle h

/-! ## By class -/

theorem State.classify_of_level (s : State) {f : Frame} (h : f.cls = 1) : s.classify f = s.takeLevel f := by
  simp [State.classify, h, classLevel]

theorem State.classify_of_time (s : State) {f : Frame} (h : f.cls = 2) : s.classify f = s.takeTime f := by
  simp [State.classify, h, classLevel, classTime]

theorem State.classify_of_request (s : State) {f : Frame} (h : f.cls = 3) : s.classify f = s.takeRequest f := by
  simp [State.classify, h, classLevel, classTime, classRequest]

theorem State.classify_of_unknown (s : State) {f : Frame} (h : f.cls ≠ 1 ∧ f.cls ≠ 2 ∧ f.cls ≠ 3) :
    s.classify f = s.dropAtTake (fun c => { c with unknownClass := satInc 65535 c.unknownClass }) := by
  obtain ⟨hlevel, htime, hrequest⟩ := h
  simp [State.classify, hlevel, htime, hrequest, classLevel, classTime, classRequest]

/-! ## The matched source -/

theorem sourceNumbers_eq_range : sourceNumbers = List.range 8 := rfl

/-- No source matches when every enabled source with an origin has another one (R125). -/
theorem State.matchedSource_eq_none {s : State} {origin : Nat}
    (h : ∀ i, i < 8 → (s.source i).enabled = true → (s.source i).origin ≠ 0 → (s.source i).origin ≠ origin) :
    s.matchedSource origin = none := by
  rw [State.matchedSource, sourceNumbers_eq_range, List.find?_range_eq_none]
  intro i hi
  simpa only [Bool.not_eq_true', Bool.and_eq_false_imp, Bool.and_eq_true, decide_eq_true_eq, decide_eq_false_iff_not,
    and_imp] using h i hi

/-- The lowest-numbered enabled source of the origin matches (R125). -/
theorem State.matchedSource_eq_some {s : State} {origin i : Nat} (hi : i < 8) (hen : (s.source i).enabled = true)
    (h0 : (s.source i).origin ≠ 0) (ho : (s.source i).origin = origin)
    (hlow : ∀ j, j < i → (s.source j).enabled = true → (s.source j).origin ≠ origin) :
    s.matchedSource origin = some i := by
  rw [State.matchedSource, sourceNumbers_eq_range, List.find?_range_eq_some]
  refine ⟨by simp [hen, ← ho, h0], List.mem_range.2 hi, fun j hj => ?_⟩
  simpa only [Bool.not_eq_true', Bool.and_eq_false_imp, Bool.and_eq_true, decide_eq_true_eq, decide_eq_false_iff_not,
    and_imp] using fun hen' _ => hlow j hj hen'

/-! ## The sequence check -/

theorem sequenceCheck_self (q : Nat) : sequenceCheck (some q) q = .duplicate := by simp [sequenceCheck]

theorem sequenceCheck_of_behind {q n : Nat} (h : 128 ≤ (n + 256 - q) % 256) :
    sequenceCheck (some q) n = .stale := by
  have hne : n ≠ q := by omega
  simp [sequenceCheck, hne, h]

theorem sequenceCheck_of_ahead {q n : Nat} (h1 : 1 ≤ (n + 256 - q) % 256) (h127 : (n + 256 - q) % 256 ≤ 127) :
    sequenceCheck (some q) n = .accepted := by
  have hne : n ≠ q := by omega
  have hlt : ¬ 128 ≤ (n + 256 - q) % 256 := by omega
  simp [sequenceCheck, hne, hlt]

/-- What the check lets through: the first sequence of a lane, or one 1 to 127 ahead of the stored one (R126). -/
theorem sequenceCheck_eq_accepted {stored : Option Nat} {n : Nat}
    (h : stored = none ∨ ∃ q, q < 256 ∧ stored = some q ∧ 1 ≤ (n + 256 - q) % 256 ∧ (n + 256 - q) % 256 ≤ 127) :
    sequenceCheck stored n = .accepted := by
  obtain rfl | ⟨q, _, rfl, h1, h127⟩ := h
  · rfl
  · exact sequenceCheck_of_ahead h1 h127

/-! ## The take of a LEVEL frame -/

theorem State.takeLevel_of_unmatched {s : State} {f : Frame} (h : s.matchedSource f.origin = none) :
    s.takeLevel f = s.dropAtTake (fun c => { c with unknownSource := satInc 65535 c.unknownSource }) := by
  simp only [State.takeLevel, h]

theorem State.takeLevel_of_malformed {s : State} {f : Frame} {i : Nat} (h : s.matchedSource f.origin = some i)
    (hv : levelFields f.payload = none) :
    s.takeLevel f = s.dropAtTake (fun c => { c with malformedLevel := satInc 65535 c.malformedLevel }) := by
  simp only [State.takeLevel, h, hv]

theorem State.takeLevel_of_duplicate {s : State} {f : Frame} {i : Nat} {v : LevelFields}
    (h : s.matchedSource f.origin = some i) (hv : levelFields f.payload = some v)
    (hc : sequenceCheck ((s.source i).sequence v.lane) v.sequence = .duplicate) :
    s.takeLevel f =
      (s.setSource i { s.source i with duplicate := satInc 65535 (s.source i).duplicate }).completeSwitch := by
  simp only [State.takeLevel, h, hv, hc]

theorem State.takeLevel_of_stale {s : State} {f : Frame} {i : Nat} {v : LevelFields}
    (h : s.matchedSource f.origin = some i) (hv : levelFields f.payload = some v)
    (hc : sequenceCheck ((s.source i).sequence v.lane) v.sequence = .stale) :
    s.takeLevel f = (s.setSource i { s.source i with stale := satInc 65535 (s.source i).stale }).completeSwitch := by
  simp only [State.takeLevel, h, hv, hc]

theorem State.takeLevel_of_accepted {s : State} {f : Frame} {i : Nat} {v : LevelFields}
    (h : s.matchedSource f.origin = some i) (hv : levelFields f.payload = some v)
    (hc : sequenceCheck ((s.source i).sequence v.lane) v.sequence = .accepted) :
    s.takeLevel f = s.process f (.level i (s.source i).enabled (s.source i).origin s.ingress.inUse) := by
  simp only [State.takeLevel, h, hv, hc]

/-! ## The take of a TIME and of a MGMT_REQ frame -/

theorem State.takeTime_of_timekeeper {s : State} {f : Frame} (h0 : s.settings.timekeeperAddress ≠ 0)
    (ho : s.settings.timekeeperAddress = f.origin) :
    s.takeTime f = s.process f (.time s.settings.timekeeperAddress) :=
  if_pos ⟨h0, ho⟩

theorem State.takeTime_of_foreign {s : State} {f : Frame}
    (h : s.settings.timekeeperAddress = 0 ∨ s.settings.timekeeperAddress ≠ f.origin) :
    s.takeTime f = s.dropAtTake (fun c => { c with foreignTime := satInc 65535 c.foreignTime }) :=
  if_neg fun ⟨h0, ho⟩ => h.elim h0 (· ho)

theorem State.takeRequest_of_station {s : State} {f : Frame} (h : s.settings.stationAddress = 255 ∨
      (s.settings.stationAddress ≠ 0 ∧ s.settings.stationAddress = f.origin)) :
    s.takeRequest f = s.process f (.request s.settings.stationAddress) :=
  if_pos h

theorem State.takeRequest_of_foreign {s : State} {f : Frame} (hany : s.settings.stationAddress ≠ 255)
    (h : s.settings.stationAddress = 0 ∨ s.settings.stationAddress ≠ f.origin) :
    s.takeRequest f = s.dropAtTake (fun c => { c with foreignRequest := satInc 65535 c.foreignRequest }) :=
  if_neg fun hs => hs.elim hany fun ⟨h0, ho⟩ => h.elim h0 (· ho)

/-! ## INGRESS_TAKE -/

/-- Settles O39: the take leaves the queue's rest, and one lemma per class, per match and per result of the sequence
check says what the frame becomes. -/
theorem takeHandlesFrameByClass : Obligations.TakeHandlesFrameByClass := by
  intro s f rest g hproc hidle hqueue hg
  have hswitch : (s.withIngress g).ingress.switch = .idle := by rw [hg]; exact hidle
  have hsource : ∀ j, (s.withIngress g).source j = s.source j := by rw [hg]; exact fun _ => rfl
  have hdrop := State.dropAtTake_of_idle hswitch
  rw [exec_ingressTake_cons hproc hqueue, ← hg]
  refine ⟨fun hc => ?_, fun hc h0 ho => ?_, fun hc hf => ?_, fun hc hs => ?_, fun hc hany hf => ?_,
    fun hc hno => ?_, fun i hc hi hen h0 ho hlow => ?_⟩
  · rw [State.classify_of_unknown _ hc, hdrop]; rfl
  · rw [State.classify_of_time _ hc, State.takeTime_of_timekeeper (s := s.withIngress g) h0 ho]; rfl
  · rw [State.classify_of_time _ hc, State.takeTime_of_foreign (s := s.withIngress g) hf, hdrop]; rfl
  · rw [State.classify_of_request _ hc, State.takeRequest_of_station (s := s.withIngress g) hs]; rfl
  · rw [State.classify_of_request _ hc, State.takeRequest_of_foreign (s := s.withIngress g) hany hf, hdrop]; rfl
  · have hnone : (s.withIngress g).matchedSource f.origin = none :=
      State.matchedSource_eq_none (by simpa only [hsource] using hno)
    rw [State.classify_of_level _ hc, State.takeLevel_of_unmatched hnone, hdrop]; rfl
  · have hmatch : (s.withIngress g).matchedSource f.origin = some i := by
      apply State.matchedSource_eq_some hi <;> simpa only [hsource]
    rw [State.classify_of_level _ hc]
    refine ⟨fun hv => ?_, fun v hv => ?_⟩
    · rw [State.takeLevel_of_malformed hmatch hv, hdrop]; rfl
    · refine ⟨fun hacc => ?_, fun hdup => ?_, fun q _ hstored hbehind => ?_⟩
      · rw [State.takeLevel_of_accepted hmatch hv (by rw [hsource]; exact sequenceCheck_eq_accepted hacc), hsource,
          hen, ho]
        rfl
      · rw [State.takeLevel_of_duplicate hmatch hv (by rw [hsource, hdup]; exact sequenceCheck_self _), hsource]
        exact congrArg _ (State.completeSwitch_of_idle hswitch)
      · rw [State.takeLevel_of_stale hmatch hv (by rw [hsource, hstored]; exact sequenceCheck_of_behind hbehind),
          hsource]
        exact congrArg _ (State.completeSwitch_of_idle hswitch)

end Sys2Proof.Machine
end

section
/-! SUPPORT. The patch banks: the first overlapping pair of a table, the entries that a write makes, and what the
writes, copies and switches of the input and output banks answer (R133 to R137, R155 to R158). -/

namespace Sys2Proof.Machine

/-! ## Overlaps -/

theorem runsShare_iff (a m b n : Nat) :
    runsShare a m b n = true ↔ ∃ z, a ≤ z ∧ z < a + m ∧ b ≤ z ∧ z < b + n := by
  rw [runsShare, decide_eq_true_iff]
  constructor
  · intro h
    exact ⟨max a b, by omega⟩
  · rintro ⟨z, hz⟩
    omega

theorem inputConflict_iff (a b : InputEntry) :
    inputConflict a b = true ↔ a.present = true ∧ b.present = true ∧ a.source = b.source ∧
      ∃ z, a.zoneFirst ≤ z ∧ z < a.zoneFirst + a.zoneCount ∧ b.zoneFirst ≤ z ∧ z < b.zoneFirst + b.zoneCount := by
  simp only [inputConflict, Bool.and_eq_true, decide_eq_true_eq, runsShare_iff, and_assoc]

theorem outputConflict_iff (a b : OutputEntry) :
    outputConflict a b = true ↔ a.present = true ∧ b.present = true ∧ a.lane = b.lane ∧
      ∃ c, a.firstChannel ≤ c ∧ c < a.firstChannel + 3 * a.zoneCount ∧
        b.firstChannel ≤ c ∧ c < b.firstChannel + 3 * b.zoneCount := by
  simp only [outputConflict, Bool.and_eq_true, decide_eq_true_eq, runsShare_iff, and_assoc]

/-! ## The first overlapping pair of a table -/

section FirstPair

variable {α : Type} {conflict : α → α → Bool}

theorem Table.firstPair_eq_none_iff {t : Table α} :
    Table.firstPair conflict t = none ↔ t.Pairwise (fun a b => conflict a.2 b.2 = false) := by
  induction t with
  | nil => simp [Table.firstPair]
  | cons p t ih =>
    obtain ⟨k, v⟩ := p
    rw [List.pairwise_cons, ← ih, Table.firstPair]
    cases hf : t.find? (fun p => conflict v p.2) with
    | none =>
      have hall : ∀ q ∈ t, conflict v q.2 = false := by simpa using hf
      exact (and_iff_right hall).symm
    | some q =>
      have hq : conflict v q.2 = true := List.find?_some (p := fun p : Nat × α => conflict v p.2) hf
      have hmem : q ∈ t := List.mem_of_find?_eq_some hf
      simp only [reduceCtorEq, false_iff, not_and]
      intro hall
      simp [hall q hmem] at hq

/-- The pair found is listed and conflicts. -/
theorem Table.firstPair_mem {t : Table α} {i j : Nat} (h : Table.firstPair conflict t = some (i, j)) :
    ∃ a b, (i, a) ∈ t ∧ (j, b) ∈ t ∧ conflict a b = true := by
  induction t with
  | nil => simp [Table.firstPair] at h
  | cons p t ih =>
    obtain ⟨k, v⟩ := p
    rw [Table.firstPair] at h
    cases hf : t.find? (fun p => conflict v p.2) with
    | none =>
      rw [hf] at h
      obtain ⟨a, b, ha, hb, hab⟩ := ih h
      exact ⟨a, b, List.mem_cons_of_mem _ ha, List.mem_cons_of_mem _ hb, hab⟩
    | some q =>
      rw [hf] at h
      obtain ⟨rfl, rfl⟩ : k = i ∧ q.1 = j := by simpa using h
      exact ⟨v, q.2, List.mem_cons_self, List.mem_cons_of_mem _ (List.mem_of_find?_eq_some hf),
        List.find?_some (p := fun p : Nat × α => conflict v p.2) hf⟩

/-- In a table whose indices rise strictly, the first pair with a test is the one of the lowest index. -/
theorem Table.find?_le {t : Table α} (ht : t.Pairwise (fun p q => p.1 < q.1)) {test : Nat × α → Bool} {q r : Nat × α}
    (hq : t.find? test = some q) (hr : r ∈ t) (hrt : test r = true) : q.1 ≤ r.1 := by
  obtain ⟨_, before, after, rfl, hbefore⟩ := List.find?_eq_some_iff_append.1 hq
  obtain ⟨_, hafter, _⟩ := List.pairwise_append.1 ht
  rcases List.mem_append.1 hr with hr | hr
  · have hfail := hbefore r hr
    simp [hrt] at hfail
  · rcases List.mem_cons.1 hr with rfl | hr
    · exact Nat.le_refl _
    · exact Nat.le_of_lt ((List.pairwise_cons.1 hafter).1 r hr)

/-- A pair above the index of a table's head is listed in its tail. -/
theorem Table.mem_of_mem_cons_of_lt {k n : Nat} {v x : α} {t : Table α}
    (h : (n, x) ∈ ((k, v) :: t : Table α)) (hlt : k < n) : (n, x) ∈ t := by
  rcases List.mem_cons.1 h with he | h
  · simp only [Prod.mk.injEq] at he; omega
  · exact h

/-- In a table whose indices rise strictly, the pair found has the smallest lower index, and among those the smallest
higher index (R136, R157). -/
theorem Table.firstPair_least {t : Table α} (hrise : t.Pairwise (fun p q => p.1 < q.1)) {i j : Nat}
    (h : Table.firstPair conflict t = some (i, j)) :
    i < j ∧ ∀ i' j' a' b', (i', a') ∈ t → (j', b') ∈ t → i' < j' → conflict a' b' = true →
      i < i' ∨ (i = i' ∧ j ≤ j') := by
  induction t with
  | nil => simp [Table.firstPair] at h
  | cons p t ih =>
    obtain ⟨k, v⟩ := p
    obtain ⟨hk, ht⟩ := List.pairwise_cons.1 hrise
    rw [Table.firstPair] at h
    cases hf : t.find? (fun p => conflict v p.2) with
    | none =>
      rw [hf] at h
      obtain ⟨hij, hleast⟩ := ih ht h
      refine ⟨hij, fun i' j' a' b' ha hb hlt hab => ?_⟩
      rcases List.mem_cons.1 ha with he | ha
      · obtain ⟨rfl, rfl⟩ : i' = k ∧ a' = v := by simpa using he
        exact absurd hab (by simpa using List.find?_eq_none.1 hf _ (Table.mem_of_mem_cons_of_lt hb hlt))
      · exact hleast i' j' a' b' ha (Table.mem_of_mem_cons_of_lt hb (Nat.lt_trans (hk _ ha) hlt)) hlt hab
    | some q =>
      rw [hf] at h
      obtain ⟨rfl, rfl⟩ : k = i ∧ q.1 = j := by simpa using h
      refine ⟨hk q (List.mem_of_find?_eq_some hf), fun i' j' a' b' ha hb hlt hab => ?_⟩
      rcases List.mem_cons.1 ha with he | ha
      · obtain ⟨rfl, rfl⟩ : i' = k ∧ a' = v := by simpa using he
        exact .inr ⟨rfl, Table.find?_le ht hf (Table.mem_of_mem_cons_of_lt hb hlt) hab⟩
      · exact .inl (hk _ ha)

/-- The indices of a table in the canonical form rise strictly. -/
theorem Table.indices_rise_of_wf [DecidableEq α] {d : α} {t : Table α} (h : Table.wf d t = true) :
    t.Pairwise (fun p q => p.1 < q.1) := by
  induction t with
  | nil => exact List.Pairwise.nil
  | cons p t ih =>
    obtain ⟨_, hk, ht⟩ := (Table.wf_cons d p.1 p.2 t).1 h
    exact List.pairwise_cons.2 ⟨hk, ih ht⟩

/-- A table with a conflict has a first pair: listed, in conflict and, in the canonical form, the least (R136, R157). -/
theorem Table.exists_firstPair [DecidableEq α] (d : α) {t : Table α}
    (h : ¬ t.Pairwise (fun a b => conflict a.2 b.2 = false)) :
    ∃ i j a b, (i, a) ∈ t ∧ (j, b) ∈ t ∧ conflict a b = true ∧
      (Table.wf d t = true → i < j ∧ ∀ i' j' a' b', (i', a') ∈ t → (j', b') ∈ t → i' < j' →
        conflict a' b' = true → i < i' ∨ (i = i' ∧ j ≤ j')) ∧
      Table.firstPair conflict t = some (i, j) := by
  cases hp : Table.firstPair conflict t with
  | none => exact absurd (Table.firstPair_eq_none_iff.1 hp) h
  | some p =>
    obtain ⟨i, j⟩ := p
    obtain ⟨a, b, ha, hb, hab⟩ := Table.firstPair_mem hp
    exact ⟨i, j, a, b, ha, hb, hab, fun hwf => Table.firstPair_least (Table.indices_rise_of_wf hwf) hp, rfl⟩

end FirstPair

/-! ## The entry of a write -/

/-- The runs of an entry with zones end by channel 383 and zone 239 (R133, R155). -/
theorem runFits_iff {c z n : Nat} (hn : 1 ≤ n) : runFits c z n = true ↔ c + 3 * n - 1 ≤ 383 ∧ z + n - 1 ≤ 239 := by
  simp only [runFits, Bool.and_eq_true, decide_eq_true_eq]
  omega

theorem clamp_zero (hi n : Nat) : clamp 0 hi n = min n hi := by
  unfold clamp
  split <;> [omega; split <;> omega]

theorem inputEntryOf_eq_some_iff (f : InputPatchArgs) (e : InputEntry) :
    inputEntryOf f = some e ↔
      f.present = some e.present ∧ f.order = some e.order ∧ e.source = f.source ∧ e.sourceLane = f.sourceLane ∧
        e.firstChannel = f.firstChannel ∧ e.zoneFirst = f.zoneFirst ∧ e.zoneCount = f.zoneCount ∧
        f.source ≤ 7 ∧ f.sourceLane ≤ 15 ∧ f.firstChannel ≤ 383 ∧ f.zoneFirst ≤ 239 ∧ 1 ≤ f.zoneCount ∧
        f.zoneCount ≤ 128 ∧
        (e.present = true → f.firstChannel + 3 * f.zoneCount - 1 ≤ 383 ∧ f.zoneFirst + f.zoneCount - 1 ≤ 239) := by
  unfold inputEntryOf
  cases hp : f.present with
  | none => simp
  | some present =>
    cases ho : f.order with
    | none => simp
    | some order =>
      dsimp only
      constructor
      · intro h
        split at h
        · next hr =>
          obtain ⟨hs, hl, hc, hz, hn, hn', hfit⟩ := hr
          obtain rfl := Option.some.inj h
          exact ⟨rfl, rfl, rfl, rfl, rfl, rfl, rfl, hs, hl, hc, hz, hn, hn', fun hpr => (runFits_iff hn).1 (hfit hpr)⟩
        · contradiction
      · rintro ⟨hpr, hor, hs, hl, hc, hz, hn, hs7, hl15, hc383, hz239, hn1, hn128, hfit⟩
        cases e
        simp_all [runFits_iff hn1]

theorem outputEntryOf_eq_some_iff (f : OutputPatchArgs) (e : OutputEntry) :
    outputEntryOf f = some e ↔
      f.present = some e.present ∧ f.order = some e.order ∧ e.lane = f.lane ∧ e.firstChannel = f.firstChannel ∧
        e.zoneFirst = f.zoneFirst ∧ e.zoneCount = f.zoneCount ∧ e.gain = min f.gain 8191 ∧
        f.lane ≤ 23 ∧ f.firstChannel ≤ 383 ∧ f.zoneFirst ≤ 239 ∧ 1 ≤ f.zoneCount ∧ f.zoneCount ≤ 128 ∧
        (e.present = true → f.firstChannel + 3 * f.zoneCount - 1 ≤ 383 ∧ f.zoneFirst + f.zoneCount - 1 ≤ 239) := by
  unfold outputEntryOf
  cases hp : f.present with
  | none => simp
  | some present =>
    cases ho : f.order with
    | none => simp
    | some order =>
      dsimp only
      constructor
      · intro h
        split at h
        · next hr =>
          obtain ⟨hl, hc, hz, hn, hn', hfit⟩ := hr
          obtain rfl := Option.some.inj h
          exact ⟨rfl, rfl, rfl, rfl, rfl, rfl, clamp_zero _ _, hl, hc, hz, hn, hn',
            fun hpr => (runFits_iff hn).1 (hfit hpr)⟩
        · contradiction
      · rintro ⟨hpr, hor, hl, hc, hz, hn, hg, hl23, hc383, hz239, hn1, hn128, hfit⟩
        cases e
        simp_all [runFits_iff hn1, clamp_zero]

/-! ## What the input patch requests answer -/

/-- Once its reply replaces the management unit, nothing is left of the take in what a write of a bank leaves. -/
theorem State.setInputBank_atTake (s : State) (b : BankNo) (t : Table InputEntry) (m : ManagementUnit) :
    (s.atTake.setInputBank b t).withMgmt m = (s.setInputBank b t).withMgmt m := by
  cases b <;> rfl

@[simp] theorem State.inputBank_setInputBank (s : State) (b : BankNo) (t : Table InputEntry) (m : ManagementUnit) :
    ((s.setInputBank b t).withMgmt m).inputBank b = t := by
  cases b <;> rfl

@[simp] theorem State.inputBank_atTake (s : State) (b : BankNo) : s.atTake.inputBank b = s.inputBank b := by
  cases b <;> rfl

theorem writeInputPatchAnswer_of_range {i : Nat} {f : InputPatchArgs} (h : 95 < i ∨ inputEntryOf f = none)
    (s : State) : writeInputPatchAnswer i f s = s.refuse .refusedRange := by
  unfold writeInputPatchAnswer
  split
  · rfl
  · next hi => rw [h.resolve_left hi]

/-- A write with its fields in range is refused while a switch is under way, and otherwise changes the standby bank
(R134). -/
theorem writeInputPatchAnswer_of_entry {i : Nat} {f : InputPatchArgs} {e : InputEntry} (hi : i ≤ 95)
    (he : inputEntryOf f = some e) (s : State) :
    writeInputPatchAnswer i f s =
      if s.ingress.switch = .switching then s.refuse .refusedState
      else (s.setInputBank s.ingress.inUse.other
        (Table.write .blank (s.inputBank s.ingress.inUse.other) i e)).answerOk := by
  rw [writeInputPatchAnswer, if_neg (by omega), he]
  rfl

/-- WRITE_INPUT_PATCH with a field out of range is refused (R134). -/
theorem exec_writeInputPatch_of_range {h : ReqHead} {i : Nat} {f : InputPatchArgs} {s : State}
    (ht : s.Takes (.writeInputPatch h i f) h) (hr : 95 < i ∨ inputEntryOf f = none) :
    exec (.writeInputPatch h i f) s = .next (s.repliesOnly (.writeInputPatch h i f) h .refusedRange .none) :=
  congrArg Host.Outcome.next (State.request_refuse ht (writeInputPatchAnswer_of_range hr _))

theorem exec_writeInputPatch_of_switching {h : ReqHead} {i : Nat} {f : InputPatchArgs} {e : InputEntry} {s : State}
    (ht : s.Takes (.writeInputPatch h i f) h) (hi : i ≤ 95) (he : inputEntryOf f = some e)
    (hs : s.ingress.switch = .switching) :
    exec (.writeInputPatch h i f) s = .next (s.repliesOnly (.writeInputPatch h i f) h .refusedState .none) :=
  congrArg Host.Outcome.next
    (State.request_refuse ht ((writeInputPatchAnswer_of_entry hi he _).trans (if_pos hs)))

/-- WRITE_INPUT_PATCH writes its entry into the standby bank (R134). -/
theorem exec_writeInputPatch_of_idle {h : ReqHead} {i : Nat} {f : InputPatchArgs} {e : InputEntry} {s : State}
    (ht : s.Takes (.writeInputPatch h i f) h) (hi : i ≤ 95) (he : inputEntryOf f = some e)
    (hs : s.ingress.switch = .idle) :
    exec (.writeInputPatch h i f) s = .next ((s.setInputBank s.ingress.inUse.other
      (Table.write .blank (s.inputBank s.ingress.inUse.other) i e)).withMgmt
        (s.replied (.writeInputPatch h i f) h .ok .none)) := by
  have hanswer := (writeInputPatchAnswer_of_entry hi he s.atTake).trans
    (if_neg (by simp [hs]))
  refine congrArg Host.Outcome.next ((State.request_answer ht hanswer (by simp)).trans ?_)
  rw [State.setInputBank_atTake, State.inputBank_atTake]
  rfl

/-- COPY_INPUT_BANK copies the bank in use over the standby bank unless a switch is under way (R135). -/
theorem exec_copyInputBank {h : ReqHead} {s : State} (ht : s.Takes (.copyInputBank h) h) :
    exec (.copyInputBank h) s = .next (if s.ingress.switch = .switching then
        s.repliesOnly (.copyInputBank h) h .refusedState .none
      else (s.setInputBank s.ingress.inUse.other (s.inputBank s.ingress.inUse)).withMgmt
        (s.replied (.copyInputBank h) h .ok .none)) := by
  refine congrArg Host.Outcome.next ?_
  by_cases hs : s.ingress.switch = .switching
  · rw [if_pos hs]
    exact State.request_refuse ht (if_pos hs)
  · rw [if_neg hs]
    refine (State.request_answer ht (if_neg hs) (by simp)).trans ?_
    rw [State.setInputBank_atTake, State.inputBank_atTake]
    rfl

theorem exec_switchInputBank_of_switching {h : ReqHead} {s : State} (ht : s.Takes (.switchInputBank h) h)
    (hs : s.ingress.switch = .switching) :
    exec (.switchInputBank h) s = .next (s.repliesOnly (.switchInputBank h) h .refusedState .none) :=
  congrArg Host.Outcome.next (State.request_refuse ht (if_pos hs))

/-- SWITCH_INPUT_BANK answers with the first overlapping pair of the standby bank (R136). -/
theorem exec_switchInputBank_of_overlap {h : ReqHead} {s : State} {i j : Nat} (ht : s.Takes (.switchInputBank h) h)
    (hs : s.ingress.switch = .idle)
    (hp : Table.firstPair inputConflict (s.inputBank s.ingress.inUse.other) = some (i, j)) :
    exec (.switchInputBank h) s = .next (s.repliesOnly (.switchInputBank h) h .overlap (.overlapping i j)) := by
  have hanswer : switchInputBankAnswer s.atTake = ⟨.overlap, .overlapping i j, s.atTake, .nothing⟩ := by
    simp [switchInputBankAnswer, State.standbyInput, hs, hp]
  exact congrArg Host.Outcome.next (State.request_answer (u := s.atTake) ht hanswer rfl)

/-- A switch that has just been asked for takes effect at once when the processor is idle, and otherwise waits
(R137). -/
theorem State.completeSwitch_of_requested {s : State} (hs : s.ingress.switch = .idle) :
    (s.withIngress { s.ingress with switch := .switching }).completeSwitch =
      s.withIngress (if s.ingress.processing = none then { s.ingress with inUse := s.ingress.inUse.other }
        else { s.ingress with switch := .switching }) := by
  cases hp : s.ingress.processing with
  | none =>
    simp only [State.completeSwitch, State.withIngress_ingress, hp, if_true]
    rw [← hs]
    rfl
  | some p => simp [State.completeSwitch, hp]

/-- SWITCH_INPUT_BANK without an overlap (R137). -/
theorem exec_switchInputBank_of_accepted {h : ReqHead} {s : State} (ht : s.Takes (.switchInputBank h) h)
    (hs : s.ingress.switch = .idle)
    (hp : (s.inputBank s.ingress.inUse.other).Pairwise (fun a b => inputConflict a.2 b.2 = false)) :
    exec (.switchInputBank h) s = .next ((s.withIngress (if s.ingress.processing = none then
        { s.ingress with inUse := s.ingress.inUse.other }
      else { s.ingress with switch := .switching })).withMgmt (s.replied (.switchInputBank h) h .ok .none)) := by
  have hnone := Table.firstPair_eq_none_iff.2 hp
  have hanswer : switchInputBankAnswer s.atTake =
      ((s.atTake.withIngress { s.atTake.ingress with switch := .switching }).completeSwitch).answerOk := by
    simp [switchInputBankAnswer, State.standbyInput, hs, hnone]
  refine congrArg Host.Outcome.next ((State.request_answer ht hanswer (by simp)).trans ?_)
  rw [State.completeSwitch_of_requested (s := s.atTake) hs]
  rfl

/-! ## What the output patch requests answer -/

theorem State.setOutputBank_atTake (s : State) (b : BankNo) (t : Table OutputEntry) (m : ManagementUnit) :
    (s.atTake.setOutputBank b t).withMgmt m = (s.setOutputBank b t).withMgmt m := by
  cases b <;> rfl

@[simp] theorem State.outputBank_setOutputBank (s : State) (b : BankNo) (t : Table OutputEntry) (m : ManagementUnit) :
    ((s.setOutputBank b t).withMgmt m).outputBank b = t := by
  cases b <;> rfl

@[simp] theorem State.outputBank_atTake (s : State) (b : BankNo) : s.atTake.outputBank b = s.outputBank b := by
  cases b <;> rfl

theorem writeOutputPatchAnswer_of_range {i : Nat} {f : OutputPatchArgs} (h : 191 < i ∨ outputEntryOf f = none)
    (s : State) : writeOutputPatchAnswer i f s = s.refuse .refusedRange := by
  unfold writeOutputPatchAnswer
  split
  · rfl
  · next hi => rw [h.resolve_left hi]

/-- A write with its fields in range is refused while a switch is under way, and otherwise changes the standby bank
(R156). -/
theorem writeOutputPatchAnswer_of_entry {i : Nat} {f : OutputPatchArgs} {e : OutputEntry} (hi : i ≤ 191)
    (he : outputEntryOf f = some e) (s : State) :
    writeOutputPatchAnswer i f s =
      if s.lanes.switch = .switching then s.refuse .refusedState
      else (s.setOutputBank s.lanes.selected.other
        (Table.write .blank (s.outputBank s.lanes.selected.other) i e)).answerClamped (clamps 0 8191 f.gain) := by
  rw [writeOutputPatchAnswer, if_neg (by omega), he]
  rfl

theorem okOrAdjusted_clamps_zero (hi n : Nat) :
    okOrAdjusted (clamps 0 hi n) = if hi < n then .adjusted else .ok := by
  simp [okOrAdjusted, clamps]

/-- WRITE_OUTPUT_PATCH with a field out of range is refused (R156). -/
theorem exec_writeOutputPatch_of_range {h : ReqHead} {i : Nat} {f : OutputPatchArgs} {s : State}
    (ht : s.Takes (.writeOutputPatch h i f) h) (hr : 191 < i ∨ outputEntryOf f = none) :
    exec (.writeOutputPatch h i f) s = .next (s.repliesOnly (.writeOutputPatch h i f) h .refusedRange .none) :=
  congrArg Host.Outcome.next (State.request_refuse ht (writeOutputPatchAnswer_of_range hr _))

theorem exec_writeOutputPatch_of_switching {h : ReqHead} {i : Nat} {f : OutputPatchArgs} {e : OutputEntry} {s : State}
    (ht : s.Takes (.writeOutputPatch h i f) h) (hi : i ≤ 191) (he : outputEntryOf f = some e)
    (hs : s.lanes.switch = .switching) :
    exec (.writeOutputPatch h i f) s = .next (s.repliesOnly (.writeOutputPatch h i f) h .refusedState .none) :=
  congrArg Host.Outcome.next
    (State.request_refuse ht ((writeOutputPatchAnswer_of_entry hi he _).trans (if_pos hs)))

/-- WRITE_OUTPUT_PATCH writes its entry into the standby bank, and says so when the gain was clamped (R156, R170). -/
theorem exec_writeOutputPatch_of_idle {h : ReqHead} {i : Nat} {f : OutputPatchArgs} {e : OutputEntry} {s : State}
    (ht : s.Takes (.writeOutputPatch h i f) h) (hi : i ≤ 191) (he : outputEntryOf f = some e)
    (hs : s.lanes.switch = .idle) :
    exec (.writeOutputPatch h i f) s = .next ((s.setOutputBank s.lanes.selected.other
      (Table.write .blank (s.outputBank s.lanes.selected.other) i e)).withMgmt
        (s.replied (.writeOutputPatch h i f) h (if 8191 < f.gain then .adjusted else .ok) .none)) := by
  have hanswer := (writeOutputPatchAnswer_of_entry hi he s.atTake).trans (if_neg (by simp [hs]))
  refine congrArg Host.Outcome.next ((State.request_answer ht hanswer (by simp)).trans ?_)
  rw [State.setOutputBank_atTake, State.outputBank_atTake, okOrAdjusted_clamps_zero]
  rfl

/-- COPY_OUTPUT_BANK copies the selected bank over the standby bank unless a switch is under way (R156). -/
theorem exec_copyOutputBank {h : ReqHead} {s : State} (ht : s.Takes (.copyOutputBank h) h) :
    exec (.copyOutputBank h) s = .next (if s.lanes.switch = .switching then
        s.repliesOnly (.copyOutputBank h) h .refusedState .none
      else (s.setOutputBank s.lanes.selected.other (s.outputBank s.lanes.selected)).withMgmt
        (s.replied (.copyOutputBank h) h .ok .none)) := by
  refine congrArg Host.Outcome.next ?_
  by_cases hs : s.lanes.switch = .switching
  · rw [if_pos hs]
    exact State.request_refuse ht (if_pos hs)
  · rw [if_neg hs]
    refine (State.request_answer ht (if_neg hs) (by simp)).trans ?_
    rw [State.setOutputBank_atTake, State.outputBank_atTake]
    rfl

theorem exec_switchOutputBank_of_switching {h : ReqHead} {s : State} (ht : s.Takes (.switchOutputBank h) h)
    (hs : s.lanes.switch = .switching) :
    exec (.switchOutputBank h) s = .next (s.repliesOnly (.switchOutputBank h) h .refusedState .none) :=
  congrArg Host.Outcome.next (State.request_refuse ht (if_pos hs))

/-- SWITCH_OUTPUT_BANK answers with the first overlapping pair of the standby bank (R157). -/
theorem exec_switchOutputBank_of_overlap {h : ReqHead} {s : State} {i j : Nat} (ht : s.Takes (.switchOutputBank h) h)
    (hs : s.lanes.switch = .idle)
    (hp : Table.firstPair outputConflict (s.outputBank s.lanes.selected.other) = some (i, j)) :
    exec (.switchOutputBank h) s =
      .next (s.repliesOnly (.switchOutputBank h) h .overlap (.overlappingOutputs i j)) := by
  have hanswer : switchOutputBankAnswer s.atTake = ⟨.overlap, .overlappingOutputs i j, s.atTake, .nothing⟩ := by
    simp [switchOutputBankAnswer, State.standbyOutput, hs, hp]
  exact congrArg Host.Outcome.next (State.request_answer (u := s.atTake) ht hanswer rfl)

/-! ## The switch of the output bank -/

/-- A lane's adoption changes the lane records alone, and there only an idle lane's bank and guard (R158, R160). -/
theorem State.adoptLane_effect (s : State) (l : Nat) :
    ∃ records, s.adoptLane l = s.withLanes { s.lanes with lanes := records } ∧
      ∀ j, Table.read .blank records j =
        if j = l ∧ (s.lane j).composing = false then s.adopted (s.lane j) else s.lane j := by
  unfold State.adoptLane
  split
  · next hc =>
    refine ⟨s.lanes.lanes, rfl, fun j => (if_neg ?_).symm⟩
    rintro ⟨rfl, hj⟩
    simp [hc] at hj
  · next hc =>
    refine ⟨_, rfl, fun j => ?_⟩
    rw [Table.read_write]
    by_cases hj : j = l
    · subst hj; simp [hc]
    · simp only [hj, false_and, if_false]; rfl

theorem State.adopted_adopted (s : State) (r : Lane) : s.adopted (s.adopted r) = s.adopted r := rfl

/-- The adoption of a list of lanes; one that is listed twice adopts the same again. -/
theorem State.foldl_adoptLane_effect (ls : List Nat) (s : State) :
    ∃ records, ls.foldl State.adoptLane s = s.withLanes { s.lanes with lanes := records } ∧
      ∀ j, Table.read .blank records j =
        if j ∈ ls ∧ (s.lane j).composing = false then s.adopted (s.lane j) else s.lane j := by
  induction ls generalizing s with
  | nil => exact ⟨s.lanes.lanes, rfl, fun j => by simp [State.lane]⟩
  | cons l ls ih =>
    obtain ⟨first, hfirst, hreadFirst⟩ := s.adoptLane_effect l
    obtain ⟨records, hrecords, hread⟩ := ih (s.adoptLane l)
    refine ⟨records, by rw [List.foldl_cons, hrecords, hfirst]; rfl, fun j => ?_⟩
    have hlane : (s.adoptLane l).lane j =
        if j = l ∧ (s.lane j).composing = false then s.adopted (s.lane j) else s.lane j := by
      rw [hfirst]; exact hreadFirst j
    have hadopted : ∀ r, (s.adoptLane l).adopted r = s.adopted r := by rw [hfirst]; exact fun _ => rfl
    rw [hread, hadopted]
    by_cases hl : j = l ∧ (s.lane j).composing = false
    · rw [hlane, if_pos hl, State.adopted_adopted, ite_self, if_pos ⟨by simp [hl.1], hl.2⟩]
    · have hmem : (j ∈ l :: ls ∧ (s.lane j).composing = false) ↔ j ∈ ls ∧ (s.lane j).composing = false := by
        rw [List.mem_cons]; tauto
      rw [hlane, if_neg hl, if_congr hmem rfl rfl]

/-- Settling clears the output switch when every lane is on the selected bank; otherwise it can change the guard status
alone (R158, R160). -/
theorem State.settleLanes_effect (s : State) :
    ∃ switch status, s.settleLanes = s.withLanes { s.lanes with switch := switch, guardStatus := status } ∧
      ((∀ l, l < 24 → (s.lane l).bank = s.lanes.selected) → switch = .idle) ∧
      (¬ (∀ l, l < 24 → (s.lane l).bank = s.lanes.selected) → switch = s.lanes.switch) := by
  have hguard : ∀ t : State, ∃ status, t.settleGuard = t.withLanes { t.lanes with guardStatus := status } := by
    intro t
    unfold State.settleGuard
    split
    · exact ⟨_, rfl⟩
    · exact ⟨t.lanes.guardStatus, rfl⟩
  obtain ⟨status, hstatus⟩ := hguard s.settleSwitch
  have hall : laneNumbers.all (fun l => (s.lane l).bank = s.lanes.selected) = true ↔
      ∀ l, l < 24 → (s.lane l).bank = s.lanes.selected := by
    simp [laneNumbers]
  rw [State.settleLanes, hstatus, State.settleSwitch]
  by_cases h : ∀ l, l < 24 → (s.lane l).bank = s.lanes.selected
  · rw [if_pos (hall.2 h)]
    exact ⟨.idle, status, rfl, fun _ => rfl, fun hn => absurd h hn⟩
  · rw [if_neg (mt hall.1 h)]
    exact ⟨s.lanes.switch, status, rfl, fun hn => absurd hn h, fun _ => rfl⟩

/-- An accepted switch selects the other bank; idle lanes adopt at once, and it is over when no composing lane is left
on the bank deselected (R157, R158). -/
theorem State.acceptOutputSwitch_effect (s : State) :
    ∃ records switch status, s.acceptOutputSwitch = s.withLanes { s.lanes with
        lanes := records, selected := s.lanes.selected.other, switch := switch, guardStatus := status } ∧
      (∀ l, l < 24 → Table.read .blank records l = if (s.lane l).composing then s.lane l else
        { s.lane l with bank := s.lanes.selected.other, guardInUse := s.lanes.requestedGuard }) ∧
      ((∀ l, l < 24 → (s.lane l).composing = true → (s.lane l).bank = s.lanes.selected.other) → switch = .idle) ∧
      (¬ (∀ l, l < 24 → (s.lane l).composing = true → (s.lane l).bank = s.lanes.selected.other) →
        switch = .switching) := by
  obtain ⟨records, hfold, hread⟩ := State.foldl_adoptLane_effect laneNumbers
    (s.withLanes { s.lanes with selected := s.standbyOutput, switch := .switching })
  obtain ⟨switch, status, hsettle, hidle, hswitching⟩ := State.settleLanes_effect (laneNumbers.foldl State.adoptLane
    (s.withLanes { s.lanes with selected := s.standbyOutput, switch := .switching }))
  have hlane : ∀ l, l < 24 → Table.read .blank records l = if (s.lane l).composing then s.lane l else
      { s.lane l with bank := s.lanes.selected.other, guardInUse := s.lanes.requestedGuard } := by
    intro l hl
    rw [hread l]
    cases hc : (s.lane l).composing
    · exact if_pos ⟨List.mem_range.2 hl, hc⟩
    · exact if_neg fun h => absurd (hc.symm.trans h.2) (by decide)
  have hbanks : (∀ l, l < 24 → (Table.read .blank records l).bank = s.lanes.selected.other) ↔
      ∀ l, l < 24 → (s.lane l).composing = true → (s.lane l).bank = s.lanes.selected.other := by
    refine forall₂_congr fun l hl => ?_
    rw [hlane l hl]
    cases (s.lane l).composing <;> simp
  rw [hfold] at hsettle hidle hswitching
  refine ⟨records, switch, status, ?_, hlane, fun h => hidle (hbanks.2 h), fun h => hswitching (mt hbanks.1 h)⟩
  rw [State.acceptOutputSwitch, State.adoptIdle, hfold, hsettle]
  rfl

/-- SWITCH_OUTPUT_BANK without an overlap (R157, R158). -/
theorem exec_switchOutputBank_of_accepted {h : ReqHead} {s : State} (ht : s.Takes (.switchOutputBank h) h)
    (hs : s.lanes.switch = .idle)
    (hp : (s.outputBank s.lanes.selected.other).Pairwise (fun a b => outputConflict a.2 b.2 = false)) :
    exec (.switchOutputBank h) s =
      .next (s.atTake.acceptOutputSwitch.withMgmt (s.replied (.switchOutputBank h) h .ok .none)) := by
  have hnone := Table.firstPair_eq_none_iff.2 hp
  have hanswer : switchOutputBankAnswer s.atTake = s.atTake.acceptOutputSwitch.answerOk := by
    simp [switchOutputBankAnswer, State.standbyOutput, hs, hnone]
  exact congrArg Host.Outcome.next (State.request_answer ht hanswer (by simp [State.acceptOutputSwitch]))

/-! ## The obligation -/

/-- Settles O43: the overlaps and the entries by their characterisations, each request by the lemma about its answer,
and the pair reported by Table.exists_firstPair. -/
theorem patchBanksSwitch : Obligations.PatchBanksSwitch := by
  refine ⟨⟨inputConflict_iff, outputConflict_iff, inputEntryOf_eq_some_iff, outputEntryOf_eq_some_iff⟩,
    ⟨fun h i f s ht => ⟨exec_writeInputPatch_of_range ht, fun e hi he =>
        ⟨exec_writeInputPatch_of_switching ht hi he, fun hs => ?writeInput⟩⟩,
      fun h s ht => exec_copyInputBank ht,
      fun h s ht => ⟨exec_switchInputBank_of_switching ht, exec_switchInputBank_of_accepted ht,
        fun hs hp => ?overlapInput⟩⟩,
    ⟨fun h i f s ht => ⟨exec_writeOutputPatch_of_range ht, fun e hi he =>
        ⟨exec_writeOutputPatch_of_switching ht hi he, fun hs => ?writeOutput⟩⟩,
      fun h s ht => exec_copyOutputBank ht,
      fun h s ht => ⟨exec_switchOutputBank_of_switching ht, fun hs hp => ?acceptOutput,
        fun hs hp => ?overlapOutput⟩⟩⟩
  case writeInput =>
    refine ⟨_, exec_writeInputPatch_of_idle ht hi he hs, ?_⟩
    rw [State.inputBank_setInputBank]
    exact ⟨rfl, Table.read_write_self _ _ _ _, fun j hj => Table.read_write_ne _ _ _ hj⟩
  case overlapInput =>
    obtain ⟨i, j, a, b, ha, hb, hab, hleast, hfirst⟩ := Table.exists_firstPair .blank hp
    exact ⟨i, j, a, b, ha, hb, hab, hleast, exec_switchInputBank_of_overlap ht hs hfirst⟩
  case writeOutput =>
    refine ⟨_, exec_writeOutputPatch_of_idle ht hi he hs, ?_⟩
    rw [State.outputBank_setOutputBank]
    exact ⟨rfl, Table.read_write_self _ _ _ _, fun j hj => Table.read_write_ne _ _ _ hj⟩
  case acceptOutput =>
    obtain ⟨records, switch, status, haccept, hread, hidle, hswitching⟩ := s.atTake.acceptOutputSwitch_effect
    refine ⟨_, exec_switchOutputBank_of_accepted ht hs hp, ?_⟩
    rw [haccept]
    exact ⟨rfl, rfl, hread, hidle, fun ⟨l, hl, hc, hne⟩ => hswitching fun hall => hne (hall l hl hc),
      rfl, rfl, rfl, rfl, rfl⟩
  case overlapOutput =>
    obtain ⟨i, j, a, b, ha, hb, hab, hleast, hfirst⟩ := Table.exists_firstPair .blank hp
    exact ⟨i, j, a, b, ha, hb, hab, hleast, exec_switchOutputBank_of_overlap ht hs hfirst⟩

end Sys2Proof.Machine
end

section
/-! SUPPORT. The fixture line: which waiting frame it takes, and what the beginning and the end of a transmission
change (R146, R152). -/

namespace Sys2Proof.Machine

/-! ## The oldest waiting frame -/

/-- The older of the best frame so far and the waiting frame of lane l; the best so far stays on a tie. It is one step
of the search of State.oldestWaiting (R152). -/
def State.olderFrame (s : State) (best : Option (Nat × Waiting)) (l : Nat) : Option (Nat × Waiting) :=
  match s.waitingFrame l, best with
  | none, _ => best
  | some w, none => some (l, w)
  | some w, some b => if w.age < b.2.age then some (l, w) else some b

/-- The oldest frame that waits for a lane below n. -/
def State.oldestBelow (s : State) (n : Nat) : Option (Nat × Waiting) := (List.range n).foldl s.olderFrame none

theorem State.oldestWaiting_eq_oldestBelow (s : State) : s.oldestWaiting = s.oldestBelow 24 := rfl

theorem State.olderFrame_of_none {s : State} {l : Nat} (h : s.waitingFrame l = none) (best : Option (Nat × Waiting)) :
    s.olderFrame best l = best := by
  simp only [State.olderFrame, h]

theorem State.olderFrame_first {s : State} {l : Nat} {w : Waiting} (h : s.waitingFrame l = some w) :
    s.olderFrame none l = some (l, w) := by
  simp only [State.olderFrame, h]

theorem State.olderFrame_of_some {s : State} {l : Nat} {w : Waiting} (h : s.waitingFrame l = some w)
    (b : Nat × Waiting) : s.olderFrame (some b) l = if w.age < b.2.age then some (l, w) else some b := by
  simp only [State.olderFrame, h]

theorem State.oldestBelow_succ (s : State) (n : Nat) : s.oldestBelow (n + 1) = s.olderFrame (s.oldestBelow n) n := by
  simp only [State.oldestBelow, List.range_succ, List.foldl_append, List.foldl_cons, List.foldl_nil]

/-- What the search finds waits, for a lane it has looked at. -/
theorem State.waitingFrame_of_oldestBelow {s : State} {n j : Nat} {v : Waiting} (h : s.oldestBelow n = some (j, v)) :
    j < n ∧ s.waitingFrame j = some v := by
  induction n with
  | zero => exact absurd h nofun
  | succ n ih =>
    have hbefore : s.oldestBelow n = some (j, v) → j < n + 1 ∧ s.waitingFrame j = some v :=
      fun hb => ⟨Nat.lt_succ_of_lt (ih hb).1, (ih hb).2⟩
    have hhere : ∀ {w}, s.waitingFrame n = some w → some (n, w) = some (j, v) →
        j < n + 1 ∧ s.waitingFrame j = some v := by
      rintro w hw ⟨⟩
      exact ⟨Nat.lt_succ_self _, hw⟩
    rw [State.oldestBelow_succ] at h
    cases hw : s.waitingFrame n with
    | none => rw [State.olderFrame_of_none hw] at h; exact hbefore h
    | some w =>
      cases hb : s.oldestBelow n with
      | none => rw [hb, State.olderFrame_first hw] at h; exact hhere hw h
      | some b =>
        rw [hb, State.olderFrame_of_some hw] at h
        split at h
        · exact hhere hw h
        · exact hbefore (hb.trans h)

/-- The frame of lane l goes before every other frame that waits for a lane below n: its age is lower, or as low and
its lane lower (R152). -/
def State.GoesFirst (s : State) (n l : Nat) (w : Waiting) : Prop :=
  ∀ j v, j < n → j ≠ l → s.waitingFrame j = some v → w.age < v.age ∨ (w.age = v.age ∧ l < j)

/-- The search finds the frame that goes first: it replaces the best of the lower lanes, and no frame of a higher lane
replaces it. -/
theorem State.oldestBelow_eq_some {s : State} {n l : Nat} {w : Waiting} (hl : l < n) (hw : s.waitingFrame l = some w)
    (hfirst : s.GoesFirst n l w) : s.oldestBelow n = some (l, w) := by
  induction n with
  | zero => exact absurd hl (Nat.not_lt_zero l)
  | succ n ih =>
    rw [State.oldestBelow_succ]
    obtain hlt | rfl := Nat.lt_succ_iff_lt_or_eq.1 hl
    · rw [ih hlt fun j v hj => hfirst j v (Nat.lt_succ_of_lt hj)]
      cases hv : s.waitingFrame n with
      | none => exact State.olderFrame_of_none hv _
      | some v =>
        have hage := hfirst n v (Nat.lt_succ_self n) (Nat.ne_of_gt hlt) hv
        rw [State.olderFrame_of_some hv, if_neg (show ¬ v.age < w.age by omega)]
    · cases hb : s.oldestBelow l with
      | none => exact State.olderFrame_first hw
      | some b =>
        obtain ⟨hlow, hwaits⟩ := State.waitingFrame_of_oldestBelow hb
        have hage := hfirst b.1 b.2 (Nat.lt_succ_of_lt hlow) (Nat.ne_of_lt hlow) hwaits
        rw [State.olderFrame_of_some hw, if_pos (by omega)]

/-! ## The beginning of a transmission -/

theorem exec_fixtureTransmitStart_of_oldest {s : State} {l : Nat} {w : Waiting} (hline : s.lanes.line = none)
    (hold : s.oldestWaiting = some (l, w)) : exec .fixtureTransmitStart s = .next (s.beginFixture l w) := by
  change execFixtureTransmitStart s = _
  simp only [execFixtureTransmitStart, hline, hold]

/-- The emitted count of a frame's lane is all that changes, and only for a LANE_LEVELS (R152). -/
theorem State.countEmitted_effect (s : State) (l : Nat) (f : FixtureFrame) :
    s.countEmitted l f = s.withLanes (s.countEmitted l f).lanes ∧
      (s.countEmitted l f).lanes.line = s.lanes.line ∧
      (∀ j, (s.countEmitted l f).waitingFrame j = s.waitingFrame j) ∧
      ∀ j, (s.countEmitted l f).lane j =
        if j = l ∧ f.isLevels then { s.lane l with emitted := wrapInc (s.lane l).emitted } else s.lane j := by
  cases f with
  | setup => exact ⟨rfl, rfl, fun _ => rfl, fun j => (if_neg (fun h => Bool.noConfusion h.2)).symm⟩
  | levels origin lane n levels =>
    refine ⟨rfl, rfl, fun _ => rfl, fun j => ?_⟩
    simp [State.countEmitted, FixtureFrame.isLevels, State.lane_setLane]

/-- The line takes the frame of lane l: no other frame and no other lane changes (R152). -/
theorem State.beginFixture_effect (s : State) (l : Nat) (w : Waiting) :
    s.beginFixture l w = s.withLanes (s.beginFixture l w).lanes ∧
      (s.beginFixture l w).lanes.line = some ⟨w.frame, s.now⟩ ∧
      (∀ j, (s.beginFixture l w).waitingFrame j = if j = l then none else s.waitingFrame j) ∧
      ∀ j, (s.beginFixture l w).lane j =
        if j = l ∧ w.frame.isLevels then { s.lane l with emitted := wrapInc (s.lane l).emitted } else s.lane j := by
  obtain ⟨hlanes, hline, hwaiting, hlane⟩ := State.countEmitted_effect
    ((s.setWaiting l none).withLanes { (s.setWaiting l none).lanes with line := some ⟨w.frame, s.now⟩ }) l w.frame
  exact ⟨hlanes, hline, fun j => (hwaiting j).trans (s.waitingFrame_setWaiting l j none), hlane⟩

/-! ## The end of a transmission -/

theorem exec_fixtureTransmitEnd_of_begun {s : State} {f : FixtureFrame} {begun : Nat}
    (hline : s.lanes.line = some ⟨f, begun⟩) (hbegun : begun < s.now) :
    exec .fixtureTransmitEnd s = .next (s.endFixture f) := by
  change execFixtureTransmitEnd s = _
  simp only [execFixtureTransmitEnd, hline, if_pos hbegun]

/-- The end of a LANE_SETUP of the current attempt starts the receipt timer (R146). -/
theorem State.endFixture_of_current {s : State} {origin l q n p : Nat} (hstate : (s.lane l).state = .setup)
    (hq : q = (s.lane l).setupSequence) :
    s.endFixture (.setup origin l q n p) = (s.withLanes { s.lanes with line := none }).setLane l
      { s.lane l with receiptTimer := some (s.now + s.settings.receiptTime) } :=
  if_pos ⟨hstate, hq⟩

/-- The end of another LANE_SETUP frees the line and nothing else (R146). -/
theorem State.endFixture_of_outdated {s : State} {origin l q n p : Nat}
    (h : (s.lane l).state ≠ .setup ∨ q ≠ (s.lane l).setupSequence) :
    s.endFixture (.setup origin l q n p) = s.withLanes { s.lanes with line := none } :=
  if_neg fun hcur => h.elim (· hcur.1) (· hcur.2)

/-! ## The obligation -/

/-- Settles O48: the search finds the frame that goes first, and the beginning and the two ends of a transmission are
read off their lemmas. -/
theorem fixtureLineTakesOldestFrame : Obligations.FixtureLineTakesOldestFrame := by
  refine ⟨fun s l w hline hl hw hfirst => ?_, fun s origin l q n p begun hline hbegun => ⟨fun hstate hq => ?_,
    fun h => ?_⟩, fun s origin l n begun ls hline hbegun => exec_fixtureTransmitEnd_of_begun hline hbegun⟩
  · have hold : s.oldestWaiting = some (l, w) :=
      s.oldestWaiting_eq_oldestBelow.trans (State.oldestBelow_eq_some hl hw hfirst)
    obtain ⟨hlanes, htaken, hwaiting, hlane⟩ := s.beginFixture_effect l w
    refine ⟨_, exec_fixtureTransmitStart_of_oldest hline hold, hlanes, htaken, ?_, fun j hj => ⟨?_, ?_⟩, ?_⟩
    · rw [hwaiting, if_pos rfl]
    · rw [hlane, if_neg fun h => hj h.1]
    · rw [hwaiting, if_neg hj]
    · simp only [hlane, true_and]
  · rw [exec_fixtureTransmitEnd_of_begun hline hbegun, State.endFixture_of_current hstate hq]
  · rw [exec_fixtureTransmitEnd_of_begun hline hbegun, State.endFixture_of_outdated h]

end Sys2Proof.Machine
end

section
/-! SUPPORT. What GET_SETTING, READ_FAULTS and READ_STATUS report at the take (R174, R177, R185). -/

namespace Sys2Proof.Machine

/-! ## The reports, read at the take

The request has left the queue and its reply holds a place of the outbound queue; the reports see the rest of the
state as it stood. -/

theorem State.settingValue_atTake (s : State) (name : SettingName) :
    s.atTake.settings.value name = s.settings.value name := by
  simp [State.settings]

theorem State.pendingFor_atTake (s : State) (name : SettingName) : s.atTake.pendingFor name = s.pendingFor name := by
  simp [State.pendingFor]

theorem State.faultReport_atTake (s : State) : s.atTake.faultReport = s.faultReport := by
  simp [State.faultReport, State.faultRecord, State.presentFaults]

@[simp] theorem State.requests_atTake (s : State) : s.atTake.mgmt.requests = s.mgmt.requests.tail := rfl

/-- The reserved place of the reply counts as taken (R188). -/
@[simp] theorem State.outboundUsed_atTake (s : State) : s.atTake.outboundUsed = s.mgmt.outbound.length + 1 := rfl

/-- READ_STATUS counts the requests that wait behind it and the place of its own reply; all else it reports as it
stood (R177). -/
theorem State.statusReport_atTake (s : State) :
    s.atTake.statusReport =
      { s.statusReport with
        requests := s.mgmt.requests.tail.length
        outbound := s.mgmt.outbound.length + 1 } := by
  simp [State.statusReport, State.now, State.towerTime, State.slot]

/-! ## What each request answers -/

/-- GET_SETTING reports the value in force and, for the node address, the pending one (R174). -/
theorem exec_getSetting_of_some {h : ReqHead} {name : SettingName} {s : State}
    (ht : s.Takes (.getSetting h (some name)) h) :
    exec (.getSetting h (some name)) s = .next (s.repliesOnly (.getSetting h (some name)) h .ok
      (.settingValue name (s.settings.value name) (s.pendingFor name))) := by
  have hanswer : getSettingAnswer (some name) s.atTake =
      s.atTake.report (.settingValue name (s.settings.value name) (s.pendingFor name)) := by
    rw [getSettingAnswer, State.settingValue_atTake, State.pendingFor_atTake]
  exact congrArg Host.Outcome.next (State.request_report ht hanswer)

/-- GET_SETTING of a setting that does not exist is refused (R174). -/
theorem exec_getSetting_of_none {h : ReqHead} {s : State} (ht : s.Takes (.getSetting h none) h) :
    exec (.getSetting h none) s = .next (s.repliesOnly (.getSetting h none) h .refusedRange .none) :=
  congrArg Host.Outcome.next (State.request_refuse (owner := getSettingAnswer none) ht rfl)

theorem exec_readFaults {h : ReqHead} {s : State} (ht : s.Takes (.readFaults h) h) :
    exec (.readFaults h) s = .next (s.repliesOnly (.readFaults h) h .ok (.faults s.faultReport)) := by
  have hanswer : readFaultsAnswer s.atTake = s.atTake.report (.faults s.faultReport) := by
    rw [readFaultsAnswer, State.faultReport_atTake]
  exact congrArg Host.Outcome.next (State.request_report ht hanswer)

theorem exec_readStatus {h : ReqHead} {s : State} (ht : s.Takes (.readStatus h) h) :
    exec (.readStatus h) s = .next (s.repliesOnly (.readStatus h) h .ok (.status
      { s.statusReport with
        requests := s.mgmt.requests.tail.length
        outbound := s.mgmt.outbound.length + 1 })) := by
  have hanswer : readStatusAnswer s.atTake = s.atTake.report (.status
      { s.statusReport with
        requests := s.mgmt.requests.tail.length
        outbound := s.mgmt.outbound.length + 1 }) := by
    rw [readStatusAnswer, State.statusReport_atTake]
  exact congrArg Host.Outcome.next (State.request_report ht hanswer)

/-! ## The obligation -/

/-- Settles O8: each request's answer is the report of the state as it stood before the take, whose fields the claim
writes out. -/
theorem systemReadsChangeNothing : Obligations.SystemReadsChangeNothing :=
  ⟨fun _ _ _ ht => exec_getSetting_of_some ht, fun _ _ ht => exec_getSetting_of_none ht,
    fun _ _ ht => exec_readFaults ht, fun _ _ ht => exec_readStatus ht⟩

end Sys2Proof.Machine
end

section
/-! SUPPORT. More laws of sparse tables: what a table lists, and what its reads and writes have to do with it. -/

namespace Sys2Proof.Machine

variable {α : Type}

/-- A read gives what an unlisted index reads as, or a pair of the table. -/
theorem Table.read_eq_or_mem (d : α) (t : Table α) (i : Nat) : Table.read d t i = d ∨ (i, Table.read d t i) ∈ t := by
  induction t with
  | nil => exact .inl rfl
  | cons p t ih =>
    obtain ⟨k, v⟩ := p
    rw [Table.read_cons]
    split
    · next h => rw [h]; exact .inr (List.mem_cons_self ..)
    · exact ih.imp id (List.mem_cons_of_mem _)

/-- What does not read as the default is listed. -/
theorem Table.mem_of_read {d : α} {t : Table α} {i : Nat} (h : Table.read d t i ≠ d) : (i, Table.read d t i) ∈ t :=
  (Table.read_eq_or_mem d t i).resolve_left h

/-- A predicate of the default and of every listed value holds of every read. -/
theorem Table.read_of_forall {d : α} {t : Table α} {p : α → Prop} (hd : p d) (ht : ∀ q ∈ t, p q.2) (i : Nat) :
    p (Table.read d t i) := by
  obtain h | h := Table.read_eq_or_mem d t i
  · rw [h]; exact hd
  · exact ht _ h

/-- The pairs of a table after a write are the new pair and pairs of the table. -/
theorem Table.mem_write [DecidableEq α] {d : α} {t : Table α} {i : Nat} {v : α} {p : Nat × α}
    (h : p ∈ Table.write d t i v) : p = (i, v) ∨ p ∈ t := by
  unfold Table.write at h
  split at h
  · exact .inr (List.mem_of_mem_filter h)
  · exact Table.mem_put t i v p h

/-- A write keeps a predicate of the listed values that the new value meets. -/
theorem Table.forall_write [DecidableEq α] {d : α} {t : Table α} {p : α → Prop} (i : Nat) {v : α} (hv : p v)
    (ht : ∀ q ∈ t, p q.2) : ∀ q ∈ Table.write d t i v, p q.2 := by
  intro q hq
  obtain rfl | hq := Table.mem_write hq
  · exact hv
  · exact ht q hq

/-- Every value listed after a change of all values is a changed listed value. -/
theorem Table.mem_mapVals {β : Type} [DecidableEq β] {e : β} {f : Nat → α → β} {t : Table α} {q : Nat × β}
    (h : q ∈ Table.mapVals e f t) : ∃ p ∈ t, q = (p.1, f p.1 p.2) := by
  obtain ⟨p, hp, rfl⟩ := List.mem_map.1 (List.mem_of_mem_filter h)
  exact ⟨p, hp, rfl⟩

/-- In the canonical form what is listed at an index is what the index reads as. -/
theorem Table.read_of_mem [DecidableEq α] {d : α} {t : Table α} (h : Table.wf d t = true) {p : Nat × α} (hp : p ∈ t) :
    Table.read d t p.1 = p.2 := by
  induction t with
  | nil => cases hp
  | cons q t ih =>
    obtain ⟨k, v⟩ := q
    obtain ⟨_, hk, ht⟩ := (Table.wf_cons d k v t).1 h
    rw [Table.read_cons]
    obtain rfl | hp := List.mem_cons.1 hp
    · exact if_pos rfl
    · rw [if_neg (Nat.ne_of_lt (hk p hp))]; exact ih ht hp

end Sys2Proof.Machine
end

section
/-! SUPPORT. What a step can do: every effect is a chain of changes, each a change of one block or one event of the
blocks. Each invariant is then a fact about one change. -/

namespace Sys2Proof.Machine

/-! ## Changes -/

/-- The fields of a lane that its place among the lanes depends on: its state, bank, guard in use and timers. -/
def Lane.Alike (a b : Lane) : Prop :=
  b.state = a.state ∧ b.bank = a.bank ∧ b.guardInUse = a.guardInUse ∧ b.receiptTimer = a.receiptTimer ∧
    b.periodTimer = a.periodTimer

/-- The lane controller's tables are in the canonical form. -/
def LaneController.Canonical (x : LaneController) : Prop :=
  Table.wf .blank x.lanes = true ∧ Table.wf .blank x.bank0 = true ∧ Table.wf .blank x.bank1 = true ∧
    Table.wf .blank x.guards = true ∧ Table.wf none x.waiting = true

/-- The ingress processor's tables are in the canonical form. -/
def IngressProcessor.Canonical (x : IngressProcessor) : Prop :=
  (Table.wf .blank x.sources = true ∧ ∀ p ∈ x.sources, Table.wf none p.2.sequences = true) ∧
    Table.wf .blank x.bank0 = true ∧ Table.wf .blank x.bank1 = true

/-- One change of the state: the replacement of one block, with what the events that make it say of the replacement, or
one event that reaches several blocks. -/
inductive Change (s : State) : State → Prop
  /-- The time unit keeps its run clock and loses no tower time. -/
  | time (x : TimeUnit) (run : x.runClock = s.time.runClock) (consistent : s.time.Consistent → x.Consistent)
      (present : x.clock.time = none → s.towerTime = none) : Change s (s.withTime x)
  | endOfRange : Change s s.endOfRange
  | timeLossEvent : Change s s.timeLossEvent
  /-- Tower time is lost once the agenda is gone (R17, R37). -/
  | timeCleared (x : TimeUnit) (run : x.runClock = s.time.runClock) (consistent : s.time.Consistent → x.Consistent)
      (agenda : s.calendar.agenda = []) (stale : s.calendar.state = .stale) (wake : s.calendar.wakeTimer = none) :
      Change s (s.withTime x)
  | restTimer (v : Option Nat) : Change s (s.withCalendar { s.calendar with restTimer := v })
  | wakeStopped : Change s (s.withCalendar { s.calendar with wakeTimer := none })
  | recomputeWake : Change s s.recomputeWake
  | fireEntry (it : AgendaItem) : Change s (s.fireEntry it)
  | installed (b : Build) (pending : Option Granularity) (building : s.calendar.state = .building b pending)
      (truncated : Bool) (last : Option Granularity) : Change s (s.withCalendar { s.calendar with
        agenda := (s.mergedAgenda b).take 24, truncated := truncated, lastActual := last })
  | beginBuild (g : Granularity) : Change s (s.beginBuild g)
  | rebuildRequest (g : Granularity) : Change s (s.rebuildRequest g)
  | buildEnded (b : Build) (pending : Option Granularity) (building : s.calendar.state = .building b pending) :
      Change s (s.withCalendar { s.calendar with state := .current })
  | replaceEntry (i : Nat) (e : CalendarEntry) : Change s (s.replaceEntry i e)
  | blockResetCalendar : Change s s.blockResetCalendar
  | allocateShow (sh base count : Nat) (idle : (s.showRecord sh).state.readyRun = none ∨ (s.showRecord sh).playing = 0) :
      Change s (s.allocateShow sh base count)
  | writeCueRecords (i : Nat) (rs : List CueRecord) : Change s (s.writeCueRecords i rs)
  | closed (sh base count : Nat) : Change s (s.setShow sh { s.showRecord sh with state := .ready base count })
  | deleted (sh : Nat) (idle : (s.showRecord sh).playing = 0) :
      Change s (s.setShow sh { s.showRecord sh with state := .empty })
  | startsCounted (x : PlaybackEngine) (slots : x.slots = s.playback.slots) : Change s (s.withPlayback x)
  /-- A slot goes on with the same show. -/
  | slotGoesOn (k : Nat) (p q : Playback) (was : s.slot k = some p) (show' : q.showNo = p.showNo) :
      Change s (s.setSlot k (some q))
  | release (k : Nat) : Change s (s.release k)
  /-- A FREE slot takes a READY show (R66). -/
  | slotFilled (k : Nat) (p : Playback) (slot : k < 4) (free : s.slot k = none) (ready : s.showReady p.showNo = true) :
      Change s ((s.setSlot k (some p)).slotStarted p.showNo)
  /-- A layer that a cue puts in place of one keeps its priority and run start (R94, R95). -/
  | putLayer (k z : Nat) (l : Layer) (filled : (s.slot k).isSome = true)
      (rank : ∀ m, s.layer k z = some m → l.priority = m.priority ∧ l.runStart = m.runStart) :
      Change s (s.putLayer k z l)
  | dropLayer (k : Nat) (t : Int) (z : Nat) : Change s (s.dropLayer k t z)
  /-- A zone keeps its owner and its layers. -/
  | zoneKept (z : Nat) (r : Zone) (owner : r.owner = (s.zone z).owner) (layers : r.layers = (s.zone z).layers) :
      Change s (s.setZone z r)
  | sourceLoss (i : Nat) : Change s (s.sourceLoss i)
  | sourceReturn (i : Nat) : Change s (s.sourceReturn i)
  | liveOrBands (x : ZoneMixer) (zones : x.zones = s.mixer.zones)
      (live : Table.wf .black s.mixer.live = true → Table.wf .black x.live = true)
      (bands : Table.wf .blank s.mixer.bands = true → Table.wf .blank x.bands = true) : Change s (s.withMixer x)
  | ingress (x : IngressProcessor) (queue : x.queue.length ≤ max 12 s.ingress.queue.length)
      (waits : s.ingress.SwitchWaits → x.SwitchWaits) (canonical : s.ingress.Canonical → x.Canonical) :
      Change s (s.withIngress x)
  | blockResetIngress : Change s s.blockResetIngress
  /-- No lane changes its state, bank, guard in use or timers. -/
  | lanesKept (x : LaneController) (selected : x.selected = s.lanes.selected) (switch : x.switch = s.lanes.switch)
      (requested : x.requestedGuard = s.lanes.requestedGuard) (status : x.guardStatus = s.lanes.guardStatus)
      (alike : ∀ l, (s.lane l).Alike (Table.read .blank x.lanes l))
      (canonical : s.lanes.Canonical → x.Canonical) : Change s (s.withLanes x)
  | toDark (l : Nat) (st : LaneState) (dark : st = .off ∨ st = .rest ∨ st = .faulted) : Change s (s.toDark l st)
  | toSetup (l : Nat) (cold : Bool) : Change s (s.toSetup l cold)
  /-- A lane composes from now on, or goes on composing, with its period timer running. -/
  | composes (l : Nat) (r : Lane) (composing : r.composing = true) (bank : r.bank = (s.lane l).bank)
      (guard : r.guardInUse = (s.lane l).guardInUse) (period : r.periodTimer.isSome = true)
      (receipt : r.receiptTimer = none ∨ (r.receiptTimer = (s.lane l).receiptTimer ∧ (s.lane l).composing = true)) :
      Change s (s.setLane l r)
  /-- The receipt timer of a lane in SETUP starts, or stops. -/
  | receiptTimer (l : Nat) (v : Option Nat) (setup : v = none ∨ (s.lane l).state = .setup) (retries : Nat) :
      Change s (s.setLane l { s.lane l with receiptTimer := v, retriesLeft := retries })
  | adopts (l : Nat) : Change s ((s.setLane l (s.adopted (s.lane l))).settleLanes)
  | settleLanes : Change s s.settleLanes
  | acceptOutputSwitch : Change s s.acceptOutputSwitch
  | requestGuard (on : Bool) : Change s (s.requestGuard on)
  | recordFault (k : FaultKind) : Change s (s.recordFault k)
  | sendPendingAlert : Change s s.sendPendingAlert
  | clearIfPresent (i : Nat) : Change s (s.clearIfPresent i)
  | clearFaultOverflow : Change s s.clearFaultOverflow
  | resetFaults : Change s s.resetFaults
  | mgmt (x : ManagementUnit) (requests : x.requests.length ≤ max 4 s.mgmt.requests.length)
      (outbound : x.outbound.length ≤ s.mgmt.outbound.length) (reserved : x.replyReserved = s.mgmt.replyReserved)
      (settings : s.settings.InRange → x.settings.InRange)
      (node : ∀ p, x.pendingNode = some p → s.mgmt.pendingNode = some p ∨ (1 ≤ p.value ∧ p.value ≤ 254)) :
      Change s (s.withMgmt x)
  | nodeChanged (serial : Nat) : Change s (s.endNodeChange serial)
  | beginSave : Change s s.beginSave
  | saveEnds (snapshot : Image) (begun : Nat) (saving : s.image.state = .saving snapshot begun) :
      Change s (s.withImage { s.image with state := .saved, stored := .image snapshot })
  | saveFails : Change s (s.withImage { s.image with state := .failed, stored := .failing })
  | causes (c : ResetCauses) : Change s (s.withImage { s.image with causes := c })

/-- A chain of changes. -/
def Changes (s t : State) : Prop := Relation.ReflTransGen Change s t

theorem Changes.refl (s : State) : Changes s s := Relation.ReflTransGen.refl

theorem Changes.trans {s t u : State} (h : Changes s t) (h' : Changes t u) : Changes s u :=
  Relation.ReflTransGen.trans h h'

theorem Changes.tail {s t u : State} (h : Changes s t) (h' : Change t u) : Changes s u :=
  Relation.ReflTransGen.tail h h'

theorem Change.changes {s t : State} (h : Change s t) : Changes s t := Relation.ReflTransGen.single h

theorem Changes.of {s t : State} (h : Change s t) : Changes s t := h.changes

/-- What each change keeps, a chain of changes keeps. -/
theorem Changes.keeps {P : State → Prop} (hP : ∀ s t, Change s t → P s → P t) {s t : State} (h : Changes s t)
    (hs : P s) : P t := by
  induction h with
  | refl => exact hs
  | tail _ hc ih => exact hP _ _ hc ih

/-- A fold whose passes are chains of changes is one. -/
theorem Changes.foldl {β : Type} {f : State → β → State} (h : ∀ s b, Changes s (f s b)) (l : List β) (s : State) :
    Changes s (l.foldl f s) := by
  induction l generalizing s with
  | nil => exact .refl s
  | cons b l ih => exact (h s b).trans (ih _)

/-- A choice between two chains of changes is one. -/
theorem Changes.ite {c : Prop} [Decidable c] {s t u : State} (ht : c → Changes s t) (hu : ¬ c → Changes s u) :
    Changes s (if c then t else u) := by
  split
  · next hc => exact ht hc
  · next hc => exact hu hc

end Sys2Proof.Machine
end

section
/-! SUPPORT. Every operation of the blocks is a chain of changes (03 to 08, 10). -/

namespace Sys2Proof.Machine

/-! ## Playback -/

@[simp] theorem State.slot_slotFreed (s : State) (sh k : Nat) : (s.slotFreed sh).slot k = s.slot k := rfl

@[simp] theorem State.slot_slotStarted (s : State) (sh k : Nat) : (s.slotStarted sh).slot k = s.slot k := rfl

@[simp] theorem State.slot_allFreeEvent (s : State) (k : Nat) : s.allFreeEvent.slot k = s.slot k := by
  unfold State.allFreeEvent; split <;> rfl

/-- After the release of a slot it is FREE (R75). -/
@[simp] theorem State.slot_release_self (s : State) (k : Nat) : (s.release k).slot k = none := by
  unfold State.release
  cases hk : s.slot k with
  | none => exact hk
  | some p =>
    dsimp only
    rw [State.slot_allFreeEvent, State.slot_slotFreed, State.slot_setSlot, if_pos rfl]

theorem State.showRecord_slotFreed (s : State) (sh x : Nat) :
    (s.slotFreed sh).showRecord x =
      if x = sh then { s.showRecord sh with playing := (s.showRecord sh).playing - 1 } else s.showRecord x :=
  State.showRecord_setShow s sh x _

theorem State.showRecord_slotStarted (s : State) (sh x : Nat) :
    (s.slotStarted sh).showRecord x =
      if x = sh then { s.showRecord sh with playing := (s.showRecord sh).playing + 1 } else s.showRecord x :=
  State.showRecord_setShow s sh x _

@[simp] theorem State.showRecord_allFreeEvent (s : State) (x : Nat) :
    s.allFreeEvent.showRecord x = s.showRecord x := by
  simp [State.showRecord]

@[simp] theorem State.showRecord_setSlot (s : State) (k x : Nat) (p : Option Playback) :
    (s.setSlot k p).showRecord x = s.showRecord x := rfl

@[simp] theorem State.showRecord_dropLayers (s : State) (k x : Nat) : (s.dropLayers k).showRecord x = s.showRecord x := by
  simp [State.showRecord]

/-- A release touches no more of the show directory than the playing count of the slot's show (R75). -/
theorem State.showState_release (s : State) (k x : Nat) : ((s.release k).showRecord x).state = (s.showRecord x).state := by
  unfold State.release
  cases s.slot k with
  | none => rfl
  | some p =>
    simp only [State.showRecord_allFreeEvent, State.showRecord_slotFreed, State.showRecord_setSlot,
      State.showRecord_dropLayers]
    split
    · next h => rw [h]
    · rfl

@[simp] theorem State.showReady_release (s : State) (k x : Nat) : (s.release k).showReady x = s.showReady x := by
  simp only [State.showReady, State.showState_release]

/-- The layer a LOOK or FOLLOW cue leaves has the rank of the one it replaces (R94, R95). -/
theorem State.cueLayer_rank (s : State) (k : Nat) (p : Playback) (d : Int) (mode : LayerMode) (fade : Nat) (curve : Curve)
    (z : Nat) (m : Layer) (h : s.layer k z = some m) :
    (s.cueLayer k p d mode fade curve z).priority = m.priority ∧
      (s.cueLayer k p d mode fade curve z).runStart = m.runStart := by
  simp [State.cueLayer, h]

/-- A LOOK or FOLLOW cue of a slot that is not FREE is a chain of changes (R93). -/
theorem Changes.cueZones {s : State} {k : Nat} (hk : (s.slot k).isSome = true) (p : Playback) (d : Int)
    (mode : LayerMode) (fade : Nat) (curve : Curve) (first count : Nat) :
    Changes s (s.cueZones k p d mode fade curve first count) := by
  unfold State.cueZones
  induction zoneRange first count generalizing s with
  | nil => exact .refl s
  | cons z zs ih =>
    rw [List.foldl_cons]
    exact (Change.putLayer k z _ hk (s.cueLayer_rank k p d mode fade curve z)).changes.trans
      (ih (by simpa [State.slot] using hk))

theorem Changes.releaseZones (s : State) (k : Nat) (d : Int) (first count : Nat) :
    Changes s (s.releaseZones k d first count) :=
  Changes.foldl (fun s z => (Change.dropLayer (s := s) k d z).changes) _ s

theorem Changes.settleZone (s : State) (z : Nat) : Changes s (s.settleZone z) := by
  unfold State.settleZone
  cases (s.zone z).handover with
  | none => exact .refl s
  | some h => exact .ite (fun _ => (Change.zoneKept z { s.zone z with handover := none } rfl rfl).changes) fun _ => .refl s

theorem Changes.settleHandovers (s : State) (made : List Nat) : Changes s (s.settleHandovers made) :=
  Changes.foldl Changes.settleZone made s

theorem Changes.endSlot {s : State} {k : Nat} {p q : Playback} (hk : s.slot k = some q) (hp : p.showNo = q.showNo)
    (d : Int) (fade : Nat) : Changes s (s.endSlot k p d fade) := by
  have hended : Changes s (s.setSlot k (some (p.ended d fade))) := (Change.slotGoesOn k q (p.ended d fade) hk hp).changes
  exact .ite (fun _ => hended.tail (.release k)) fun _ => hended

theorem Changes.holdSlot {s : State} {k : Nat} {p q : Playback} (hk : s.slot k = some q) (hp : p.showNo = q.showNo)
    (d : Int) (limit : Nat) : Changes s (s.holdSlot k p d limit) := by
  have hholding := Change.slotGoesOn k q { p with phase := .holding d limit } hk hp
  unfold State.holdSlot
  cases holdExpiry d limit with
  | none => exact hholding.changes
  | some r => exact .ite (fun _ => (Change.slotGoesOn k q (p.resumed d r) hk hp).changes) fun _ => hholding.changes

/-- The execution of a cue is a chain of changes, whatever its kind (R68 to R72). -/
theorem Changes.executeCue {s : State} {k : Nat} {p q : Playback} (hk : s.slot k = some q) (hp : p.showNo = q.showNo)
    (d : Int) (c : Cue) : Changes s (s.executeCue k p d c) := by
  have hslot : Changes s (s.setSlot k (some p)) := (Change.slotGoesOn k q p hk hp).changes
  have hfilled : ((s.setSlot k (some p)).slot k).isSome = true := by simp [State.slot_setSlot]
  cases c with
  | look z n l fade curve => exact hslot.trans (.cueZones hfilled ..)
  | follow z n fallback src policy fade curve => exact hslot.trans (.cueZones hfilled ..)
  | release z n => exact hslot.trans (.releaseZones ..)
  | master target fade => exact (Change.slotGoesOn k q (p.fadeMaster d target fade) hk hp).changes
  | hold limit => exact .holdSlot hk hp d limit
  | finish fade => exact .endSlot hk hp d fade

theorem Changes.runCues (n k : Nat) (made : List Nat) (s : State) : Changes s (runCues n k made s).1 := by
  induction n generalizing s made with
  | zero => exact .refl s
  | succ n ih =>
    unfold Machine.runCues
    cases hk : s.slot k with
    | none => exact .refl s
    | some p =>
      dsimp only
      cases s.nextCue p with
      | none => exact .refl s
      | some c =>
        dsimp only
        split
        · exact (Changes.executeCue (p := { p with nextCue := p.nextCue + 1 }) hk rfl _ _).trans (ih _ _)
        · exact .refl s

/-- A run of due cues is a chain of changes (R68, R82). -/
theorem Changes.cueExecution (s : State) (k : Nat) : Changes s (s.cueExecution k) := by
  unfold State.cueExecution
  cases s.slot k with
  | none => exact .refl s
  | some p => exact (Changes.runCues _ k [] s).trans (.settleHandovers _ _)

theorem Changes.resumeSlot {s : State} {k : Nat} {p : Playback} (hk : s.slot k = some p) (start r : Int) :
    Changes s (s.resumeSlot k p start r) :=
  (Change.slotGoesOn k p (p.resumed start r) hk rfl).changes.trans (.cueExecution _ k)

/-! ## Lanes -/

theorem LaneController.Canonical.write {x : LaneController} (h : x.Canonical) (l : Nat) (r : Lane) :
    ({ x with lanes := Table.write .blank x.lanes l r } : LaneController).Canonical := by
  obtain ⟨hl, hrest⟩ := h
  exact ⟨Table.wf_write _ _ _ _ hl, hrest⟩

theorem LaneController.Canonical.writeWaiting {x : LaneController} (h : x.Canonical) (l : Nat) (w : Option Waiting) :
    ({ x with waiting := Table.write none x.waiting l w } : LaneController).Canonical := by
  obtain ⟨hl, h0, h1, hg, hw⟩ := h
  exact ⟨hl, h0, h1, hg, Table.wf_write _ _ _ _ hw⟩

theorem Lane.Alike.refl (a : Lane) : a.Alike a := ⟨rfl, rfl, rfl, rfl, rfl⟩

/-- A lane record that is alike may replace the lane's. -/
theorem Changes.setLane {s : State} {l : Nat} {r : Lane} (h : (s.lane l).Alike r) : Changes s (s.setLane l r) := by
  refine (Change.lanesKept (s := s) (s.setLane l r).lanes rfl rfl rfl rfl (fun j => ?_) fun hc => hc.write l r).changes
  show (s.lane j).Alike ((s.setLane l r).lane j)
  rw [State.lane_setLane]
  split
  · next hj => rw [hj]; exact h
  · exact .refl _

theorem Changes.setWaiting (s : State) (l : Nat) (w : Option Waiting) : Changes s (s.setWaiting l w) :=
  (Change.lanesKept (s := s) (s.setWaiting l w).lanes rfl rfl rfl rfl (fun _ => .refl _) fun hc => hc.writeWaiting l w).changes

theorem Changes.placeFrame (s : State) (l : Nat) (f : FixtureFrame) : Changes s (s.placeFrame l f) := by
  unfold State.placeFrame
  cases s.waitingFrame l with
  | none => exact .setWaiting ..
  | some w =>
    exact .ite (fun _ => (Changes.setWaiting s l _).trans (.setLane ⟨rfl, rfl, rfl, rfl, rfl⟩)) fun _ => .setWaiting ..

theorem Changes.wakeLane (s : State) (l : Nat) : Changes s (s.wakeLane l) :=
  .ite (fun _ => (Change.toSetup l true).changes) fun _ => .refl s

theorem Changes.wakeIfResting (s : State) (ls : List Nat) : Changes s (s.wakeIfResting ls) :=
  Changes.foldl Changes.wakeLane ls s

theorem Changes.wakeResting (s : State) : Changes s s.wakeResting := by
  unfold State.wakeResting; exact .wakeIfResting s _

theorem Changes.wakeGuarded (s : State) : Changes s s.wakeGuarded := by
  unfold State.wakeGuarded; exact .wakeIfResting s _

theorem Changes.wakeEach (s : State) (ls : List Nat) : Changes s (s.wakeEach ls) :=
  Changes.foldl (fun s l => .ite (fun _ => (Change.toSetup l true).changes) fun _ => .refl s) ls s

theorem Changes.restEach (s : State) (ls : List Nat) : Changes s (s.restEach ls) :=
  Changes.foldl (fun s l => .ite (fun _ => (Change.toDark l .rest (by simp)).changes) fun _ => .refl s) ls s

theorem Changes.toComposing (s : State) (l : Nat) : Changes s (s.toComposing l) := by
  unfold State.toComposing
  refine Changes.trans (Change.composes l _ ?_ ?_ ?_ ?_ (.inl ?_)).changes (.setWaiting ..) <;>
    split <;> rfl

/-- The period event's frame leaves a composing lane composing, its timer running (R149, R150). -/
theorem Changes.composeFrame {s : State} {l : Nat} (h : (s.lane l).composing = true) : Changes s (s.composeFrame l) := by
  unfold State.composeFrame
  dsimp only
  split
  · next hw =>
    refine Changes.trans (Change.composes l _ ?_ ?_ ?_ ?_ (.inr ⟨?_, h⟩)).changes (.placeFrame ..) <;>
      unfold warmUpStep State.afterFrame <;> split <;> simp [Lane.composing, hw]
  · refine Changes.trans (Change.composes l _ ?_ ?_ ?_ ?_ (.inr ⟨?_, h⟩)).changes (.placeFrame ..) <;>
      unfold clipStep State.afterFrame <;> split <;> simp [← h, Lane.composing]

theorem Changes.period {s : State} {l : Nat} (h : (s.lane l).composing = true) : Changes s (s.period l) := by
  refine (Change.adopts l).changes.trans (.composeFrame ?_)
  rw [State.lane_settleLanes, State.lane_setLane, if_pos rfl]
  exact h

theorem Changes.resetLane (s : State) (l : Nat) : Changes s (s.resetLane l) :=
  .ite (fun _ => (Change.toDark l .rest (by simp)).changes) fun _ => .refl s

theorem Changes.blockResetLanes (s : State) : Changes s s.blockResetLanes := by
  have hempty : ∀ t : State, Changes t (t.withLanes { t.lanes with waiting := [] }) := fun t =>
    .of (.lanesKept _ rfl rfl rfl rfl (fun _ => .refl _) fun ⟨hl, h0, h1, hg, _⟩ => ⟨hl, h0, h1, hg, rfl⟩)
  have hdark : Changes s (laneNumbers.foldl State.resetLane s) := .foldl Changes.resetLane _ s
  have hsettled := (hdark.trans (hempty _)).tail .settleLanes
  unfold State.blockResetLanes
  exact .ite (fun _ => hsettled.trans (.wakeGuarded _)) fun _ => hsettled

/-- A lane configuration changes no lane's state. -/
theorem Changes.setConfig (s : State) (l : Nat) (c : LaneConfig) : Changes s (s.setConfig l c) :=
  .setLane ⟨rfl, rfl, rfl, rfl, rfl⟩

theorem Changes.configureLane (s : State) (l : Nat) (c : LaneConfig) : Changes s (s.configureLane l c) := by
  have hset := Changes.setConfig s l c
  unfold State.configureLane
  dsimp only
  split
  · exact hset.tail (.toDark l .rest (by simp))
  · exact hset
  · exact hset
  · exact hset.tail (.toSetup l true)
  · exact .ite (fun _ => hset.tail (.toSetup l _)) fun _ => hset
  · exact .ite (fun _ => hset.tail (.toSetup l _)) fun _ => hset
  · exact .ite (fun _ => hset.tail (.toSetup l _)) fun _ => hset
  · exact hset.tail (.toDark l .off (by simp))

theorem Changes.faultLane (s : State) (l : Nat) (k : FaultKind) : Changes s (s.faultLane l k) :=
  (Change.toDark l .faulted (by simp)).changes.tail (.recordFault k)

theorem Changes.takeReceipt (s : State) (l q : Nat) (accept : Bool) : Changes s (s.takeReceipt l q accept) :=
  .ite (fun _ => .ite (fun _ => .toComposing s l) fun _ => .faultLane s l _)
    fun _ => .setLane ⟨rfl, rfl, rfl, rfl, rfl⟩

/-- A change of the lane controller's own counts, line, banks or guard ranges. -/
theorem Changes.laneBlock {s : State} {x : LaneController} (lanes : x.lanes = s.lanes.lanes)
    (selected : x.selected = s.lanes.selected) (switch : x.switch = s.lanes.switch)
    (requested : x.requestedGuard = s.lanes.requestedGuard) (status : x.guardStatus = s.lanes.guardStatus)
    (canonical : s.lanes.Canonical → x.Canonical) : Changes s (s.withLanes x) :=
  (Change.lanesKept x selected switch requested status (fun _ => by rw [lanes]; exact .refl _) canonical).changes

theorem Changes.fixtureArrive (s : State) (os : List Octet) : Changes s (s.fixtureArrive os) := by
  unfold State.fixtureArrive
  cases parseFrame os with
  | none => exact .laneBlock rfl rfl rfl rfl rfl id
  | some f =>
    refine .ite (fun _ => .laneBlock rfl rfl rfl rfl rfl id) fun _ =>
      .ite (fun _ => .laneBlock rfl rfl rfl rfl rfl id) fun _ => ?_
    cases receiptFields f.payload with
    | none => exact .laneBlock rfl rfl rfl rfl rfl id
    | some v => exact .takeReceipt ..

theorem Changes.receiptExpired (s : State) (l : Nat) : Changes s (s.receiptExpired l) :=
  .ite (fun _ => (Change.receiptTimer l none (.inl rfl) _).changes.trans (.placeFrame ..)) fun _ => .faultLane ..

theorem Changes.beginFixture (s : State) (l : Nat) (w : Waiting) : Changes s (s.beginFixture l w) := by
  have hline : Changes s ((s.setWaiting l none).withLanes
      { (s.setWaiting l none).lanes with line := some ⟨w.frame, s.now⟩ }) :=
    (Changes.setWaiting s l none).trans (.laneBlock rfl rfl rfl rfl rfl id)
  exact hline.trans (.ite (fun _ => .setLane ⟨rfl, rfl, rfl, rfl, rfl⟩) fun _ => .refl _)

theorem Changes.endFixture (s : State) (f : FixtureFrame) : Changes s (s.endFixture f) := by
  have hline : Changes s (s.withLanes { s.lanes with line := none }) := .laneBlock rfl rfl rfl rfl rfl id
  cases f with
  | levels => exact hline
  | setup origin l q n p =>
    exact hline.trans (.ite (fun h => (Change.receiptTimer l _ (.inr h.1) _).changes) fun _ => .refl _)

/-! ## Starts -/

theorem slotNumbers_lt : ∀ k ∈ slotNumbers, k < 4 := by decide

theorem State.freeSlot_spec {s : State} {k : Nat} (h : s.freeSlot = some k) : k < 4 ∧ s.slot k = none := by
  have hmem : k ∈ slotNumbers := List.mem_of_find?_eq_some h
  have hfree := List.find?_some h
  rw [Option.isNone_iff_eq_none] at hfree
  exact ⟨slotNumbers_lt k hmem, hfree⟩

/-- The better victim of the best so far and slot k, when slot k is of lower priority: one step of the search of
State.victim (R64). -/
def State.betterVictim (s : State) (priority : Nat) (best : Option (Nat × Playback)) (k : Nat) :
    Option (Nat × Playback) :=
  match s.slot k, best with
  | none, _ => best
  | some p, none => if p.priority < priority then some (k, p) else none
  | some p, some b => if p.priority < priority then some (weaker b (k, p)) else some b

theorem State.victim_eq_foldl (s : State) (priority : Nat) :
    s.victim priority = slotNumbers.foldl (s.betterVictim priority) none := rfl

/-- A step of the search keeps the best so far or takes the slot it looks at. -/
theorem State.betterVictim_eq (s : State) (priority k : Nat) (best : Option (Nat × Playback)) :
    s.betterVictim priority best k = best ∨ ∃ p, s.slot k = some p ∧ s.betterVictim priority best k = some (k, p) := by
  unfold State.betterVictim
  cases s.slot k with
  | none => exact .inl rfl
  | some p =>
    cases best with
    | none => dsimp only; split <;> simp
    | some b => dsimp only [weaker]; split_ifs <;> simp

/-- The victim is one of the slots (R64). -/
theorem State.victim_slot {s : State} {priority k : Nat} {p : Playback} (h : s.victim priority = some (k, p)) :
    k < 4 ∧ s.slot k = some p := by
  have key : ∀ (l : List Nat) (best : Option (Nat × Playback)), (∀ j ∈ l, j < 4) →
      (∀ b, best = some b → b.1 < 4 ∧ s.slot b.1 = some b.2) →
      ∀ b, l.foldl (s.betterVictim priority) best = some b → b.1 < 4 ∧ s.slot b.1 = some b.2 := by
    intro l
    induction l with
    | nil => exact fun _ _ hbest => hbest
    | cons j l ih =>
      intro best hl hbest
      refine ih _ (fun i hi => hl i (List.mem_cons_of_mem _ hi)) ?_
      obtain he | ⟨q, hq, he⟩ := s.betterVictim_eq priority j best
      · rw [he]; exact hbest
      · rintro b hb
        rw [he] at hb
        cases hb
        exact ⟨hl j (List.mem_cons_self ..), hq⟩
  exact key slotNumbers none slotNumbers_lt (by simp) (k, p) (s.victim_eq_foldl priority ▸ h)

theorem Changes.startInSlot {s : State} {k : Nat} {q : StartRequest} (hk : k < 4) (hfree : s.slot k = none)
    (hready : s.showReady q.showNo = true) : Changes s (s.startInSlot k q) := by
  have hfilled := (Change.slotFilled k (s.startedSlot q) hk hfree hready).changes
  unfold State.startInSlot
  exact ((hfilled.tail (.restTimer none)).trans (.wakeResting _)).trans (.cueExecution _ k)

/-- A start of a READY show, wherever it goes, is a chain of changes (R64 to R66). -/
theorem Changes.placeStart {s : State} {q : StartRequest} (hready : s.showReady q.showNo = true) :
    Changes s (s.placeStart q) := by
  unfold State.placeStart State.chooseSlot
  cases hf : s.freeSlot with
  | some k =>
    obtain ⟨hk, hfree⟩ := State.freeSlot_spec hf
    exact .startInSlot hk hfree hready
  | none =>
    dsimp only
    cases hv : s.victim q.priority with
    | none => exact (Change.recordFault _).changes
    | some v =>
      obtain ⟨k, p⟩ := v
      exact (Change.release k).changes.trans
        (.startInSlot (State.victim_slot hv).1 (s.slot_release_self k) (by rw [State.showReady_release]; exact hready))

theorem Changes.calendarStart {s : State} {it : AgendaItem} (hready : s.showReady it.showNo = true) (lateness : Nat) :
    Changes s (s.calendarStart it lateness) :=
  .ite (fun _ => .of (.startsCounted _ rfl)) fun _ =>
    .ite (fun _ => .of (.startsCounted _ rfl)) fun _ => .placeStart hready

/-! ## Calendar -/

theorem Changes.recomputeIfHead (s : State) (head : Option (Nat × TowerTime × Nat × Nat)) :
    Changes s (s.recomputeIfHead head) :=
  .ite (fun _ => .refl s) fun _ => (Change.recomputeWake).changes

theorem Changes.offerStart (s : State) (it : AgendaItem) (lateness : Nat) : Changes s (s.offerStart it lateness) :=
  .ite (fun _ => (Change.recordFault _).changes) fun _ =>
    .ite (fun h => .calendarStart h lateness) fun _ => (Change.recordFault _).changes

theorem Changes.fireItem (s : State) (it : AgendaItem) : Changes s (s.fireItem it) := by
  unfold State.fireItem
  cases s.towerTime with
  | none => exact .refl s
  | some t => exact .ite (fun _ => (Change.fireEntry it).changes.trans (.offerStart ..)) fun _ => .refl s

theorem Changes.fireItems (s : State) (items : List AgendaItem) : Changes s (s.fireItems items) :=
  (Changes.foldl Changes.fireItem items s).trans (.recomputeIfHead _ _)

/-- A firing leaves the agenda state as it is. -/
theorem State.fireItem_agendaState (s : State) (it : AgendaItem) : (s.fireItem it).calendar.state = s.calendar.state := by
  unfold State.fireItem
  cases s.towerTime with
  | none => rfl
  | some t =>
    dsimp only
    split
    · exact (State.entry_of_timeless (State.offerStart_timeless (s.fireEntry it) it _)).2.2.1
    · rfl

theorem State.fireItems_agendaState (s : State) (items : List AgendaItem) :
    (s.fireItems items).calendar.state = s.calendar.state := by
  have hfired := foldl_keeps (fun s => s.calendar.state) State.fireItem State.fireItem_agendaState items s
  unfold State.fireItems State.recomputeIfHead
  split
  · exact hfired
  · exact hfired

theorem State.firePast_agendaState (s : State) : s.firePast.calendar.state = s.calendar.state := by
  unfold State.firePast
  cases s.towerTime with
  | none => rfl
  | some t => exact s.fireItems_agendaState _

theorem State.installBuild_agendaState (s : State) (b : Build) :
    (s.installBuild b).calendar.state = s.calendar.state := by
  unfold State.installBuild
  dsimp only
  split <;> simp

theorem Changes.firePast (s : State) : Changes s s.firePast := by
  unfold State.firePast
  cases s.towerTime with
  | none => exact .refl s
  | some t => exact .fireItems ..

/-- The completion of the build in flight is a chain of changes (R27). -/
theorem Changes.completeBuild {s : State} {b : Build} {pending : Option Granularity}
    (hb : s.calendar.state = .building b pending) : Changes s (s.completeBuild b pending) := by
  have hinstall : Changes s (s.installBuild b) :=
    .ite (fun _ => (Change.installed b pending hb _ _).changes.tail (.recordFault _))
      fun _ => (Change.installed b pending hb _ _).changes
  have hstate : (s.installBuild b).firePast.calendar.state = .building b pending := by
    rw [State.firePast_agendaState, State.installBuild_agendaState, hb]
  have hnext : Changes (s.installBuild b).firePast ((s.installBuild b).firePast.nextBuild pending) := by
    cases pending with
    | none => exact (Change.buildEnded b none hstate).changes
    | some g => exact (Change.beginBuild g).changes
  exact ((hinstall.trans (.firePast _)).trans hnext).trans (.recomputeIfHead _ _)

theorem Changes.rebuildIfNewDay (s : State) (old new : TowerTime) : Changes s (s.rebuildIfNewDay old new) :=
  .ite (fun _ => .refl s) fun _ => (Change.rebuildRequest .all).changes

theorem Changes.timeStepEvent (s : State) (old new : TowerTime) : Changes s (s.timeStepEvent old new) :=
  ((Changes.fireItems s _).trans (.rebuildIfNewDay ..)).tail .recomputeWake

theorem Changes.clockSetEvent (s : State) : Changes s s.clockSetEvent :=
  (Change.beginBuild .resume).changes.tail .recomputeWake

end Sys2Proof.Machine
end

section
/-! SUPPORT. The time unit, the show port, the sources, settings and the image store: every operation is a chain of
changes (01, 07, 09, 11). -/

namespace Sys2Proof.Machine

/-! ## The time unit -/

/-- A clock, a remainder and a loss timer that agree may replace those of a consistent time unit (R3, R7, R11). -/
theorem TimeUnit.Consistent.withClock {x : TimeUnit} (h : x.Consistent) {c : TowerClock} {r : Int} {timer : Option Nat}
    (remainder : r.natAbs ≤ 200) (range : ∀ p, c.time = some p → p.day ≤ lastDay ∧ p.ms < msPerDay)
    (unset : c = .unset → r = 0) (loss : timer.isSome = true ↔ c.phase = .locked) :
    ({ x with clock := c, remainder := r, lossTimer := timer } : TimeUnit).Consistent := by
  obtain ⟨hrun, _, hearly, hearlyCount, hmalformed, haccepted, _⟩ := h
  exact ⟨hrun, remainder, hearly, hearlyCount, hmalformed, haccepted, range, unset, loss⟩

/-- The counts of accepted, early and malformed frames do not matter to the clock (R5, R6, R9). -/
theorem TimeUnit.Consistent.withCounts {x : TimeUnit} (h : x.Consistent) {at' tick : Option Nat} {early a e m : Nat}
    (run : early ≤ 2) (earlyCount : e ≤ 255) (malformed : m ≤ 255) (accepted : a < 4294967296) :
    ({ x with lastAccepted := at', lastTick := tick, earlyRun := early, acceptedCount := a, earlyCount := e,
              malformedCount := m } : TimeUnit).Consistent := by
  obtain ⟨hrun, hrem, _, _, _, _, hclock⟩ := h
  exact ⟨hrun, hrem, run, earlyCount, malformed, accepted, hclock⟩

theorem satInc_le {max n : Nat} (h : n ≤ max) : satInc max n ≤ max := by unfold satInc; split <;> omega

theorem wrapInc_lt (n : Nat) : wrapInc n < 4294967296 := Nat.mod_lt _ (by decide)

@[simp] theorem TowerClock.time_retime (c : TowerClock) (p : TowerTime) :
    (c.retime p).time = c.time.map fun _ => p := by cases c <;> rfl

@[simp] theorem TowerClock.phase_retime (c : TowerClock) (p : TowerTime) : (c.retime p).phase = c.phase := by
  cases c <;> rfl

@[simp] theorem TowerClock.time_freewheeling (c : TowerClock) : c.freewheeling.time = c.time := by cases c <;> rfl

@[simp] theorem TowerClock.time_locking (c : TowerClock) : c.locking.time = c.time := by cases c <;> rfl

theorem TowerClock.time_eq_none_iff (c : TowerClock) : c.time = none ↔ c = .unset := by
  cases c <;> simp [TowerClock.time]

theorem TowerClock.phase_locking {c : TowerClock} (h : c ≠ .unset) : c.locking.phase = .locked := by
  cases c <;> simp_all [TowerClock.locking, TowerClock.phase]

theorem TowerClock.phase_freewheeling (c : TowerClock) : c.freewheeling.phase ≠ .locked := by
  cases c <;> simp [TowerClock.freewheeling, TowerClock.phase]

theorem State.clock_ne_unset {s : State} {t : TowerTime} (h : s.towerTime = some t) : s.time.clock ≠ .unset := by
  intro hu
  rw [State.towerTime, hu] at h
  cases h

theorem towerTimeFits_iff {day ms : Nat} : towerTimeFits day ms = true ↔ day ≤ lastDay ∧ ms < msPerDay := by
  simp [towerTimeFits]

theorem TowerTime.ofAbs_ms_lt (n : Nat) : (TowerTime.ofAbs n).ms < msPerDay := Nat.mod_lt _ (by decide)

/-- A consistent time unit stays so when its clock is set to another point in range and its remainder is replaced. -/
theorem TimeUnit.Consistent.retimed {x : TimeUnit} (h : x.Consistent) {p : TowerTime} {r : Int} (hset : x.clock ≠ .unset)
    (day : p.day ≤ lastDay) (ms : p.ms < msPerDay) (remainder : r.natAbs ≤ 200) :
    ({ x with clock := x.clock.retime p, remainder := r } : TimeUnit).Consistent := by
  obtain ⟨_, _, _, _, _, _, _, _, hloss⟩ := id h
  refine h.withClock remainder (fun q hq => ?_) (fun hu => ?_) (by rw [TowerClock.phase_retime]; exact hloss)
  · rw [TowerClock.time_retime, Option.map_eq_some_iff] at hq
    obtain ⟨_, _, rfl⟩ := hq
    exact ⟨day, ms⟩
  · cases hc : x.clock <;> simp_all [TowerClock.retime]

/-- A consistent time unit with tower time stays so when the remainder is replaced (R7). -/
theorem TimeUnit.Consistent.slewing {x : TimeUnit} (h : x.Consistent) {r : Int} (hset : x.clock ≠ .unset)
    (remainder : r.natAbs ≤ 200) : ({ x with remainder := r } : TimeUnit).Consistent := by
  obtain ⟨_, _, _, _, _, _, hrange, _, hloss⟩ := id h
  exact h.withClock remainder hrange (fun hu => absurd hu hset) hloss

/-- A new time is slewed or stepped to by a chain of changes (R7). -/
theorem Changes.slewOrStep {s : State} {p t : TowerTime} (ht : s.towerTime = some t) (day : p.day ≤ lastDay)
    (ms : p.ms < msPerDay) : Changes s (s.slewOrStep p t) := by
  have hset := State.clock_ne_unset ht
  refine .ite (fun hd => ?_) fun _ => ?_
  · exact .of (.time _ rfl (fun h => h.slewing hset hd) fun h => h)
  · have hstep : Changes s (s.withTime { s.time with clock := s.time.clock.retime p, remainder := 0 }) :=
      .of (.time _ rfl (fun h => h.retimed hset day ms (by decide)) (by simp [State.towerTime]))
    exact hstep.trans (.timeStepEvent _ t p)

/-- SET_TIME from UNSET (R8, R12). -/
theorem Changes.setFromUnset {s : State} {p : TowerTime} (ht : s.towerTime = none) (day : p.day ≤ lastDay)
    (ms : p.ms < msPerDay) : Changes s (s.setFromUnset (.freewheel p)) := by
  have hunset := (TowerClock.time_eq_none_iff _).1 ht
  have hset : Changes s (s.withTime { s.time with clock := .freewheel p, remainder := 0 }) := by
    refine .of (.time _ rfl (fun h => ?_) nofun)
    obtain ⟨_, _, _, _, _, _, _, _, hloss⟩ := id h
    rw [hunset] at hloss
    refine h.withClock (by decide) (fun q hq => ?_) nofun ?_
    · cases hq; exact ⟨day, ms⟩
    · simpa [TowerClock.phase] using hloss
  exact hset.trans (.clockSetEvent _)

theorem State.noteAccepted_consistent {s : State} (tick : Nat) (h : s.time.Consistent) (hset : s.time.clock ≠ .unset) :
    (s.noteAccepted tick).time.Consistent := by
  obtain ⟨_, hrem, _, hearly, hmalformed, _, hrange, _⟩ := id h
  have hclock : ({ s.time with
      clock := s.time.clock.locking, remainder := s.time.remainder, lossTimer := some (s.now + 3000) } :
      TimeUnit).Consistent := by
    refine h.withClock hrem ?_ ?_ ?_
    · simpa using hrange
    · intro hu; cases hc : s.time.clock <;> simp_all [TowerClock.locking]
    · simp [TowerClock.phase_locking hset]
  exact hclock.withCounts (Nat.zero_le 2) hearly hmalformed (wrapInc_lt _)

/-- An accepted time frame is a chain of changes (R9). -/
theorem Changes.acceptTime {s : State} {p : TowerTime} (tick : Nat) (day : p.day ≤ lastDay) (ms : p.ms < msPerDay) :
    Changes s (s.acceptTime p tick) := by
  unfold State.acceptTime
  cases ht : s.towerTime with
  | none =>
    have hlocked : Changes s (s.withTime { (s.noteAccepted tick).time with clock := .locked p, remainder := 0 }) := by
      refine .of (.time _ rfl (fun h => ?_) nofun)
      obtain ⟨_, _, _, hearly, hmalformed, _⟩ := id h
      have hclock : ({ s.time with clock := .locked p, remainder := 0, lossTimer := some (s.now + 3000) } :
          TimeUnit).Consistent := by
        refine h.withClock (by decide) (fun q hq => ?_) nofun ⟨fun _ => rfl, fun _ => rfl⟩
        cases hq; exact ⟨day, ms⟩
      exact hclock.withCounts (Nat.zero_le 2) hearly hmalformed (wrapInc_lt _)
    exact hlocked.trans (.clockSetEvent _)
  | some t =>
    have hset := State.clock_ne_unset ht
    have hnoted : Changes s (s.noteAccepted tick) :=
      .of (.time _ rfl (fun h => State.noteAccepted_consistent tick h hset) fun h =>
        (TowerClock.time_locking s.time.clock).symm.trans h)
    refine hnoted.trans (.slewOrStep ?_ day ms)
    exact (TowerClock.time_locking s.time.clock).trans ht

theorem Changes.rejectEarly (s : State) : Changes s s.rejectEarly := by
  have hcounts : ∀ early, early ≤ 2 →
      Changes s (s.withTime { s.time with earlyCount := satInc 255 s.time.earlyCount, earlyRun := early }) := by
    refine fun early hle => .of (.time _ rfl (fun h => ?_) fun h => h)
    obtain ⟨_, _, _, hearly, hmalformed, haccepted, _⟩ := id h
    exact h.withCounts hle (satInc_le hearly) hmalformed haccepted
  unfold State.rejectEarly
  refine .ite (fun _ => (hcounts 0 (Nat.zero_le 2)).tail (.recordFault _)) fun hne => ?_
  refine .of (.time _ rfl (fun h => ?_) fun h => h)
  obtain ⟨_, _, hrun, hearly, hmalformed, haccepted, _⟩ := id h
  exact h.withCounts (by omega) (satInc_le hearly) hmalformed haccepted

theorem Changes.malformedTime (s : State) : Changes s s.malformedTime := by
  refine .of (.time _ rfl (fun h => ?_) fun h => h)
  obtain ⟨_, _, hrun, hearly, hmalformed, haccepted, _⟩ := id h
  exact h.withCounts hrun hearly (satInc_le hmalformed) haccepted

/-- A TIME frame that reaches the time unit is a chain of changes, whatever it carries (R5, R6, R9). -/
theorem Changes.deliverTime (s : State) (payload : List Octet) : Changes s (s.deliverTime payload) := by
  unfold State.deliverTime
  split
  · next day ms tick _ =>
    refine .ite (fun _ => .malformedTime s) fun hfit => .ite (fun _ => .rejectEarly s) fun _ => ?_
    obtain ⟨hday, hms⟩ := towerTimeFits_iff.1 (by simpa using hfit)
    exact .acceptTime tick hday hms
  · exact .malformedTime s

theorem Changes.loseTimekeeper (s : State) : Changes s s.loseTimekeeper := by
  have hlost : Changes s (s.withTime
      { s.time with clock := s.time.clock.freewheeling, remainder := 0, lossTimer := none }) := by
    refine .of (.time _ rfl (fun h => ?_) fun hn => (TowerClock.time_freewheeling s.time.clock).symm.trans hn)
    obtain ⟨_, _, _, _, _, _, hrange, _⟩ := id h
    refine h.withClock (by decide) (by simpa using hrange) (fun _ => rfl) ?_
    simp [TowerClock.phase_freewheeling]
  exact hlost.tail (.recordFault _)

/-- The remainder moves toward 0 (R10). -/
theorem State.slewedRemainder_natAbs (s : State) : s.slewedRemainder.natAbs ≤ s.time.remainder.natAbs := by
  unfold State.slewedRemainder State.slewed
  split
  · next h =>
    simp only [Bool.and_eq_true, decide_eq_true_eq] at h
    split <;> omega
  · exact Nat.le_refl _

/-- Tower time moves on at an advance by a chain of changes (R3, R10, R13, R14, R30). -/
theorem Changes.advanceTower (s : State) : Changes s s.advanceTower := by
  unfold State.advanceTower
  cases ht : s.towerTime with
  | none => exact .refl s
  | some t =>
    refine .ite (fun _ => .of .endOfRange) fun hday => ?_
    have hset := State.clock_ne_unset ht
    have hmoved : Changes s (s.withTime { s.time with
        clock := s.time.clock.retime (.ofAbs (t.abs + s.towerStep)), remainder := s.slewedRemainder }) := by
      refine .of (.time _ rfl (fun h => ?_) (by simp [State.towerTime]))
      obtain ⟨_, hrem, _⟩ := id h
      exact h.retimed hset (Nat.le_of_not_lt hday) (TowerTime.ofAbs_ms_lt _) (s.slewedRemainder_natAbs.trans hrem)
    exact (hmoved.trans (.ite (fun _ => .refl _) fun _ => .of (.rebuildRequest .all))).trans (.fireItems ..)

/-- BLOCK_RESET naming TIME discards the agenda with tower time (R17). -/
theorem Changes.blockResetTime (s : State) : Changes s s.blockResetTime := by
  have hconsistent (h : s.time.Consistent) : ({ s.time with
      clock := .unset, remainder := 0, lastAccepted := none, lastTick := none, earlyRun := 0,
      lossTimer := none } : TimeUnit).Consistent := by
    obtain ⟨_, _, _, hearly, hmalformed, haccepted, _⟩ := id h
    exact (h.withClock (c := .unset) (r := 0) (timer := none) (by decide) (by simp [TowerClock.time]) (fun _ => rfl)
      (by simp [TowerClock.phase])).withCounts (Nat.zero_le 2) hearly hmalformed haccepted
  unfold State.blockResetTime
  refine .ite (fun _ => ?_) fun hnone => ?_
  · exact (Changes.of .timeLossEvent).tail (.timeCleared (s := s.timeLossEvent) _ rfl hconsistent rfl rfl rfl)
  · exact .of (.time _ rfl hconsistent fun _ => by simpa using hnone)

/-! ## The show port and the sources -/

/-- A replacement of the ingress processor that keeps its queue, its switch and its tables. -/
theorem Changes.ingressBlock {s : State} {x : IngressProcessor} (queue : x.queue = s.ingress.queue)
    (waits : s.ingress.SwitchWaits → x.SwitchWaits) (canonical : s.ingress.Canonical → x.Canonical) :
    Changes s (s.withIngress x) :=
  .of (.ingress x (by rw [queue]; exact Nat.le_max_right ..) waits canonical)

theorem Changes.count (s : State) (f : ShowPortCounters → ShowPortCounters) : Changes s (s.count f) :=
  .ingressBlock rfl id id

theorem Changes.badFrame (s : State) : Changes s s.badFrame :=
  .ite (fun _ => (Changes.count s _).tail (.recordFault _)) fun _ => .count s _

theorem Changes.queueFull (s : State) : Changes s s.queueFull :=
  .ite (fun _ => (Changes.count s _).tail (.recordFault _)) fun _ => .count s _

/-- An arrival is a chain of changes, whatever its octets (R119, R120). -/
theorem Changes.arrive (s : State) (os : List Octet) : Changes s (s.arrive os) := by
  unfold State.arrive
  cases parseFrame os with
  | none => exact .badFrame s
  | some f =>
    refine .ite (fun _ => .count s _) fun _ => .ite (fun _ => .count s _) fun _ => .ite (fun _ => .queueFull s)
      fun hroom => .of (.ingress _ ?_ id id)
    simp only [List.length_append, List.length_cons, List.length_nil]
    omega

theorem IngressProcessor.SwitchWaits.of_idle {g : IngressProcessor} (h : g.switch = .idle) : g.SwitchWaits := by
  intro hs; rw [h] at hs; cases hs

theorem IngressProcessor.SwitchWaits.of_processing {g : IngressProcessor} (h : g.processing.isSome = true) :
    g.SwitchWaits := fun _ => h

theorem Changes.completeSwitch (s : State) : Changes s s.completeSwitch := by
  unfold State.completeSwitch
  split
  · exact .ingressBlock rfl (fun _ => .of_idle rfl) id
  · exact .refl s

theorem Changes.dropAtTake (s : State) (f : ShowPortCounters → ShowPortCounters) : Changes s (s.dropAtTake f) :=
  (Changes.count s f).trans (.completeSwitch _)

theorem Changes.process (s : State) (f : Frame) (snap : Snapshot) : Changes s (s.process f snap) :=
  .ingressBlock rfl (fun _ => .of_processing rfl) id

/-- The sequences of a source are in the canonical form when the source table says so of its own. -/
theorem IngressProcessor.Canonical.sequences {g : IngressProcessor} (h : g.Canonical) (i : Nat) :
    Table.wf none (Table.read .blank g.sources i).sequences = true :=
  Table.read_of_forall (p := fun x : Source => Table.wf none x.sequences = true) rfl h.1.2 i

theorem IngressProcessor.Canonical.write {g : IngressProcessor} (h : g.Canonical) (i : Nat) {x : Source}
    (hx : Table.wf none x.sequences = true) :
    ({ g with sources := Table.write .blank g.sources i x } : IngressProcessor).Canonical := by
  obtain ⟨⟨hsources, hsequences⟩, hbanks⟩ := h
  exact ⟨⟨Table.wf_write _ _ _ _ hsources,
    Table.forall_write (p := fun x : Source => Table.wf none x.sequences = true) i hx hsequences⟩, hbanks⟩

/-- A source-table entry is replaced by one whose sequences are in the canonical form. -/
theorem Changes.setSource {s : State} {i : Nat} {x : Source}
    (hx : Table.wf none (s.source i).sequences = true → Table.wf none x.sequences = true) :
    Changes s (s.setSource i x) :=
  .ingressBlock rfl id fun h => h.write i (hx (h.sequences i))

/-- A count of a source moves on (R126). -/
theorem Changes.countSource {s : State} {i : Nat} {x : Source} (hx : x.sequences = (s.source i).sequences) :
    Changes s (s.setSource i x).completeSwitch :=
  (Changes.setSource fun h => by rw [hx]; exact h).trans (.completeSwitch _)

theorem Changes.takeLevel (s : State) (f : Frame) : Changes s (s.takeLevel f) := by
  unfold State.takeLevel
  cases s.matchedSource f.origin with
  | none => exact .dropAtTake s _
  | some i =>
    dsimp only
    cases levelFields f.payload with
    | none => exact .dropAtTake s _
    | some v =>
      dsimp only
      cases sequenceCheck ((s.source i).sequence v.lane) v.sequence with
      | duplicate => exact .countSource rfl
      | stale => exact .countSource rfl
      | accepted => exact .process s _ _

theorem Changes.classify (s : State) (f : Frame) : Changes s (s.classify f) :=
  .ite (fun _ => .takeLevel s f) fun _ =>
    .ite (fun _ => .ite (fun _ => .process s f _) fun _ => .dropAtTake s _) fun _ =>
      .ite (fun _ => .ite (fun _ => .process s f _) fun _ => .dropAtTake s _) fun _ => .dropAtTake s _

/-- The end of a frame's processing releases the processor (R121, R137). -/
theorem State.idleIngress_eq (s : State) : s.idleIngress = s.withIngress s.ingress.released := by
  unfold State.idleIngress State.completeSwitch IngressProcessor.released
  cases hs : s.ingress.switch with
  | idle => simp only [State.withIngress_ingress, hs]; rfl
  | switching => simp only [State.withIngress_ingress, hs]; rfl

theorem Changes.idleIngress (s : State) : Changes s s.idleIngress := by
  rw [State.idleIngress_eq]
  exact .ingressBlock rfl (fun _ => .of_idle rfl) id

theorem storeEntry_wf (v : LevelFields) (e : InputEntry) (live : Table Look) (h : Table.wf .black live = true) :
    Table.wf .black (storeEntry v live e) = true := by
  unfold storeEntry
  induction List.range e.zoneCount generalizing live with
  | nil => exact h
  | cons i is ih => exact ih _ (Table.wf_write _ _ _ _ h)

theorem Changes.writeLevels (s : State) (i : Nat) (bank : BankNo) (v : LevelFields) :
    Changes s (s.writeLevels i bank v) := by
  refine .of (.liveOrBands _ rfl (fun h => ?_) id)
  show Table.wf _ ((entriesFor (s.inputBank bank) i v.lane).foldl (storeEntry v) s.mixer.live) = true
  generalize s.mixer.live = live at h ⊢
  induction entriesFor (s.inputBank bank) i v.lane generalizing live with
  | nil => exact h
  | cons e es ih => exact ih _ (storeEntry_wf v e live h)

theorem State.acceptedSource_sequences (s : State) (x : Source) (origin : Nat) (v : LevelFields)
    (h : Table.wf none x.sequences = true) : Table.wf none (s.acceptedSource x origin v).sequences = true := by
  have hwritten : Table.wf none
      (if x.origin = origin then Table.write none x.sequences v.lane (some v.sequence) else x.sequences) = true := by
    split
    · exact Table.wf_write _ _ _ _ h
    · exact h
  unfold State.acceptedSource
  dsimp only
  split
  · exact hwritten
  · exact hwritten

theorem Changes.completeLevel (s : State) (i origin : Nat) (bank : BankNo) (v : LevelFields) :
    Changes s (s.completeLevel i origin bank v) := by
  have hreturn : Changes s (if ((s.source i).answers origin && decide ((s.source i).state = .lost)) = true then
      s.sourceReturn i else s) := .ite (fun _ => .of (.sourceReturn i)) fun _ => .refl s
  refine (hreturn.trans (.writeLevels _ i bank v)).trans (.setSource fun h => ?_)
  refine s.acceptedSource_sequences _ _ _ ?_
  have hsource : ∀ t : State, t.ingress = s.ingress → t.source i = s.source i := fun t ht => by
    unfold State.source; rw [ht]
  rwa [hsource] at h
  split <;> simp

theorem Changes.loseSource (s : State) (i : Nat) : Changes s (s.loseSource i) :=
  ((Changes.setSource (x := { s.source i with state := .lost, timer := none }) id).tail (.recordFault _)).tail
    (.sourceLoss i)

theorem Changes.lossIfLive (s : State) (i : Nat) (was : SourceState) : Changes s (s.lossIfLive i was) :=
  .ite (fun _ => .of (.sourceLoss i)) fun _ => .refl s

theorem Source.written_sequences {x : Source} (enabled : Bool) (origin lossTime : Nat)
    (h : Table.wf none x.sequences = true) : Table.wf none (x.written enabled origin lossTime).sequences = true := by
  have hkept : Table.wf none (if x.origin = origin then x.sequences else []) = true := by
    split
    · exact h
    · rfl
  unfold Source.written
  dsimp only
  split
  · exact hkept
  · exact hkept

theorem Changes.writeSourceEntry (s : State) (i : Nat) (enabled : Bool) (origin lossTime : Nat) :
    Changes s (s.writeSourceEntry i enabled origin lossTime) := by
  have hset : Changes s (s.setSource i ((s.source i).written enabled origin lossTime)) :=
    .setSource (Source.written_sequences enabled origin lossTime)
  exact .ite (fun _ => hset.trans (.lossIfLive _ i _)) fun _ => hset

theorem Changes.setInputBank {s : State} {b : BankNo} {t : Table InputEntry}
    (h : s.ingress.Canonical → Table.wf .blank t = true) : Changes s (s.setInputBank b t) := by
  cases b with
  | bank0 => exact .ingressBlock rfl id fun hc => ⟨hc.1, h hc, hc.2.2⟩
  | bank1 => exact .ingressBlock rfl id fun hc => ⟨hc.1, hc.2.1, h hc⟩

theorem IngressProcessor.Canonical.inputBank {s : State} (h : s.ingress.Canonical) (b : BankNo) :
    Table.wf .blank (s.inputBank b) = true := by
  obtain ⟨_, h0, h1⟩ := h
  cases b with
  | bank0 => exact h0
  | bank1 => exact h1

/-- A switch of the input bank completes at once or waits for the frame in processing (R137). -/
theorem Changes.switchInput {s : State} (hidle : s.ingress.switch = .idle) :
    Changes s ((s.withIngress { s.ingress with switch := .switching }).completeSwitch) := by
  rw [State.completeSwitch_of_requested hidle]
  cases hp : s.ingress.processing with
  | none =>
    rw [if_pos rfl]
    exact .ingressBlock rfl (fun _ => .of_idle hidle) id
  | some p =>
    rw [if_neg (by simp)]
    exact .ingressBlock rfl (fun _ => .of_processing (by simp [hp])) id

/-! ## Output banks -/

theorem LaneController.Canonical.outputBank {s : State} (h : s.lanes.Canonical) (b : BankNo) :
    Table.wf .blank (s.outputBank b) = true := by
  obtain ⟨_, h0, h1, _⟩ := h
  cases b with
  | bank0 => exact h0
  | bank1 => exact h1

theorem Changes.setOutputBank {s : State} {b : BankNo} {t : Table OutputEntry}
    (h : s.lanes.Canonical → Table.wf .blank t = true) : Changes s (s.setOutputBank b t) := by
  cases b with
  | bank0 => exact .laneBlock rfl rfl rfl rfl rfl fun hc => ⟨hc.1, h hc, hc.2.2⟩
  | bank1 => exact .laneBlock rfl rfl rfl rfl rfl fun hc => ⟨hc.1, hc.2.1, h hc, hc.2.2.2⟩

/-! ## House looks and bands -/

theorem Changes.setHouseLooks (s : State) (first count : Nat) (l : Look) : Changes s (s.setHouseLooks first count l) :=
  Changes.foldl (fun s z => .of (.zoneKept z { s.zone z with house := l } rfl rfl)) _ s

theorem Changes.setBand (s : State) (i : Nat) (b : Band) : Changes s (s.setBand i b) :=
  .of (.liveOrBands _ rfl id (Table.wf_write _ _ _ _))

/-! ## The management unit -/

/-- A replacement of the management unit that keeps its queues and its settings. -/
theorem Changes.mgmtBlock {s : State} {x : ManagementUnit} (requests : x.requests = s.mgmt.requests)
    (outbound : x.outbound = s.mgmt.outbound) (reserved : x.replyReserved = s.mgmt.replyReserved)
    (settings : x.settings = s.settings) (node : x.pendingNode = s.mgmt.pendingNode) : Changes s (s.withMgmt x) :=
  .of (.mgmt x (by rw [requests]; exact Nat.le_max_right ..) (by rw [outbound]) reserved (by rw [settings]; exact id)
    fun p hp => .inl (node ▸ hp))

theorem Changes.joinRequests (s : State) (c : Instr) : Changes s (s.joinRequests c) := by
  refine .ite (fun hroom => .of (.mgmt _ ?_ (Nat.le_refl _) rfl id fun _ => .inl)) fun _ => .count s _
  simp only [List.length_append, List.length_cons, List.length_nil]
  omega

theorem Changes.beginLine {s : State} {f : OutFrame} {rest : List OutFrame} (h : s.mgmt.outbound = f :: rest)
    (takeFirst : Bool) : Changes s (s.beginLine f rest takeFirst) := by
  have hline : Changes s (s.withMgmt { s.mgmt with outbound := rest, line := some ⟨f, s.now⟩ }) :=
    .of (.mgmt _ (Nat.le_max_right ..) (by rw [h]; exact Nat.le_succ _) rfl id fun _ => .inl)
  exact .ite (fun _ => hline) fun _ => hline.tail .sendPendingAlert

/-- The value of a setting after one is stored (R175). -/
theorem Settings.store_value (t : Settings) (v : Nat) (name other : SettingName)
    (hmask : name = .alertMask → v ≤ 1) :
    (t.store v name).value other = if other = name then v else t.value other := by
  cases name with
  | alertMask =>
    have hv := hmask rfl
    cases other with
    | alertMask =>
      simp only [Settings.store, Settings.value, if_true, decide_eq_true_eq]
      split <;> omega
    | _ => rfl
  | _ => cases other <;> rfl

/-- A setting stored within its range leaves all settings in their ranges (R173, R175). -/
theorem Settings.InRange.store {t : Settings} (h : t.InRange) {v : Nat} {name : SettingName}
    (hv : (settingRange name).1 ≤ v ∧ v ≤ (settingRange name).2) : (t.store v name).InRange := by
  intro other
  rw [Settings.store_value t v name other (by rintro rfl; exact hv.2)]
  split
  · next he => rw [he]; exact hv
  · exact h other

theorem Changes.storeSetting {s : State} {name : SettingName} {v : Nat}
    (hv : (settingRange name).1 ≤ v ∧ v ≤ (settingRange name).2) : Changes s (s.storeSetting name v) := by
  have hstored : Changes s (s.withMgmt { s.mgmt with settings := s.settings.store v name }) :=
    .of (.mgmt _ (Nat.le_max_right ..) (Nat.le_refl _) rfl (fun h => h.store hv) fun _ => .inl)
  refine hstored.trans ?_
  cases name with
  | preludeLead => exact .ite (fun _ => .of .recomputeWake) fun _ => .refl _
  | alertMask => exact .of .sendPendingAlert
  | _ => exact .refl _

end Sys2Proof.Machine
end

section
/-! SUPPORT. The effect of every command: a chain of changes, with an advance of the run clock before it, a full reset
after it, or a request's take before it and its reply after it. -/

namespace Sys2Proof.Machine

/-! ## What the owners of the requests do -/

/-- A choice between two answers that are each reached by a chain of changes. -/
theorem Changes.iteState {c : Prop} [Decidable c] {s : State} {a b : Answer} (ha : c → Changes s a.state)
    (hb : ¬ c → Changes s b.state) : Changes s (if c then a else b).state := by
  split
  · next hc => exact ha hc
  · next hc => exact hb hc

/-- A refusal or a report changes nothing. -/
theorem Changes.refuse (s : State) (v : Verdict) : Changes s (s.refuse v).state := .refl s

theorem Changes.report (s : State) (r : Result) : Changes s (s.report r).state := .refl s

theorem Changes.answerOk {s t : State} (h : Changes s t) : Changes s t.answerOk.state := h

theorem Changes.setTimeAnswer (day ms : Nat) (s : State) : Changes s (setTimeAnswer day ms s).state := by
  refine .iteState (fun _ => .refuse ..) fun hfit => ?_
  obtain ⟨hday, hms⟩ := towerTimeFits_iff.1 (by simpa using hfit)
  cases ht : s.towerTime with
  | none => exact .setFromUnset ht hday hms
  | some t => exact .slewOrStep ht hday hms

theorem Changes.writeCalendarEntryAnswer (i : Nat) (f : CalendarArgs) (s : State) :
    Changes s (writeCalendarEntryAnswer i f s).state := by
  refine .iteState (fun _ => .refuse ..) fun _ => ?_
  cases calendarEntryOf f with
  | none => exact .refuse ..
  | some e => exact .of (.replaceEntry i e)

theorem Changes.clearCalendarEntryAnswer (i : Nat) (s : State) : Changes s (clearCalendarEntryAnswer i s).state :=
  .iteState (fun _ => .refuse ..) fun _ => .of (.replaceEntry i _)

theorem Changes.rebuildAgendaAnswer (g : Option Granularity) (s : State) :
    Changes s (rebuildAgendaAnswer g s).state := by
  cases g with
  | none => exact .refuse ..
  | some g =>
    exact .iteState (fun _ => .refuse ..) fun _ => .iteState (fun _ => .refuse ..) fun _ => .of (.rebuildRequest g)

theorem Changes.openIn {s : State} {runs : List (Nat × Nat)} {sh count : Nat}
    (hidle : (s.showRecord sh).state.readyRun = none ∨ (s.showRecord sh).playing = 0) :
    Changes s (s.openIn runs sh count).state := by
  unfold State.openIn
  cases allocate runs count with
  | none => exact .refuse ..
  | some base => exact .of (.allocateShow sh base count hidle)

theorem Changes.openShowAnswer (sh count : Nat) (s : State) : Changes s (openShowAnswer sh count s).state := by
  refine .iteState (fun _ => .refuse ..) fun _ => ?_
  cases hst : (s.showRecord sh).state with
  | empty => exact .openIn (.inl (by rw [hst]; rfl))
  | loading base n => exact .refuse ..
  | ready base n => exact .iteState (fun _ => .refuse ..) fun hidle => .openIn (.inr (Nat.eq_zero_of_not_pos hidle))

theorem Changes.storeCues (s : State) (base count first : Nat) (rs : List (CueRecord × Bool)) :
    Changes s (s.storeCues base count first rs).state :=
  .iteState (fun _ => .refuse ..) fun _ => .of (.writeCueRecords ..)

theorem Changes.writeCuesAnswer (sh first : Nat) (records : List CueArgs) (s : State) :
    Changes s (writeCuesAnswer sh first records s).state := by
  refine .iteState (fun _ => .refuse ..) fun _ => ?_
  cases (s.showRecord sh).state with
  | empty => exact .refuse ..
  | ready base n => exact .iteState (fun _ => .refuse ..) fun _ => .refuse ..
  | loading base n =>
    refine .iteState (fun _ => .refuse ..) fun _ => ?_
    cases cueRecords records with
    | none => exact .refuse ..
    | some rs => exact .storeCues ..

theorem Changes.closeShowAnswer (sh : Nat) (s : State) : Changes s (closeShowAnswer sh s).state := by
  refine .iteState (fun _ => .refuse ..) fun _ => ?_
  cases (s.showRecord sh).state with
  | empty => exact .refuse ..
  | ready base n => exact .refuse ..
  | loading base n =>
    dsimp only
    cases s.firstBad base n with
    | none => exact .of (.closed sh base n)
    | some bad => exact .refl s

theorem Changes.deleteShowAnswer (sh : Nat) (s : State) : Changes s (deleteShowAnswer sh s).state :=
  .iteState (fun _ => .refuse ..) fun _ => .iteState (fun _ => .refuse ..) fun hidle =>
    .of (.deleted sh (Nat.eq_zero_of_not_pos hidle))

theorem Changes.readCuesAnswer (sh first number : Nat) (s : State) :
    Changes s (readCuesAnswer sh first number s).state := by
  refine .iteState (fun _ => .refuse ..) fun _ => ?_
  cases (s.showRecord sh).state.run with
  | none => exact .refuse ..
  | some r => exact .iteState (fun _ => .refuse ..) fun _ => .report ..

theorem Changes.startShowAnswer (sh priority : Nat) (s : State) :
    Changes s (startShowAnswer sh priority s).state := by
  refine .iteState (fun _ => .refuse ..) fun _ => .iteState (fun _ => .refuse ..) fun hready => ?_
  have hplaced : Changes s (s.placeStart ⟨sh, priority, .manual, 0, none⟩) := .placeStart (by simpa using hready)
  cases s.chooseSlot priority with
  | free k => exact hplaced
  | preempt k p => exact hplaced
  | refused => exact hplaced

theorem Changes.goAnswer (k : Nat) (s : State) : Changes s (goAnswer k s).state := by
  refine .iteState (fun _ => .refuse ..) fun _ => ?_
  cases hk : s.slot k with
  | none => exact .refuse ..
  | some p =>
    dsimp only
    cases p.phase with
    | holding start limit => exact .resumeSlot hk start _
    | running => exact .refuse ..
    | ending r => exact .refuse ..

theorem Changes.stopSlot {s : State} {k : Nat} {p : Playback} (hk : s.slot k = some p) (fade : Nat) :
    Changes s (s.stopSlot k p fade) := by
  unfold State.stopSlot
  cases p.phase with
  | running => exact .endSlot hk rfl _ fade
  | holding start limit => exact .endSlot (p := p.resumed start s.instant) hk rfl _ fade
  | ending r => exact .of (.release k)

theorem Changes.stopPlaybackAnswer (k fade : Nat) (s : State) : Changes s (stopPlaybackAnswer k fade s).state := by
  refine .iteState (fun _ => .refuse ..) fun _ => ?_
  cases hk : s.slot k with
  | none => exact .refuse ..
  | some p => exact .stopSlot hk _

theorem Changes.setMasterAnswer (k level fade : Nat) (s : State) : Changes s (setMasterAnswer k level fade s).state := by
  refine .iteState (fun _ => .refuse ..) fun _ => ?_
  cases hk : s.slot k with
  | none => exact .refuse ..
  | some p => exact .of (.slotGoesOn k p _ hk rfl)

theorem Changes.writeHouseLookAnswer (first count : Nat) (l : Look) (s : State) :
    Changes s (writeHouseLookAnswer first count l s).state :=
  .iteState (fun _ => .refuse ..) fun _ => .setHouseLooks ..

theorem Changes.writeCeilingBandAnswer (i fromMs ceiling : Nat) (s : State) :
    Changes s (writeCeilingBandAnswer i fromMs ceiling s).state :=
  .iteState (fun _ => .refuse ..) fun _ => .setBand ..

theorem Changes.clearCeilingBandAnswer (i : Nat) (s : State) : Changes s (clearCeilingBandAnswer i s).state :=
  .iteState (fun _ => .refuse ..) fun _ => .setBand ..

theorem Changes.writeSourceAnswer (i : Nat) (enabled : Option Bool) (origin lossTime : Nat) (s : State) :
    Changes s (writeSourceAnswer i enabled origin lossTime s).state := by
  cases enabled with
  | none => exact .refuse ..
  | some on => exact .iteState (fun _ => .refuse ..) fun _ => .writeSourceEntry ..

theorem Changes.forgetSequenceAnswer (i : Nat) (s : State) : Changes s (forgetSequenceAnswer i s).state :=
  .iteState (fun _ => .refuse ..) fun _ => .setSource fun _ => rfl

theorem Changes.writeInputPatchAnswer (i : Nat) (f : InputPatchArgs) (s : State) :
    Changes s (writeInputPatchAnswer i f s).state := by
  refine .iteState (fun _ => .refuse ..) fun _ => ?_
  cases inputEntryOf f with
  | none => exact .refuse ..
  | some e =>
    exact .iteState (fun _ => .refuse ..) fun _ => .setInputBank fun h => Table.wf_write _ _ _ _ (h.inputBank _)

theorem Changes.readInputPatchAnswer (bank : Option BankName) (i : Nat) (s : State) :
    Changes s (readInputPatchAnswer bank i s).state := by
  cases bank with
  | none => exact .refuse ..
  | some name => exact .iteState (fun _ => .refuse ..) fun _ => .report ..

theorem Changes.copyInputBankAnswer (s : State) : Changes s (copyInputBankAnswer s).state :=
  .iteState (fun _ => .refuse ..) fun _ => .setInputBank fun h => h.inputBank _

theorem SwitchStatus.idle_of_ne {x : SwitchStatus} (h : x ≠ .switching) : x = .idle := by
  cases x with
  | idle => rfl
  | switching => exact absurd rfl h

theorem Changes.switchInputBankAnswer (s : State) : Changes s (switchInputBankAnswer s).state := by
  refine .iteState (fun _ => .refuse ..) fun hs => ?_
  cases Table.firstPair inputConflict (s.inputBank s.standbyInput) with
  | none => exact .switchInput (SwitchStatus.idle_of_ne hs)
  | some pair => exact .refl s

theorem Changes.writeLaneAnswer (l : Nat) (f : LaneArgs) (s : State) : Changes s (writeLaneAnswer l f s).state := by
  refine .iteState (fun _ => .refuse ..) fun _ => ?_
  cases laneConfigOf f with
  | none => exact .refuse ..
  | some c => exact .configureLane ..

theorem Changes.writeOutputPatchAnswer (i : Nat) (f : OutputPatchArgs) (s : State) :
    Changes s (writeOutputPatchAnswer i f s).state := by
  refine .iteState (fun _ => .refuse ..) fun _ => ?_
  cases outputEntryOf f with
  | none => exact .refuse ..
  | some e =>
    refine .iteState (fun _ => .refuse ..) fun _ => ?_
    exact .setOutputBank fun h => Table.wf_write _ _ _ _ (h.outputBank _)

theorem Changes.readOutputPatchAnswer (bank : Option BankName) (i : Nat) (s : State) :
    Changes s (readOutputPatchAnswer bank i s).state := by
  cases bank with
  | none => exact .refuse ..
  | some name => exact .iteState (fun _ => .refuse ..) fun _ => .report ..

theorem Changes.copyOutputBankAnswer (s : State) : Changes s (copyOutputBankAnswer s).state :=
  .iteState (fun _ => .refuse ..) fun _ => .setOutputBank fun h => h.outputBank _

theorem Changes.switchOutputBankAnswer (s : State) : Changes s (switchOutputBankAnswer s).state := by
  refine .iteState (fun _ => .refuse ..) fun _ => ?_
  cases Table.firstPair outputConflict (s.outputBank s.standbyOutput) with
  | none => exact .answerOk (.of .acceptOutputSwitch)
  | some pair => exact .refl s

theorem Changes.writeGuardAnswer (i lane first last held : Nat) (s : State) :
    Changes s (writeGuardAnswer i lane first last held s).state :=
  .iteState (fun _ => .refuse ..) fun _ => .iteState (fun _ => .refuse ..) fun _ =>
    .laneBlock rfl rfl rfl rfl rfl fun ⟨hl, h0, h1, hg, hw⟩ => ⟨hl, h0, h1, Table.wf_write _ _ _ _ hg, hw⟩

theorem Changes.setGuardEnableAnswer (on : Option Bool) (s : State) : Changes s (setGuardEnableAnswer on s).state := by
  cases on with
  | none => exact .refuse ..
  | some v =>
    have hon : Changes s (s.requestGuard true).wakeGuarded := (Changes.of (.requestGuard true)).trans (.wakeGuarded _)
    have hoff : Changes s (s.requestGuard false) := .of (.requestGuard false)
    exact .iteState (fun _ => .refuse ..) fun _ => .iteState (fun _ => .answerOk hon) fun _ => .answerOk hoff

theorem Changes.getSettingAnswer (setting : Option SettingName) (s : State) :
    Changes s (getSettingAnswer setting s).state := by
  cases setting with
  | none => exact .refuse ..
  | some name => exact .report ..

theorem clamps_eq_false_iff {lo hi n : Nat} : clamps lo hi n = false ↔ lo ≤ n ∧ n ≤ hi := by
  simp [clamps]

theorem clamp_range {lo hi : Nat} (h : lo ≤ hi) (n : Nat) : lo ≤ clamp lo hi n ∧ clamp lo hi n ≤ hi := by
  unfold clamp; split_ifs <;> omega

theorem settingRange_le (name : SettingName) : (settingRange name).1 ≤ (settingRange name).2 := by
  cases name <;> decide

theorem Changes.changeNode {s : State} {v : Nat} (hv : 1 ≤ v ∧ v ≤ 254) : Changes s (s.changeNode v).state := by
  refine .iteState (fun _ => .refl s) fun _ =>
    .of (.mgmt _ (Nat.le_max_right ..) (Nat.le_refl _) rfl id fun p hp => .inr ?_)
  cases hp
  exact hv

theorem Changes.setSettingAnswer (setting : Option SettingName) (value : Nat) (s : State) :
    Changes s (setSettingAnswer setting value s).state := by
  cases setting with
  | none => exact .refuse ..
  | some name =>
    refine .iteState (fun _ => .refuse ..) fun hid => .iteState (fun hnode => ?_) fun _ =>
      .storeSetting (clamp_range (settingRange_le name) value)
    rw [hnode] at hid
    exact .changeNode (clamps_eq_false_iff.1 (by simpa [settingIdentity, settingRange] using hid))

theorem Changes.clearGroup (s : State) (g : CounterGroup) : Changes s (s.clearGroup g) := by
  cases g with
  | showPort =>
    refine (Changes.count s fun _ => .zero).trans (.of (.time _ rfl (fun h => ?_) fun h => h))
    obtain ⟨_, _, hrun, _⟩ := id h
    exact h.withCounts hrun (Nat.zero_le _) (Nat.zero_le _) (by decide)
  | fixturePort => exact .laneBlock rfl rfl rfl rfl rfl id
  | source i => exact .setSource id
  | lane l => exact .setLane ⟨rfl, rfl, rfl, rfl, rfl⟩

theorem Changes.readCountersAnswer (group : Option CounterGroup) (clear : Option Bool) (s : State) :
    Changes s (readCountersAnswer group clear s).state := by
  cases group with
  | none => exact .refuse ..
  | some g =>
    cases clear with
    | none => exact .refuse ..
    | some c =>
      exact .iteState (fun _ => .refuse ..) fun _ => .ite (fun _ => .clearGroup s g) fun _ => .refl s

theorem Changes.resetMember {s t : State} (h : Changes s t) (members bit : Nat) {f : State → State}
    (hf : ∀ t, Changes t (f t)) : Changes s (t.resetMember members bit f) :=
  h.trans (.ite (fun _ => hf t) fun _ => .refl t)

/-- A BLOCK_RESET is a chain of changes, whatever blocks it names (R179). -/
theorem Changes.blockReset (s : State) (members : Nat) : Changes s (s.blockReset members) :=
  ((((((Changes.refl s).resetMember members 0 .blockResetTime).resetMember members 1 fun _ =>
    .of .blockResetCalendar).resetMember members 2 fun t => .foldl (fun _ k => .of (.release k)) slotNumbers t).resetMember
    members 3 fun _ => .of .blockResetIngress).resetMember members 4 .blockResetLanes).resetMember members 5 fun _ =>
    .of .resetFaults

theorem Changes.restartAnswer (s : State) : Changes s (restartAnswer s).state := .mgmtBlock rfl rfl rfl rfl rfl

theorem Changes.saveImageAnswer (s : State) : Changes s (saveImageAnswer s).state :=
  .iteState (fun _ => .refuse ..) fun _ => .of .beginSave

/-! ## The take of a request -/

/-- The state in which a request that is free to be taken is carried out. -/
theorem State.request_cases (s : State) (c : Instr) (h : ReqHead) (owner : State → Answer) :
    s.Free c ∨ s.request c h owner = s ∨ s.request c h owner = s.joinRequests c := by
  unfold State.request
  by_cases hm : s.mayTake = true
  · obtain ⟨hroom, hrestart⟩ : s.mgmt.outbound.length < 8 ∧ s.mgmt.restartPending = false := by
      simpa [State.mayTake] using hm
    cases hq : s.mgmt.requests with
    | nil => exact .inl ⟨hroom, hrestart, .inl hq⟩
    | cons oldest rest =>
      by_cases ho : oldest = c
      · exact .inl ⟨hroom, hrestart, .inr (by simp [hq, ho])⟩
      · exact .inr (.inr (if_neg ho))
  · right
    cases hq : s.mgmt.requests with
    | nil => exact .inr (if_neg hm)
    | cons oldest rest =>
      by_cases ho : oldest = c
      · exact .inl ((if_pos ho).trans (if_neg hm))
      · exact .inr (if_neg ho)

/-! ## The effects -/

/-- Command c makes a full reset (R180, R196): POWER_ON, RESET_LINE, or the end of the transmission of a RESTART's
reply. -/
def State.ResetBy (s : State) (c : Instr) : Prop :=
  c = .powerOn ∨ (∃ ms, c = .resetLine ms) ∨ (c = .showPortTransmitEnd ∧ s.mgmt.restartPending = true ∧
    ∃ r begun, s.mgmt.line = some ⟨.reply r, begun⟩ ∧ r.atEnd = .restart ∧ begun < s.now)

/-- What command c makes of s. -/
inductive Effect (s : State) (c : Instr) : State → Prop
  | changes {t : State} (h : Changes s t) : Effect s c t
  | advance {t : State} (hc : c = .runClockAdvance) (h : Changes s.countRunClock t) : Effect s c t
  | reset {u : State} (hc : s.ResetBy c) (h : Changes s u) (clock : TowerClock) (causes : ResetCauses)
      (kept : clock = .unset ∨ ∃ ms, clock = u.keptClock ms) : Effect s c (u.fullReset clock causes)
  | answered {u : State} (room : s.mgmt.outbound.length < 8) (h : Changes s.atTake u) (r : Reply) :
      Effect s c (u.placeReply r)

/-- A request whose owner makes a chain of changes is answered, waits, or is dropped (R166 to R169). -/
theorem Effect.request (s : State) (c : Instr) (h : ReqHead) {owner : State → Answer}
    (howner : ∀ u, Changes u (owner u).state) : Effect s c (s.request c h owner) := by
  obtain hfree | hs | hj := s.request_cases c h owner
  · rw [State.request_of_free hfree]
    exact .answered hfree.1 (.iteState (fun _ => howner _) fun _ => .refuse ..) _
  · rw [hs]; exact .changes (.refl s)
  · rw [hj]; exact .changes (.joinRequests s c)

theorem Effect.ite {s t u : State} {c : Instr} {p : Prop} [Decidable p] (ht : p → Effect s c t)
    (hu : ¬ p → Effect s c u) : Effect s c (if p then t else u) := by
  split
  · next hp => exact ht hp
  · next hp => exact hu hp

theorem Effect.refl (s : State) (c : Instr) : Effect s c s := .changes (.refl s)

/-- The end of a transmission on the show-port line: a RESTART's reply resets the part, any other frame is a chain of
changes (R171, R176, R180). -/
theorem Effect.endLine {s : State} {w : ShowLine} (hline : s.mgmt.line = some w) (hbegun : w.begun < s.now) :
    Effect s .showPortTransmitEnd (s.endLine w.frame) := by
  obtain ⟨f, begun⟩ := w
  have hfreed : Changes s (s.withMgmt { s.mgmt with line := none }) := .mgmtBlock rfl rfl rfl rfl rfl
  cases f with
  | alert a => exact .changes (hfreed.tail .sendPendingAlert)
  | reply r =>
    show Effect s _ ((s.withMgmt { s.mgmt with line := none }).endReply r.atEnd)
    cases hend : r.atEnd with
    | nothing => exact .changes (hfreed.tail .sendPendingAlert)
    | nodeAddress serial => exact .changes ((hfreed.tail (.nodeChanged serial)).tail .sendPendingAlert)
    | restart =>
      have hreset (hp : s.mgmt.restartPending = true) : s.ResetBy .showPortTransmitEnd :=
        .inr (.inr ⟨rfl, hp, r, begun, hline, hend, hbegun⟩)
      exact .ite (fun hp => .reset (hreset hp) hfreed _ _ (.inr ⟨0, rfl⟩)) fun _ =>
        .changes (hfreed.tail .sendPendingAlert)

theorem Effect.timerDue {s t : State} {c : Instr} {timer : Option Nat} (h : Changes s t) :
    Effect s c (if timerDue timer s.now then t else s) :=
  .ite (fun _ => .changes h) fun _ => .refl s c

/-- A command answers a next state, which is its effect. -/
def Runs (c : Instr) (s : State) : Prop := ∃ t, exec c s = .next t ∧ Effect s c t

theorem Runs.of {c : Instr} {s t : State} (h : exec c s = .next t) (he : Effect s c t) : Runs c s := ⟨t, h, he⟩

/-! ## Every command -/

theorem restTimerExpiry_runs (s : State) : Runs .restTimerExpiry s := by
  refine .of rfl (.timerDue ?_)
  have hstopped : Changes s (s.withCalendar { s.calendar with restTimer := none }) := .of (.restTimer none)
  exact .ite (fun _ => hstopped.trans (.restEach ..)) fun _ => hstopped

theorem wakeTimerExpiry_runs (s : State) : Runs .wakeTimerExpiry s := by
  refine .of rfl (.timerDue ?_)
  exact (Changes.of .wakeStopped).trans (.wakeResting _)

theorem buildCompletion_runs (s : State) : Runs .buildCompletion s := by
  refine .of rfl ?_
  cases hb : s.calendar.state with
  | building b pending => exact .ite (fun _ => .changes (.completeBuild hb)) fun _ => .refl ..
  | stale => exact .refl ..
  | current => exact .refl ..

theorem nextCueInstant_runs (k : Nat) (s : State) : Runs (.nextCueInstant k) s := by
  refine .of rfl ?_
  cases s.slot k with
  | none => exact .refl ..
  | some p => exact .ite (fun _ => .changes (.cueExecution s k)) fun _ => .refl ..

theorem Changes.expireHold {s : State} {k : Nat} {p : Playback} (hk : s.slot k = some p) :
    Changes s (s.expireHold k p) := by
  unfold State.expireHold
  cases p.phase with
  | running => exact .refl s
  | ending r => exact .refl s
  | holding start limit =>
    dsimp only
    cases Machine.holdExpiry start limit with
    | none => exact .refl s
    | some r => exact .ite (fun _ => .resumeSlot hk start r) fun _ => .refl s

theorem holdExpiry_runs (k : Nat) (s : State) : Runs (.holdExpiry k) s := by
  refine .of rfl ?_
  cases hk : s.slot k with
  | none => exact .refl ..
  | some p => exact .changes (.expireHold hk)

theorem releaseInstant_runs (k : Nat) (s : State) : Runs (.releaseInstant k) s := by
  refine .of rfl ?_
  cases s.slot k with
  | none => exact .refl ..
  | some p => exact .ite (fun _ => .changes (.of (.release k))) fun _ => .refl ..

theorem endInstant_runs (k : Nat) (s : State) : Runs (.endInstant k) s := by
  refine .of rfl ?_
  cases s.slot k with
  | none => exact .refl ..
  | some p => exact .ite (fun _ => .changes (.of (.release k))) fun _ => .refl ..

/-- HANDOVER_END removes the handover of the zone when it has ended (R82). -/
theorem exec_handoverEnd (z : Nat) (s : State) : exec (.handoverEnd z) s = .next (s.settleZone z) := rfl

theorem ingressTake_runs (s : State) : Runs .ingressTake s := by
  refine .of rfl ?_
  split
  · next f rest hp hq =>
    have htaken : Changes s (s.withIngress { s.ingress with queue := rest }) := by
      refine .of (.ingress _ ?_ id id)
      rw [hq]
      exact (Nat.le_succ _).trans (Nat.le_max_right ..)
    exact .changes (htaken.trans (.classify _ f))
  · exact .refl ..

theorem levelFrameCompletion_runs (s : State) : Runs .levelFrameCompletion s := by
  refine .of rfl ?_
  split
  · next f i enabled origin bank taken hp =>
    cases levelFields f.payload with
    | none => exact .refl ..
    | some v => exact .ite (fun _ => .changes ((Changes.completeLevel ..).trans (.idleIngress _))) fun _ => .refl ..
  · exact .refl ..

theorem timeFrameCompletion_runs (s : State) : Runs .timeFrameCompletion s := by
  refine .of rfl ?_
  split
  · exact .ite (fun _ => .changes ((Changes.deliverTime ..).trans (.idleIngress _))) fun _ => .refl ..
  · exact .refl ..

theorem mgmtReqCompletion_runs (s : State) : Runs .mgmtReqCompletion s := by
  refine .of rfl ?_
  split
  · exact .ite (fun _ => .changes ((Changes.joinRequests ..).trans (.idleIngress _))) fun _ => .refl ..
  · exact .refl ..

theorem showPortTransmitStart_runs (takeFirst : Bool) (s : State) : Runs (.showPortTransmitStart takeFirst) s := by
  refine .of rfl ?_
  split
  · next f rest _ hq => exact .changes (.beginLine hq takeFirst)
  · exact .refl ..

theorem showPortTransmitEnd_runs (s : State) : Runs .showPortTransmitEnd s := by
  refine .of rfl ?_
  cases hline : s.mgmt.line with
  | none => exact .refl ..
  | some w => exact .ite (fun hb => .endLine hline hb) fun _ => .refl ..

theorem periodEvent_runs (l : Nat) (s : State) : Runs (.periodEvent l) s := by
  refine .of rfl (.ite (fun h => .changes (.period ?_)) fun _ => .refl ..)
  exact (Bool.and_eq_true_iff.1 h).1

theorem fixtureTransmitStart_runs (s : State) : Runs .fixtureTransmitStart s := by
  refine .of rfl ?_
  split
  · exact .changes (.beginFixture ..)
  · exact .refl ..

theorem fixtureTransmitEnd_runs (s : State) : Runs .fixtureTransmitEnd s := by
  refine .of rfl ?_
  cases s.lanes.line with
  | none => exact .refl ..
  | some w => exact .ite (fun _ => .changes (.endFixture ..)) fun _ => .refl ..

theorem imageWriteEnd_runs (agrees : Bool) (s : State) : Runs (.imageWriteEnd agrees) s := by
  refine .of rfl ?_
  cases hs : s.image.state with
  | saving snapshot begun =>
    refine .ite (fun _ => .changes (.ite (fun _ => ?_) fun _ => ?_)) fun _ => .refl ..
    · exact .of (.saveEnds snapshot begun hs)
    · exact (Changes.of .saveFails).tail (.recordFault _)
  | empty => exact .refl ..
  | saved => exact .refl ..
  | failed => exact .refl ..

/-- Every command answers a next state, and its effect is one of the four. -/
theorem exec_runs (c : Instr) (s : State) : Runs c s := by
  cases c with
  | powerOn => exact .of rfl (.reset (.inl rfl) (.refl s) _ _ (.inl rfl))
  | resetLine ms => exact .of rfl (.reset (.inr (.inl ⟨ms, rfl⟩)) (.refl s) _ _ (.inr ⟨ms, rfl⟩))
  | runClockAdvance => exact .of rfl (.advance rfl (.advanceTower _))
  | lossTimerExpiry => exact .of rfl (.timerDue (.loseTimekeeper s))
  | wakeTimerExpiry => exact wakeTimerExpiry_runs s
  | restTimerExpiry => exact restTimerExpiry_runs s
  | buildCompletion => exact buildCompletion_runs s
  | nextCueInstant k => exact nextCueInstant_runs k s
  | holdExpiry k => exact holdExpiry_runs k s
  | releaseInstant k => exact releaseInstant_runs k s
  | endInstant k => exact endInstant_runs k s
  | handoverEnd z => exact .of (exec_handoverEnd z s) (.changes (.settleZone s z))
  | showPortArrival os => exact .of rfl (.changes (.arrive s os))
  | ingressTake => exact ingressTake_runs s
  | levelFrameCompletion => exact levelFrameCompletion_runs s
  | timeFrameCompletion => exact timeFrameCompletion_runs s
  | mgmtReqCompletion => exact mgmtReqCompletion_runs s
  | livenessTimerExpiry i => exact .of rfl (.timerDue (.loseSource s i))
  | showPortTransmitStart b => exact showPortTransmitStart_runs b s
  | showPortTransmitEnd => exact showPortTransmitEnd_runs s
  | receiptArrival os => exact .of rfl (.changes (.fixtureArrive s os))
  | receiptTimerExpiry l => exact .of rfl (.timerDue (.receiptExpired s l))
  | periodEvent l => exact periodEvent_runs l s
  | fixtureTransmitStart => exact fixtureTransmitStart_runs s
  | fixtureTransmitEnd => exact fixtureTransmitEnd_runs s
  | imageWriteEnd agrees => exact imageWriteEnd_runs agrees s
  | unknownRequest h kind => exact .of rfl (.request s _ _ fun _ => .refuse ..)
  | setTime h day ms => exact .of rfl (.request s _ _ (.setTimeAnswer day ms))
  | writeCalendarEntry h i f => exact .of rfl (.request s _ _ (.writeCalendarEntryAnswer i f))
  | clearCalendarEntry h i => exact .of rfl (.request s _ _ (.clearCalendarEntryAnswer i))
  | readCalendarEntry h i => exact .of rfl (.request s _ _ fun _ => .iteState (fun _ => .refuse ..) fun _ => .report ..)
  | readAgenda h => exact .of rfl (.request s _ _ fun _ => .report ..)
  | rebuildAgenda h g => exact .of rfl (.request s _ _ (.rebuildAgendaAnswer g))
  | openShow h sh count => exact .of rfl (.request s _ _ (.openShowAnswer sh count))
  | writeCues h sh first records => exact .of rfl (.request s _ _ (.writeCuesAnswer sh first records))
  | closeShow h sh => exact .of rfl (.request s _ _ (.closeShowAnswer sh))
  | deleteShow h sh => exact .of rfl (.request s _ _ (.deleteShowAnswer sh))
  | readCues h sh first number => exact .of rfl (.request s _ _ (.readCuesAnswer sh first number))
  | readShow h sh => exact .of rfl (.request s _ _ fun _ => .iteState (fun _ => .refuse ..) fun _ => .report ..)
  | startShow h sh priority => exact .of rfl (.request s _ _ (.startShowAnswer sh priority))
  | go h k => exact .of rfl (.request s _ _ (.goAnswer k))
  | stopPlayback h k fade => exact .of rfl (.request s _ _ (.stopPlaybackAnswer k fade))
  | setMaster h k level fade => exact .of rfl (.request s _ _ (.setMasterAnswer k level fade))
  | readPlayback h k => exact .of rfl (.request s _ _ fun _ => .iteState (fun _ => .refuse ..) fun _ => .report ..)
  | writeHouseLook h z n l => exact .of rfl (.request s _ _ (.writeHouseLookAnswer z n l))
  | readZone h z => exact .of rfl (.request s _ _ fun _ => .iteState (fun _ => .refuse ..) fun _ => .report ..)
  | writeCeilingBand h i fromMs ceiling => exact .of rfl (.request s _ _ (.writeCeilingBandAnswer i fromMs ceiling))
  | clearCeilingBand h i => exact .of rfl (.request s _ _ (.clearCeilingBandAnswer i))
  | readCeiling h => exact .of rfl (.request s _ _ fun _ => .report ..)
  | writeSource h i enabled origin lossTime =>
    exact .of rfl (.request s _ _ (.writeSourceAnswer i enabled origin lossTime))
  | forgetSequence h i => exact .of rfl (.request s _ _ (.forgetSequenceAnswer i))
  | readSource h i => exact .of rfl (.request s _ _ fun _ => .iteState (fun _ => .refuse ..) fun _ => .report ..)
  | writeInputPatch h i f => exact .of rfl (.request s _ _ (.writeInputPatchAnswer i f))
  | readInputPatch h bank i => exact .of rfl (.request s _ _ (.readInputPatchAnswer bank i))
  | copyInputBank h => exact .of rfl (.request s _ _ .copyInputBankAnswer)
  | switchInputBank h => exact .of rfl (.request s _ _ .switchInputBankAnswer)
  | writeLane h l f => exact .of rfl (.request s _ _ (.writeLaneAnswer l f))
  | readLane h l => exact .of rfl (.request s _ _ fun _ => .iteState (fun _ => .refuse ..) fun _ => .report ..)
  | restLanes h set => exact .of rfl (.request s _ _ fun _ => .iteState (fun _ => .refuse ..) fun _ => .restEach ..)
  | wakeLanes h set => exact .of rfl (.request s _ _ fun _ => .iteState (fun _ => .refuse ..) fun _ => .wakeEach ..)
  | writeOutputPatch h i f => exact .of rfl (.request s _ _ (.writeOutputPatchAnswer i f))
  | readOutputPatch h bank i => exact .of rfl (.request s _ _ (.readOutputPatchAnswer bank i))
  | copyOutputBank h => exact .of rfl (.request s _ _ .copyOutputBankAnswer)
  | switchOutputBank h => exact .of rfl (.request s _ _ .switchOutputBankAnswer)
  | writeGuard h i lane first last held => exact .of rfl (.request s _ _ (.writeGuardAnswer i lane first last held))
  | readGuard h => exact .of rfl (.request s _ _ fun _ => .report ..)
  | setGuardEnable h on => exact .of rfl (.request s _ _ (.setGuardEnableAnswer on))
  | getSetting h setting => exact .of rfl (.request s _ _ (.getSettingAnswer setting))
  | setSetting h setting value => exact .of rfl (.request s _ _ (.setSettingAnswer setting value))
  | readStatus h => exact .of rfl (.request s _ _ fun _ => .report ..)
  | readCounters h group clear => exact .of rfl (.request s _ _ (.readCountersAnswer group clear))
  | blockReset h members =>
    exact .of rfl (.request s _ _ fun _ => .iteState (fun _ => .refuse ..) fun _ => .blockReset ..)
  | restart h => exact .of rfl (.request s _ _ .restartAnswer)
  | readFaults h => exact .of rfl (.request s _ _ fun _ => .report ..)
  | clearFault h i =>
    exact .of rfl (.request s _ _ fun _ => .iteState (fun _ => .refuse ..) fun _ => .of (.clearIfPresent i))
  | clearOverflow h => exact .of rfl (.request s _ _ fun _ => .of .clearFaultOverflow)
  | saveImage h => exact .of rfl (.request s _ _ .saveImageAnswer)
  | clearResetCause h flags =>
    exact .of rfl (.request s _ _ fun _ => .iteState (fun _ => .refuse ..) fun _ => .of (.causes _))

/-- The effect of a step on its one command. -/
theorem step_effect {s t : State} (h : step s = .next t) :
    t = s ∨ ∃ c rest, s.pending = c :: rest ∧ Effect (s.withPending rest) c t := by
  unfold step at h
  cases hp : s.pending with
  | nil => rw [hp] at h; cases h; exact .inl rfl
  | cons c rest =>
    rw [hp] at h
    obtain ⟨u, hu, he⟩ := exec_runs c (s.withPending rest)
    rw [show exec c (s.withPending rest) = .next t from h] at hu
    cases hu
    exact .inr ⟨c, rest, rfl, he⟩

end Sys2Proof.Machine
end

section
/-! SUPPORT. The queue of waiting commands and the run clock: no change touches either (95, 01). -/

namespace Sys2Proof.Machine

theorem Change.pending {s t : State} (h : Change s t) : t.pending = s.pending := by cases h <;> simp

theorem Change.now {s t : State} (h : Change s t) : t.now = s.now := by
  cases h with
  | time x run | timeCleared x run => exact run
  | endOfRange => simp [State.endOfRange, State.now]
  | _ => simp [State.now]

theorem Changes.pending {s t : State} (h : Changes s t) : t.pending = s.pending :=
  h.keeps (P := fun u => u.pending = s.pending) (fun _ _ hc hp => hc.pending.trans hp) rfl

theorem Changes.now {s t : State} (h : Changes s t) : t.now = s.now :=
  h.keeps (P := fun u => u.now = s.now) (fun _ _ hc hp => hc.now.trans hp) rfl

/-- A full reset is the blocks as they come up from the image, with the events of the reset (R197). -/
theorem State.fullReset_pending (s : State) (clock : TowerClock) (causes : ResetCauses) :
    (s.fullReset clock causes).pending = s.pending := by
  simp [State.fullReset, State.comeUp]

/-- A full reset sets the run clock to 0 (R16). -/
theorem State.fullReset_now (s : State) (clock : TowerClock) (causes : ResetCauses) :
    (s.fullReset clock causes).now = 0 := by
  simp [State.fullReset, State.comeUp, State.now, TimeUnit.initial]

/-- No command touches the queue of waiting commands. -/
theorem Effect.pending {s t : State} {c : Instr} (h : Effect s c t) : t.pending = s.pending := by
  cases h with
  | changes h => exact h.pending
  | advance _ h => rw [h.pending]; simp
  | reset _ h => rw [State.fullReset_pending, h.pending]
  | answered _ h => rw [← s.atTake_frame.2.2.2.2.2.2.2.2.2.1, ← h.pending]; simp

/-- Only an advance moves the run clock, and only a full reset sets it (R1). -/
theorem Effect.now {s t : State} {c : Instr} (h : Effect s c t) (hc : c ≠ .runClockAdvance) :
    t.now = s.now ∨ (t.now = 0 ∧ s.ResetBy c) := by
  cases h with
  | changes h => exact .inl h.now
  | advance ha _ => exact absurd ha hc
  | reset hr _ => exact .inr ⟨State.fullReset_now .., hr⟩
  | answered _ h => exact .inl (h.now.trans (by simp [State.now]))

/-! ## The obligations -/

/-- Settles O1: the front of the queue decides the branch of the step. -/
theorem stepRunsFrontCommand : Obligations.StepRunsFrontCommand := by
  intro s c rest h
  rw [step, h]

/-- Settles O3: every command runs, and its effect keeps the queue. -/
theorem everyCommandRunsAndKeepsQueue : Obligations.EveryCommandRunsAndKeepsQueue := by
  intro c s
  obtain ⟨t, ht, he⟩ := exec_runs c s
  exact ⟨t, ht, he.pending⟩

/-- Settles O16: the effect of any command but an advance keeps the run clock or is a full reset. -/
theorem onlyAdvanceMovesRunClock : Obligations.OnlyAdvanceMovesRunClock := by
  intro c s t ht hc
  obtain ⟨u, hu, he⟩ := exec_runs c s
  obtain rfl : t = u := by rw [ht] at hu; cases hu; rfl
  exact he.now hc

end Sys2Proof.Machine
end

section
/-! SUPPORT. Requests in general: every request goes through the request queue in the same way (09). -/

namespace Sys2Proof.Machine

/-- The meaning of a request is its take, by its owner (R166, R167). -/
theorem exec_request {c : Instr} {h : ReqHead} (hc : c.head = some h) (hk : ∀ k, c ≠ .unknownRequest h k) (s : State) :
    ∃ owner, exec c s = .next (s.request c h owner) := by
  cases c <;> cases hc
  case unknownRequest.refl => exact absurd rfl (hk _)
  all_goals exact ⟨_, rfl⟩

/-- UNKNOWN_REQUEST is taken as if its arguments fitted (R169). -/
theorem exec_unknownRequest (h : ReqHead) (kind : Option Nat) (s : State) :
    exec (.unknownRequest h kind) s =
      .next (s.request (.unknownRequest h kind) { h with fits := true } unknownRequestAnswer) := rfl

/-- The meaning of a request, with the head and the owner left open. -/
theorem exec_head {c : Instr} {h : ReqHead} (hc : c.head = some h) (s : State) :
    ∃ h' owner, exec c s = .next (s.request c h' owner) := by
  by_cases hk : ∃ k, c = .unknownRequest h k
  · obtain ⟨k, rfl⟩ := hk
    exact ⟨_, _, exec_unknownRequest h k s⟩
  · obtain ⟨owner, ho⟩ := exec_request hc (fun k he => hk ⟨k, he⟩) s
    exact ⟨h, owner, ho⟩

/-- The next state of a request that is taken, when its owner leaves the management unit alone: what the owner leaves,
and the reply. -/
theorem State.next_request_answer {s u t : State} {c : Instr} {hd : ReqHead} (ht : s.Takes c hd) {owner : State → Answer}
    {v : Verdict} {r : Result} {e : ReplyEnd} (h : owner s.atTake = ⟨v, r, u, e⟩) (hm : u.mgmt = s.atTake.mgmt)
    (hu : u.withMgmt (s.replied c hd v r e) = t) :
    (.next (s.request c hd owner) : Host.Outcome State Fault Refusal) = .next t :=
  congrArg Host.Outcome.next ((State.request_answer ht h hm).trans hu)

/-- A request that cannot be taken, and is not the oldest, joins the queue or is dropped (R124, R166). -/
theorem State.request_joins {s : State} {c : Instr} (h : (s.mgmt.requests = [] ∧ s.mayTake = false) ∨
      (s.mgmt.requests ≠ [] ∧ s.mgmt.requests.head? ≠ some c)) (hd : ReqHead) (owner : State → Answer) :
    s.request c hd owner = s.joinRequests c := by
  unfold State.request
  obtain ⟨hq, hm⟩ | ⟨hq, ho⟩ := h
  · rw [hq, hm]; rfl
  · cases hr : s.mgmt.requests with
    | nil => exact absurd hr hq
    | cons oldest rest =>
      rw [hr, List.head?_cons] at ho
      exact if_neg fun he => ho (congrArg some he)

/-- The oldest request stays where it is while it cannot be taken (R167). -/
theorem State.request_waits {s : State} {c : Instr} (ho : s.mgmt.requests.head? = some c) (hm : s.mayTake = false)
    (hd : ReqHead) (owner : State → Answer) : s.request c hd owner = s := by
  unfold State.request
  cases hr : s.mgmt.requests with
  | nil => rw [hr] at ho; cases ho
  | cons oldest rest =>
    rw [hr, List.head?_cons] at ho
    cases ho
    simp [hm]

theorem State.joinRequests_of_room {s : State} (h : s.mgmt.requests.length < 4) (c : Instr) :
    s.joinRequests c = s.withMgmt { s.mgmt with requests := s.mgmt.requests ++ [c] } := if_pos h

theorem State.joinRequests_of_full {s : State} (h : 4 ≤ s.mgmt.requests.length) (c : Instr) :
    s.joinRequests c = s.withIngress { s.ingress with counters := { s.ingress.counters with
      managementDrop := satInc 65535 s.ingress.counters.managementDrop } } := if_neg (Nat.not_lt.2 h)

/-- Settles O2: an empty queue idles by definition; a request that cannot be taken joins, is dropped, or waits. -/
theorem idleStepAndWaitingRequests : Obligations.IdleStepAndWaitingRequests := by
  refine ⟨fun s hs => by rw [step, hs], fun c h s hc => ⟨fun hj => ?_, fun ⟨ho, hm⟩ => ?_⟩⟩
  · obtain ⟨h', owner, he⟩ := exec_head hc s
    rw [he, State.request_joins hj]
    exact ⟨fun hroom => by rw [State.joinRequests_of_room hroom], fun hfull => by rw [State.joinRequests_of_full hfull]⟩
  · obtain ⟨h', owner, he⟩ := exec_head hc s
    rw [he, State.request_waits ho hm]

/-- Settles O4: a request whose arguments do not fit is refused before its owner sees it, and an unknown one by its
owner. -/
theorem badRequestsOnlyAnswered : Obligations.BadRequestsOnlyAnswered := by
  refine ⟨fun c h s hc hk hfree hfits => ?_, fun h kind s hfree => ?_⟩
  · obtain ⟨owner, he⟩ := exec_request hc hk s
    rw [he, State.request_of_free hfree, hfits]
    rfl
  · have ht : s.Takes (.unknownRequest h kind) { h with fits := true } := ⟨hfree, rfl⟩
    rw [exec_unknownRequest, State.request_refuse ht rfl]
    rfl

/-- A MGMT_REQ frame in processing completes at a later instant than its take (R124, R166). -/
theorem exec_mgmtReqCompletion_of_taken {s : State} {f : Frame} {station taken : Nat}
    (hp : s.ingress.processing = some ⟨f, .request station, taken⟩) (ht : taken < s.now) :
    exec .mgmtReqCompletion s = .next (s.joinRequests (decodeRequest f.origin f.dest f.payload)).idleIngress := by
  change execMgmtReqCompletion s = _
  simp only [execMgmtReqCompletion, hp, if_pos ht]

/-- Settles O5: the request joins or is dropped, and the processor is released. -/
theorem requestJoinsAtCompletion : Obligations.RequestJoinsAtCompletion := by
  intro s f station taken hp ht
  rw [exec_mgmtReqCompletion_of_taken hp ht, State.idleIngress_eq]
  exact ⟨fun hroom => by rw [State.joinRequests_of_room hroom]; rfl,
    fun hfull => by rw [State.joinRequests_of_full hfull]; rfl⟩

end Sys2Proof.Machine
end

section
/-! SUPPORT. The fault table's flags stay true of its records (10). -/

namespace Sys2Proof.Machine

/-! ## Present records -/

/-- In the canonical form a table of optional values lists present values only. -/
theorem Table.isSome_of_mem {α : Type} [DecidableEq α] {t : Table (Option α)} (h : Table.wf none t = true)
    {p : Nat × Option α} (hp : p ∈ t) : p.2.isSome = true := by
  induction t with
  | nil => cases hp
  | cons q t ih =>
    obtain ⟨k, v⟩ := q
    obtain ⟨hv, _, ht⟩ := (Table.wf_cons none k v t).1 h
    obtain rfl | hp := List.mem_cons.1 hp
    · exact Option.isSome_iff_ne_none.2 hv
    · exact ih ht hp

/-- A record is present at some index exactly when the table lists one. -/
theorem Table.ne_nil_iff_isSome {α : Type} [DecidableEq α] {t : Table (Option α)} (h : Table.wf none t = true) :
    t ≠ [] ↔ ∃ p ∈ t, (Table.read none t p.1).isSome = true := by
  constructor
  · intro hne
    obtain ⟨p, hp⟩ := List.exists_mem_of_ne_nil t hne
    exact ⟨p, hp, by rw [Table.read_of_mem h hp]; exact Table.isSome_of_mem h hp⟩
  · rintro ⟨p, hp, _⟩ rfl
    cases hp

theorem faultNumbers_eq_range : faultNumbers = List.range 8 := rfl

/-- One step of the search of State.oldestFault: the older of the best so far and record i (R184). -/
def State.olderFault (s : State) (best : Option (Nat × Nat)) (i : Nat) : Option (Nat × Nat) :=
  match s.faultRecord i, best with
  | none, _ => best
  | some r, none => some (i, r.runInstant)
  | some r, some b => some (earlierFault b (i, r.runInstant))

theorem State.oldestFault_eq (s : State) : s.oldestFault = (faultNumbers.foldl s.olderFault none).map (·.1) := rfl

/-- The search's result names a present record, once it has met one. -/
theorem State.foldl_olderFault (s : State) (l : List Nat) (best : Option (Nat × Nat))
    (hbest : ∀ b, best = some b → (s.faultRecord b.1).isSome = true) :
    (∀ b, l.foldl s.olderFault best = some b → (s.faultRecord b.1).isSome = true) ∧
      ((l.foldl s.olderFault best).isSome = true ↔
        best.isSome = true ∨ ∃ i ∈ l, (s.faultRecord i).isSome = true) := by
  induction l generalizing best with
  | nil => exact ⟨hbest, by simp⟩
  | cons i l ih =>
    rw [List.foldl_cons]
    cases hi : s.faultRecord i with
    | none =>
      have hstep : s.olderFault best i = best := by simp only [State.olderFault, hi]
      rw [hstep]
      refine ⟨(ih best hbest).1, (ih best hbest).2.trans ?_⟩
      simp [hi]
    | some r =>
      obtain ⟨b, hb, hpresent⟩ : ∃ b, s.olderFault best i = some b ∧ (s.faultRecord b.1).isSome = true := by
        cases hbst : best with
        | none => exact ⟨(i, r.runInstant), by simp only [State.olderFault, hi], by simp [hi]⟩
        | some b =>
          refine ⟨earlierFault b (i, r.runInstant), by simp only [State.olderFault, hi], ?_⟩
          unfold earlierFault
          split
          · simp [hi]
          · exact hbest b hbst
      rw [hb]
      obtain ⟨h1, h2⟩ := ih (some b) (by rintro _ ⟨⟩; exact hpresent)
      exact ⟨h1, h2.trans (by simp [hi])⟩

/-- The oldest record is a present one, and there is one exactly when a record is present (R184). -/
theorem State.oldestFault_spec (s : State) :
    (∀ i, s.oldestFault = some i → (s.faultRecord i).isSome = true) ∧
      (s.oldestFault.isSome = true ↔ ∃ i < 8, (s.faultRecord i).isSome = true) := by
  obtain ⟨h1, h2⟩ := s.foldl_olderFault faultNumbers none (by simp)
  rw [State.oldestFault_eq]
  constructor
  · intro i hi
    obtain ⟨b, hb, rfl⟩ := Option.map_eq_some_iff.1 hi
    exact h1 b hb
  · rw [Option.isSome_map, h2, faultNumbers_eq_range]
    simp

/-! ## Each change of the fault table -/

/-- What the flags have to say of the records, for a table whose overflow side is in order. -/
theorem State.freeFaultRecord_lt {s : State} {i : Nat} (h : s.freeFaultRecord = some i) : i < 8 := by
  obtain ⟨j, _, rfl⟩ := List.mem_map.1 (List.mem_of_find?_eq_some h)
  exact Nat.mod_lt _ (by decide)

theorem State.storeFault_records (s : State) (k : FaultKind) (i : Nat) :
    (s.storeFault k i).records = Table.write none s.faults.records i (some ⟨k, s.now, s.towerTime⟩) := rfl

theorem FaultTable.Agrees.storeFault {s : State} (h : s.faults.Agrees) (k : FaultKind) {i : Nat} (hi : i < 8)
    (alert : Bool) : ({ s.storeFault k i with alertPending := alert } : FaultTable).Agrees := by
  obtain ⟨hwf, hindex, _, hpending, hfirst, hfirstPresent, hdropped, hoverflow, _⟩ := h
  have hread : ∀ j, Table.read none (s.storeFault k i).records j =
      if j = i then some ⟨k, s.now, s.towerTime⟩ else Table.read none s.faults.records j := by
    intro j
    rw [State.storeFault_records, Table.read_write]
  have hwf' : Table.wf none (s.storeFault k i).records = true := by
    rw [State.storeFault_records]
    exact Table.wf_write _ _ _ _ hwf
  refine ⟨hwf', fun p hp => ?_, Nat.mod_lt _ (by decide), ⟨fun _ => ?_, fun _ => rfl⟩, ?_,
    fun j hj => ?_, hdropped, hoverflow, fun _ => .inl rfl⟩
  · change p ∈ (s.storeFault k i).records at hp
    rw [State.storeFault_records] at hp
    obtain rfl | hp := Table.mem_write hp
    · exact hi
    · exact hindex p hp
  · have := hread i
    rw [if_pos rfl] at this
    intro he
    rw [show Table.read none (s.storeFault k i).records i = none by rw [he]; rfl] at this
    cases this
  · show (if s.faults.pending then s.faults.first else some i).isSome = true
    split
    · next hp => rw [hfirst, hp]
    · rfl
  · rw [hread]
    split
    · rfl
    · next hne =>
      refine hfirstPresent j ?_
      change (if s.faults.pending then s.faults.first else some i) = some j at hj
      split at hj
      · exact hj
      · cases hj; exact absurd rfl hne

theorem FaultTable.Agrees.recordFault {s : State} (h : s.faults.Agrees) (k : FaultKind) :
    (s.recordFault k).faults.Agrees := by
  obtain ⟨ho, hf⟩ | ⟨_, i, hi, alert, hf⟩ | ⟨_, _, alert, hf⟩ := s.recordFault_cases k
  · obtain ⟨hwf, hindex, hnext, hpending, hfirst, hfirstPresent, hdropped, _, halert⟩ := h
    rw [hf]
    exact ⟨hwf, hindex, hnext, hpending, hfirst, hfirstPresent, satInc_le hdropped, fun hn => by simp [ho] at hn, halert⟩
  · rw [hf]
    exact h.storeFault k (State.freeFaultRecord_lt hi) alert
  · obtain ⟨hwf, hindex, hnext, hpending, hfirst, hfirstPresent, hdropped, _, _⟩ := h
    rw [hf]
    exact ⟨hwf, hindex, hnext, hpending, hfirst, hfirstPresent, satInc_le hdropped, nofun, fun _ => .inr rfl⟩

theorem FaultTable.Agrees.sendPendingAlert {s : State} (h : s.faults.Agrees) : s.sendPendingAlert.faults.Agrees := by
  unfold State.sendPendingAlert
  split
  · obtain ⟨hwf, hindex, hnext, hpending, hfirst, hfirstPresent, hdropped, hoverflow, _⟩ := h
    exact ⟨hwf, hindex, hnext, hpending, hfirst, hfirstPresent, hdropped, hoverflow, nofun⟩
  · exact h

/-- A table whose alert flag alone may outlive its reason is put right by quietAlert (R189). -/
theorem FaultTable.Agrees.quietAlert {s : State}
    (h : ({ s.faults with alertPending := false } : FaultTable).Agrees) : s.quietAlert.faults.Agrees := by
  unfold State.quietAlert
  obtain ⟨hwf, hindex, hnext, hpending, hfirst, hfirstPresent, hdropped, hoverflow, _⟩ := h
  split
  · next hnoisy =>
    exact ⟨hwf, hindex, hnext, hpending, hfirst, hfirstPresent, hdropped, hoverflow,
      fun _ => by simpa using hnoisy⟩
  · exact ⟨hwf, hindex, hnext, hpending, hfirst, hfirstPresent, hdropped, hoverflow, nofun⟩

/-- An alert that is not pending needs no reason. -/
theorem FaultTable.Agrees.withoutAlert {f : FaultTable} (h : f.Agrees) :
    ({ f with alertPending := false } : FaultTable).Agrees := by
  obtain ⟨hwf, hindex, hnext, hpending, hfirst, hfirstPresent, hdropped, hoverflow, _⟩ := h
  exact ⟨hwf, hindex, hnext, hpending, hfirst, hfirstPresent, hdropped, hoverflow, nofun⟩

/-- Records below 8 are present at an index below 8. -/
theorem Table.ne_nil_iff_lt {α : Type} [DecidableEq α] {t : Table (Option α)} (h : Table.wf none t = true) {n : Nat}
    (hn : ∀ p ∈ t, p.1 < n) : t ≠ [] ↔ ∃ i < n, (Table.read none t i).isSome = true := by
  rw [Table.ne_nil_iff_isSome h]
  constructor
  · rintro ⟨p, hp, hs⟩
    exact ⟨p.1, hn p hp, hs⟩
  · rintro ⟨i, _, hs⟩
    exact ⟨_, Table.mem_of_read (Option.isSome_iff_ne_none.1 hs), hs⟩

/-- The fault table without record i, its flags following the records that are left (R184, R186). -/
theorem FaultTable.Agrees.clearFaultRecord {s : State} (h : s.faults.Agrees) (i : Nat) :
    (s.clearFaultRecord i).faults.Agrees := by
  obtain ⟨hwf, hindex, hnext, hpending, hfirst, hfirstPresent, hdropped, hoverflow, _⟩ := h
  unfold State.clearFaultRecord
  apply FaultTable.Agrees.quietAlert
  have hwf' : Table.wf none (Table.write none s.faults.records i none) = true := Table.wf_write _ _ _ _ hwf
  have hindex' : ∀ p ∈ Table.write none s.faults.records i none, p.1 < 8 := by
    intro p hp
    have hmem : p ∈ s.faults.records := by
      rw [Table.write, if_pos rfl] at hp
      exact List.mem_of_mem_filter hp
    exact hindex p hmem
  obtain ⟨hold, hsome⟩ :=
    (s.withFaults { s.faults with records := Table.write none s.faults.records i none }).oldestFault_spec
  generalize (s.withFaults { s.faults with records := Table.write none s.faults.records i none }).oldestFault = left
    at hold hsome
  change ∀ j, left = some j → (Table.read none (Table.write none s.faults.records i none) j).isSome = true at hold
  refine ⟨hwf', hindex', hnext, hsome.trans (Table.ne_nil_iff_lt hwf' hindex').symm, ?_, fun j hj => ?_, hdropped,
    hoverflow, nofun⟩
  · show (if s.faults.first = some i || left.isNone then left else s.faults.first).isSome = left.isSome
    split
    · rfl
    · next hc =>
      obtain ⟨j, hj⟩ : ∃ j, left = some j := by cases left <;> simp_all
      have hjs := hold j hj
      rw [hj, Option.isSome_some, hfirst, hpending]
      rintro he
      rw [he] at hjs
      simp [Table.write, Table.drop] at hjs
  · change (if s.faults.first = some i || left.isNone then left else s.faults.first) = some j at hj
    show (Table.read none (Table.write none s.faults.records i none) j).isSome = true
    split at hj
    · exact hold j hj
    · next hc =>
      have hne : j ≠ i := by rintro rfl; simp [hj] at hc
      rw [Table.read_write_ne _ _ _ hne]
      exact hfirstPresent j hj

theorem FaultTable.Agrees.clearIfPresent {s : State} (h : s.faults.Agrees) (i : Nat) :
    (s.clearIfPresent i).faults.Agrees := by
  unfold State.clearIfPresent
  split
  · exact h.clearFaultRecord i
  · exact .quietAlert h.withoutAlert

theorem FaultTable.Agrees.clearFaultOverflow {s : State} (h : s.faults.Agrees) :
    s.clearFaultOverflow.faults.Agrees := by
  obtain ⟨hwf, hindex, hnext, hpending, hfirst, hfirstPresent, _, _, _⟩ := h
  exact .quietAlert ⟨hwf, hindex, hnext, hpending, hfirst, hfirstPresent, Nat.zero_le _, fun _ => rfl, nofun⟩

theorem FaultTable.initial_agrees : FaultTable.initial.Agrees :=
  ⟨rfl, nofun, by decide, by simp [FaultTable.initial], rfl, nofun, by decide, fun _ => rfl, nofun⟩

/-! ## The obligation -/

theorem Change.faultsAgree {s t : State} (h : Change s t) (ha : s.faults.Agrees) : t.faults.Agrees := by
  cases h with
  | endOfRange =>
    have hlost := FaultTable.Agrees.recordFault (s := s.withTime
      { s.time with clock := .unset, remainder := 0, lossTimer := none }) ha .timeLost
    simpa [State.endOfRange] using hlost
  | recordFault k => exact ha.recordFault k
  | sendPendingAlert => exact ha.sendPendingAlert
  | clearIfPresent i => exact ha.clearIfPresent i
  | clearFaultOverflow => exact ha.clearFaultOverflow
  | resetFaults => exact FaultTable.initial_agrees
  | _ => simpa using ha

theorem State.fullReset_faults (s : State) (clock : TowerClock) (causes : ResetCauses) :
    (s.fullReset clock causes).faults = .initial := by
  simp [State.fullReset, State.comeUp]

theorem Effect.faultsAgree {s t : State} {c : Instr} (h : Effect s c t) (ha : s.faults.Agrees) : t.faults.Agrees := by
  have hkeeps : ∀ {u v : State}, Changes u v → u.faults.Agrees → v.faults.Agrees :=
    fun h => h.keeps (P := fun u => u.faults.Agrees) fun _ _ hc => hc.faultsAgree
  cases h with
  | changes h => exact hkeeps h ha
  | advance _ h => exact hkeeps h (by simpa using ha)
  | reset _ _ => rw [State.fullReset_faults]; exact FaultTable.initial_agrees
  | answered _ h => simpa using hkeeps h (by simpa using ha)

/-- Settles O55: each change of the fault table keeps the flags true of the records. -/
theorem stepsKeepFaultTableAgreement : Obligations.StepsKeepFaultTableAgreement := by
  intro s t ha ht
  obtain rfl | ⟨c, rest, _, he⟩ := step_effect ht
  · exact ha
  · exact he.faultsAgree ha

end Sys2Proof.Machine
end

section
/-! SUPPORT. The queues stay within their places, and a waiting switch of the input bank has a frame to wait for
(07, 09). -/

namespace Sys2Proof.Machine

/-! ## The queues during a command -/

/-- No queue holds more than its places, a place reserved for a reply counting as taken (R188): what QueuesBounded says,
but for the reserved place, which is there while a request is carried out. -/
def State.WithinPlaces (s : State) : Prop :=
  s.ingress.queue.length ≤ 12 ∧ s.mgmt.requests.length ≤ 4 ∧ s.outboundUsed ≤ 8

theorem State.queuesBounded_iff (s : State) :
    s.QueuesBounded ↔ s.WithinPlaces ∧ s.mgmt.replyReserved = false := by
  unfold State.QueuesBounded State.WithinPlaces State.outboundUsed
  constructor
  · rintro ⟨hi, hr, ho, hres⟩
    exact ⟨⟨hi, hr, by simpa [hres] using ho⟩, hres⟩
  · rintro ⟨⟨hi, hr, ho⟩, hres⟩
    exact ⟨hi, hr, by simpa [hres] using ho, hres⟩

/-- The queues of a state that agrees on them. -/
theorem State.WithinPlaces.congr {s t : State} (h : s.WithinPlaces) (ingress : t.ingress = s.ingress)
    (mgmt : t.mgmt = s.mgmt) : t.WithinPlaces := by
  unfold State.WithinPlaces State.outboundUsed
  rw [ingress, mgmt]
  exact h

theorem State.outboundRoom_iff (s : State) : s.outboundRoom = true ↔ s.outboundUsed < 8 := decide_eq_true_iff

theorem State.outboundUsed_placeAlert (s : State) : s.placeAlert.outboundUsed = s.outboundUsed + 1 := by
  simp only [State.outboundUsed, State.placeAlert, State.withMgmt_mgmt, List.length_append, List.length_singleton]
  exact Nat.add_right_comm ..

/-- An ALERT is placed only where there is room (R188, R190). -/
theorem State.WithinPlaces.placeAlert {s : State} (h : s.WithinPlaces) (hroom : s.outboundRoom = true) :
    s.placeAlert.WithinPlaces := by
  obtain ⟨hi, hr, _⟩ := h
  exact ⟨hi, hr, by rw [State.outboundUsed_placeAlert]; exact (State.outboundRoom_iff s).1 hroom⟩

theorem State.WithinPlaces.alertCondition {s : State} (h : s.WithinPlaces) : s.alertCondition.WithinPlaces := by
  unfold State.alertCondition
  split
  · exact h
  · split
    · exact h
    · next hroom => exact h.placeAlert (by simp_all)

theorem State.WithinPlaces.recordFault {s : State} (h : s.WithinPlaces) (k : FaultKind) :
    (s.recordFault k).WithinPlaces := by
  unfold State.recordFault
  split
  · exact h
  · split
    · dsimp only
      split
      · exact h
      · exact State.WithinPlaces.alertCondition (h.congr rfl rfl)
    · exact State.WithinPlaces.alertCondition (h.congr rfl rfl)

theorem State.WithinPlaces.sendPendingAlert {s : State} (h : s.WithinPlaces) : s.sendPendingAlert.WithinPlaces := by
  unfold State.sendPendingAlert
  split
  · next hsend =>
    simp only [Bool.and_eq_true] at hsend
    exact (h.placeAlert hsend.2).congr rfl rfl
  · exact h

theorem State.endNodeChange_queues (s : State) (serial : Nat) :
    (s.endNodeChange serial).mgmt.requests = s.mgmt.requests ∧ (s.endNodeChange serial).mgmt.outbound = s.mgmt.outbound ∧
      (s.endNodeChange serial).mgmt.replyReserved = s.mgmt.replyReserved := by
  unfold State.endNodeChange
  split
  · split <;> exact ⟨rfl, rfl, rfl⟩
  · exact ⟨rfl, rfl, rfl⟩

theorem State.blockResetIngress_queue (s : State) : s.blockResetIngress.ingress.queue = [] := by
  have hidle : ∀ t i, (State.idleSource t i).ingress.queue = t.ingress.queue := by
    intro t i
    unfold State.idleSource State.lossIfLive
    split <;> simp [State.setSource]
  have hfold := foldl_keeps (fun t : State => t.ingress.queue) State.idleSource hidle sourceNumbers
    (s.withIngress { s.ingress with queue := [], processing := none })
  unfold State.blockResetIngress State.completeSwitch
  dsimp only
  split <;> simpa using hfold

theorem Change.withinPlaces {s t : State} (h : Change s t) (hs : s.WithinPlaces) : t.WithinPlaces := by
  cases h with
  | endOfRange =>
    have hlost := State.WithinPlaces.recordFault (s := s.withTime
      { s.time with clock := .unset, remainder := 0, lossTimer := none }) (hs.congr rfl rfl) .timeLost
    exact hlost.congr (by simp [State.endOfRange]) (by simp [State.endOfRange])
  | recordFault k => exact hs.recordFault k
  | sendPendingAlert => exact hs.sendPendingAlert
  | ingress x queue =>
    obtain ⟨hi, hr, ho⟩ := hs
    exact ⟨queue.trans (by omega), hr, ho⟩
  | blockResetIngress =>
    obtain ⟨hi, hr, ho⟩ := hs
    exact ⟨by rw [State.blockResetIngress_queue]; exact Nat.zero_le _, by simpa using hr,
      by simpa [State.outboundUsed] using ho⟩
  | mgmt x requests outbound reserved =>
    obtain ⟨hi, hr, ho⟩ := hs
    refine ⟨hi, requests.trans (by omega), ?_⟩
    simp only [State.outboundUsed, State.withMgmt_mgmt, reserved] at ho ⊢
    omega
  | nodeChanged serial =>
    obtain ⟨hi, hr, ho⟩ := hs
    obtain ⟨hrequests, houtbound, hreserved⟩ := s.endNodeChange_queues serial
    exact ⟨by simpa using hi, by rw [hrequests]; exact hr,
      by simpa [State.outboundUsed, houtbound, hreserved] using ho⟩
  | _ => exact hs.congr (by simp) (by simp)

theorem Change.replyReserved {s t : State} (h : Change s t) : t.mgmt.replyReserved = s.mgmt.replyReserved := by
  cases h with
  | endOfRange => simp [State.endOfRange]
  | mgmt x _ _ reserved => exact reserved
  | nodeChanged serial => exact (s.endNodeChange_queues serial).2.2
  | _ => simp

theorem Changes.replyReserved {s t : State} (h : Changes s t) : t.mgmt.replyReserved = s.mgmt.replyReserved :=
  h.keeps (P := fun u => u.mgmt.replyReserved = s.mgmt.replyReserved) (fun _ _ hc hp => hc.replyReserved.trans hp) rfl

theorem Changes.withinPlaces {s t : State} (h : Changes s t) (hs : s.WithinPlaces) : t.WithinPlaces :=
  h.keeps (P := State.WithinPlaces) (fun _ _ hc => hc.withinPlaces) hs

theorem State.fullReset_queues (s : State) (clock : TowerClock) (causes : ResetCauses) :
    (s.fullReset clock causes).QueuesBounded := by
  simp [State.fullReset, State.comeUp, State.QueuesBounded, ManagementUnit.initial, IngressProcessor.initial]

/-- A reply takes the place that was reserved for it (R167). -/
theorem State.WithinPlaces.placeReply {s : State} (h : s.WithinPlaces) (hres : s.mgmt.replyReserved = true) (r : Reply) :
    (s.placeReply r).QueuesBounded := by
  obtain ⟨hi, hr, ho⟩ := h
  refine ⟨hi, hr, ?_, rfl⟩
  simpa [State.placeReply, State.outboundUsed, hres] using ho

theorem State.QueuesBounded.atTake {s : State} (h : s.QueuesBounded) (hroom : s.mgmt.outbound.length < 8) :
    s.atTake.WithinPlaces := by
  obtain ⟨hi, hr, _⟩ := h
  refine ⟨by simpa using hi, ?_, by simpa using hroom⟩
  rw [State.requests_atTake, List.length_tail]
  omega

theorem Effect.queuesBounded {s t : State} {c : Instr} (h : Effect s c t) (hs : s.QueuesBounded) : t.QueuesBounded := by
  have hkeeps : ∀ {u v : State}, Changes u v → u.QueuesBounded → v.QueuesBounded := by
    intro u v hc hu
    obtain ⟨hw, hres⟩ := u.queuesBounded_iff.1 hu
    exact v.queuesBounded_iff.2 ⟨hc.withinPlaces hw, hc.replyReserved.trans hres⟩
  cases h with
  | changes h => exact hkeeps h hs
  | advance _ h => exact hkeeps h (by simpa [State.QueuesBounded] using hs)
  | reset _ _ => exact State.fullReset_queues ..
  | answered hroom h r => exact (h.withinPlaces (hs.atTake hroom)).placeReply (h.replyReserved.trans rfl) r

/-! ## The switch of the input bank -/

theorem State.completeSwitch_waits (s : State) : s.completeSwitch.ingress.SwitchWaits := by
  unfold State.completeSwitch
  split
  · exact .of_idle rfl
  · next hn =>
    intro hs
    cases hp : s.ingress.processing with
    | none => exact absurd hp (hn hs)
    | some p => rfl

theorem Change.switchWaits {s t : State} (h : Change s t) (hs : s.ingress.SwitchWaits) : t.ingress.SwitchWaits := by
  cases h with
  | endOfRange => simpa [State.endOfRange] using hs
  | ingress x _ waits => exact waits hs
  | blockResetIngress =>
    unfold State.blockResetIngress
    exact State.completeSwitch_waits _
  | _ => simpa using hs

theorem Effect.switchWaits {s t : State} {c : Instr} (h : Effect s c t) (hs : s.ingress.SwitchWaits) :
    t.ingress.SwitchWaits := by
  have hkeeps : ∀ {u v : State}, Changes u v → u.ingress.SwitchWaits → v.ingress.SwitchWaits :=
    fun h => h.keeps (P := fun u => u.ingress.SwitchWaits) fun _ _ hc => hc.switchWaits
  cases h with
  | changes h => exact hkeeps h hs
  | advance _ h => exact hkeeps h (by simpa using hs)
  | reset _ _ => exact .of_idle (by simp [State.fullReset, State.comeUp, IngressProcessor.initial])
  | answered _ h => simpa using hkeeps h (by simpa using hs)

/-- Settles O54: each change keeps the queues within their places, and the reply takes the place reserved for it. -/
theorem stepsKeepQueuesBounded : Obligations.StepsKeepQueuesBounded := by
  intro s t hq hw ht
  obtain rfl | ⟨c, rest, _, he⟩ := step_effect ht
  · exact ⟨hq, hw⟩
  · exact ⟨he.queuesBounded hq, he.switchWaits hw⟩

end Sys2Proof.Machine
end

section
/-! SUPPORT. Every setting stays in its range: in force, pending, stored or being written (09, 11). -/

namespace Sys2Proof.Machine

/-- The settings of a state that agrees on the management unit's and the image store's share of them. -/
theorem State.SettingsLegal.congr {s t : State} (h : s.SettingsLegal) (settings : t.mgmt.settings = s.mgmt.settings)
    (node : t.mgmt.pendingNode = s.mgmt.pendingNode) (image : t.image = s.image) : t.SettingsLegal := by
  unfold State.SettingsLegal State.settings
  rw [settings, node, image]
  exact h

theorem Change.settingsLegal {s t : State} (h : Change s t) (hs : s.SettingsLegal) : t.SettingsLegal := by
  obtain ⟨hforce, hnode, hstored, hsaving⟩ := id hs
  cases h with
  | endOfRange => exact hs.congr (by simp [State.endOfRange]) (by simp [State.endOfRange]) (by simp [State.endOfRange])
  | mgmt x _ _ _ settings node =>
    exact ⟨settings hforce, fun p hp => (node p hp).elim (hnode p) id, hstored, hsaving⟩
  | nodeChanged serial =>
    unfold State.endNodeChange
    split
    · next p hp =>
      split
      · exact ⟨hforce.store (name := .nodeAddress) (hnode p hp), nofun, hstored, hsaving⟩
      · exact hs
    · exact hs
  | beginSave => exact ⟨hforce, hnode, nofun, by rintro img begun ⟨⟩; exact hforce⟩
  | saveEnds snapshot begun saving => exact ⟨hforce, hnode, by rintro img ⟨⟩; exact hsaving _ _ saving, nofun⟩
  | saveFails => exact ⟨hforce, hnode, nofun, nofun⟩
  | causes c => exact hs
  | _ => exact hs.congr (by simp) (by simp) (by simp)

theorem Changes.settingsLegal {s t : State} (h : Changes s t) (hs : s.SettingsLegal) : t.SettingsLegal :=
  h.keeps (P := State.SettingsLegal) (fun _ _ hc => hc.settingsLegal) hs

theorem Settings.defaults_inRange : Settings.defaults.InRange := by
  intro name; cases name <;> decide

/-- A stored copy that a full reset examines is the stored image, or none (R194, R195). -/
theorem ImageStore.storedAtReset_image {i : ImageStore} {img : Image} (h : i.storedAtReset = .image img) :
    i.stored = .image img := by
  unfold ImageStore.storedAtReset at h
  split at h
  · cases h
  · exact h
  · exact h
  · exact h

/-- The image a full reset restores from is the stored one or the defaults (R195). -/
theorem ImageStore.restored_eq (i : ImageStore) :
    i.storedAtReset.restored = .defaults ∨ ∃ img, i.stored = .image img ∧ i.storedAtReset.restored = img := by
  cases h : i.storedAtReset with
  | blank => exact .inl rfl
  | failing => exact .inl rfl
  | image img => exact .inr ⟨img, ImageStore.storedAtReset_image h, rfl⟩

/-- After a full reset no write goes on, and what is stored is the copy that was examined (R195). -/
theorem State.fullReset_image (s : State) (clock : TowerClock) (causes : ResetCauses) :
    (s.fullReset clock causes).image = s.image.restored causes := by
  simp [State.fullReset, State.comeUp]

/-- A predicate that the stored image meets is met by what is stored after a full reset. -/
theorem ImageStore.restored_stored {i : ImageStore} {causes : ResetCauses} {img : Image}
    (h : (i.restored causes).stored = .image img) : i.stored = .image img := ImageStore.storedAtReset_image h

theorem ImageStore.restored_state {i : ImageStore} {causes : ResetCauses} {img : Image} {begun : Nat} :
    (i.restored causes).state ≠ .saving img begun := by
  show i.storedAtReset.stateAfter ≠ _
  cases i.storedAtReset <;> simp [StoredImage.stateAfter]

theorem State.fullReset_settings (s : State) (clock : TowerClock) (causes : ResetCauses) :
    (s.fullReset clock causes).mgmt = { ManagementUnit.initial with settings := s.image.storedAtReset.restored.settings } := by
  simp [State.fullReset, State.comeUp]

theorem State.SettingsLegal.fullReset {s : State} (h : s.SettingsLegal) (clock : TowerClock) (causes : ResetCauses) :
    (s.fullReset clock causes).SettingsLegal := by
  obtain ⟨_, _, hstored, _⟩ := h
  unfold State.SettingsLegal State.settings
  rw [State.fullReset_settings, State.fullReset_image]
  refine ⟨?_, nofun, fun img hi => hstored img (ImageStore.restored_stored hi), fun img begun hi =>
    absurd hi ImageStore.restored_state⟩
  obtain hd | ⟨img, hi, he⟩ := s.image.restored_eq
  · rw [hd]; exact Settings.defaults_inRange
  · rw [he]; exact hstored img hi

theorem Effect.settingsLegal {s t : State} {c : Instr} (h : Effect s c t) (hs : s.SettingsLegal) : t.SettingsLegal := by
  cases h with
  | changes h => exact h.settingsLegal hs
  | advance _ h => exact h.settingsLegal (hs.congr (t := s.countRunClock) (by simp) (by simp) (by simp))
  | reset _ h => exact (h.settingsLegal hs).fullReset _ _
  | answered _ h =>
    have hu := h.settingsLegal (hs.congr (t := s.atTake) (by simp) (by simp) (by simp))
    exact hu.congr rfl rfl rfl

/-- Settles O60: a setting is stored within its range, and a full reset restores a stored image's or the defaults. -/
theorem stepsKeepSettingsLegal : Obligations.StepsKeepSettingsLegal := by
  intro s t hs ht
  obtain rfl | ⟨c, rest, _, he⟩ := step_effect ht
  · exact hs
  · exact he.settingsLegal hs

end Sys2Proof.Machine
end

section
/-! SUPPORT. The time unit stays consistent, and the agenda in its order, within its places, and empty without tower
time (01, 02). -/

namespace Sys2Proof.Machine

/-! ## The time unit -/

theorem Change.timeConsistent {s t : State} (h : Change s t) (hs : s.time.Consistent) : t.time.Consistent := by
  cases h with
  | time x _ consistent => exact consistent hs
  | timeCleared x _ consistent => exact consistent hs
  | endOfRange =>
    have hlost := hs.withClock (c := .unset) (r := 0) (timer := none) (by decide) (by simp [TowerClock.time])
      (fun _ => rfl) (by simp [TowerClock.phase])
    simpa [State.endOfRange] using hlost
  | _ => simpa using hs

/-- The run clock stays within its 48 bits at an advance (R1). -/
theorem State.countRunClock_consistent {s : State} (h : s.time.Consistent) : s.countRunClock.time.Consistent := by
  obtain ⟨hrun, hrest⟩ := h
  unfold State.countRunClock
  split
  · refine ⟨?_, hrest⟩
    have := (Config.runClockAfterLast s.freeCount).isLt
    simp only [State.withFreeCount_time, State.withTime_time, lastInstant]
    omega
  · refine ⟨?_, hrest⟩
    change s.now + 1 ≤ lastInstant
    change s.now ≤ lastInstant at hrun
    omega

/-- Tower time that a reset keeps lies in its range, and is not LOCKED (R14, R16). -/
theorem State.keptClock_range (s : State) (ms : Nat) :
    (∀ p, (s.keptClock ms).time = some p → p.day ≤ lastDay ∧ p.ms < msPerDay) ∧ (s.keptClock ms).phase ≠ .locked := by
  refine ⟨fun p hp => ?_, TowerClock.phase_freewheeling _⟩
  rw [State.keptClock, TowerClock.time_freewheeling, TowerClock.after] at hp
  split at hp
  · cases hp
  · split at hp
    · cases hp
    · next hday =>
      rw [TowerClock.time_retime, Option.map_eq_some_iff] at hp
      obtain ⟨_, _, rfl⟩ := hp
      exact ⟨Nat.le_of_not_lt hday, TowerTime.ofAbs_ms_lt _⟩

theorem TimeUnit.initial_consistent : TimeUnit.initial.Consistent :=
  ⟨by decide, by decide, by decide, by decide, by decide, by decide, nofun, fun _ => rfl, by simp [TimeUnit.initial,
    TowerClock.phase]⟩

theorem State.fullReset_time (s : State) (clock : TowerClock) (causes : ResetCauses) :
    (s.fullReset clock causes).time = { TimeUnit.initial with clock := clock } := by
  simp [State.fullReset, State.comeUp]

theorem Effect.timeConsistent {s t : State} {c : Instr} (h : Effect s c t) (hs : s.time.Consistent) :
    t.time.Consistent := by
  have hkeeps : ∀ {u v : State}, Changes u v → u.time.Consistent → v.time.Consistent :=
    fun h => h.keeps (P := fun u => u.time.Consistent) fun _ _ hc => hc.timeConsistent
  cases h with
  | changes h => exact hkeeps h hs
  | advance _ h => exact hkeeps h (State.countRunClock_consistent hs)
  | answered _ h => simpa using hkeeps h (by simpa using hs)
  | @reset u _ _ clock causes kept =>
    rw [State.fullReset_time]
    obtain ⟨hrange, hphase⟩ : (∀ p, clock.time = some p → p.day ≤ lastDay ∧ p.ms < msPerDay) ∧ clock.phase ≠ .locked := by
      obtain rfl | ⟨ms, rfl⟩ := kept
      · exact ⟨nofun, nofun⟩
      · exact u.keptClock_range ms
    exact TimeUnit.initial_consistent.withClock (by decide) hrange (fun _ => rfl) (by simp [hphase, TimeUnit.initial])

/-! ## Agenda order -/

/-- What goes before an item that is not after another goes before that other: agenda order is total (R23). -/
theorem AgendaItem.not_before_of_before {a b c : AgendaItem} (h : a.before b = true) (h' : c.before b = false) :
    c.before a = false := by
  simp only [AgendaItem.before, Bool.or_eq_true, Bool.and_eq_true, decide_eq_true_eq, Bool.or_eq_false_iff,
    Bool.and_eq_false_iff, decide_eq_false_iff_not] at *
  omega

theorem AgendaItem.before_asymm {a b : AgendaItem} (h : a.before b = true) : b.before a = false := by
  simp only [AgendaItem.before, Bool.or_eq_true, Bool.and_eq_true, decide_eq_true_eq, Bool.or_eq_false_iff,
    Bool.and_eq_false_iff, decide_eq_false_iff_not] at *
  omega

theorem AgendaItem.sameStart_comm (a b : AgendaItem) : a.sameStart b = b.sameStart a := by
  rw [Bool.eq_iff_iff, AgendaItem.sameStart_iff, AgendaItem.sameStart_iff]
  exact ⟨fun ⟨h1, h2⟩ => ⟨h1.symm, h2.symm⟩, fun ⟨h1, h2⟩ => ⟨h1.symm, h2.symm⟩⟩

/-- A list in agenda order with no start twice (R23): an agenda, but for its length. -/
def InAgendaOrder (l : List AgendaItem) : Prop :=
  l.Pairwise (fun a b => b.before a = false) ∧ l.Pairwise (fun a b => a.sameStart b = false)

theorem mem_insertItem {it a : AgendaItem} {l : List AgendaItem} : a ∈ insertItem it l ↔ a = it ∨ a ∈ l := by
  induction l with
  | nil => simp [insertItem]
  | cons b l ih =>
    unfold insertItem
    split
    · exact List.mem_cons
    · rw [List.mem_cons, ih, List.mem_cons]; tauto

/-- An item put in its place leaves agenda order (R23). -/
theorem insertItem_order {it : AgendaItem} {l : List AgendaItem} (h : l.Pairwise (fun a b => b.before a = false)) :
    (insertItem it l).Pairwise (fun a b => b.before a = false) := by
  induction l with
  | nil => exact List.pairwise_singleton ..
  | cons b l ih =>
    obtain ⟨hb, hl⟩ := List.pairwise_cons.1 h
    unfold insertItem
    split
    · next hlt =>
      refine List.pairwise_cons.2 ⟨fun c hc => ?_, h⟩
      obtain rfl | hc := List.mem_cons.1 hc
      · exact AgendaItem.before_asymm hlt
      · exact AgendaItem.not_before_of_before hlt (hb c hc)
    · next hge =>
      refine List.pairwise_cons.2 ⟨fun c hc => ?_, ih hl⟩
      obtain rfl | hc := mem_insertItem.1 hc
      · simpa using hge
      · exact hb c hc

theorem insertItem_starts {it : AgendaItem} {l : List AgendaItem} (h : l.Pairwise (fun a b => a.sameStart b = false))
    (hit : ∀ a ∈ l, it.sameStart a = false) : (insertItem it l).Pairwise (fun a b => a.sameStart b = false) := by
  induction l with
  | nil => exact List.pairwise_singleton ..
  | cons b l ih =>
    obtain ⟨hb, hl⟩ := List.pairwise_cons.1 h
    unfold insertItem
    split
    · exact List.pairwise_cons.2 ⟨hit, h⟩
    · refine List.pairwise_cons.2 ⟨fun c hc => ?_, ih hl fun a ha => hit a (List.mem_cons_of_mem _ ha)⟩
      obtain rfl | hc := mem_insertItem.1 hc
      · rw [AgendaItem.sameStart_comm]; exact hit b (List.mem_cons_self ..)
      · exact hb c hc

theorem InAgendaOrder.addItem {l : List AgendaItem} (h : InAgendaOrder l) (it : AgendaItem) :
    InAgendaOrder (addItem l it) := by
  unfold Machine.addItem
  split
  · exact h
  · next hnew =>
    rw [Bool.not_eq_true, List.any_eq_false] at hnew
    exact ⟨insertItem_order h.1, insertItem_starts h.2 fun a ha => by simpa using hnew a ha⟩

theorem InAgendaOrder.sublist {l m : List AgendaItem} (h : InAgendaOrder l) (hm : m.Sublist l) : InAgendaOrder m :=
  ⟨h.1.sublist hm, h.2.sublist hm⟩

/-- The agenda that a build leaves is in agenda order (R27, step 3). -/
theorem State.mergedAgenda_order {s : State} (h : InAgendaOrder s.calendar.agenda) (b : Build) :
    InAgendaOrder (s.mergedAgenda b) := by
  have hfold : ∀ (rs : List AgendaItem) (l : List AgendaItem), InAgendaOrder l → InAgendaOrder (rs.foldl Machine.addItem l) := by
    intro rs
    induction rs with
    | nil => exact fun _ h => h
    | cons r rs ih => exact fun l h => ih _ (h.addItem r)
  exact hfold _ _ (h.sublist List.filter_sublist)

theorem CalendarEngine.Ordered.of_sublist {c d : CalendarEngine} (h : c.Ordered) (hd : d.agenda.Sublist c.agenda) :
    d.Ordered := by
  obtain ⟨hlen, horder⟩ := h
  exact ⟨hd.length_le.trans hlen, InAgendaOrder.sublist horder hd⟩

theorem CalendarEngine.Ordered.congr {c d : CalendarEngine} (h : c.Ordered) (hd : d.agenda = c.agenda) : d.Ordered :=
  h.of_sublist (by rw [hd])

theorem CalendarEngine.ordered_of_nil {c : CalendarEngine} (h : c.agenda = []) : c.Ordered := by
  unfold CalendarEngine.Ordered
  rw [h]
  exact ⟨Nat.zero_le _, .nil, .nil⟩

/-! ## What the changes leave of the agenda -/

theorem State.release_agenda (s : State) (k : Nat) :
    (s.release k).calendar.agenda = s.calendar.agenda ∧ (s.release k).calendar.state = s.calendar.state ∧
      (s.release k).calendar.wakeTimer = s.calendar.wakeTimer := by
  obtain ⟨hagenda, _, hstate, _, _, hwake⟩ := State.entry_of_timeless (s.release_timeless k)
  exact ⟨hagenda, hstate, hwake⟩

theorem State.beginBuild_agenda (s : State) (g : Granularity) :
    (s.beginBuild g).calendar.agenda = s.calendar.agenda ∧
      (s.beginBuild g).calendar.wakeTimer = s.calendar.wakeTimer := by
  unfold State.beginBuild
  split <;> exact ⟨rfl, rfl⟩

theorem State.rebuildRequest_agenda (s : State) (g : Granularity) :
    (s.rebuildRequest g).calendar.agenda = s.calendar.agenda ∧
      (s.rebuildRequest g).calendar.wakeTimer = s.calendar.wakeTimer := by
  unfold State.rebuildRequest
  split
  · exact ⟨rfl, rfl⟩
  · exact s.beginBuild_agenda g
  · exact s.beginBuild_agenda g

theorem State.recomputeIfHead_agenda (s : State) (head : Option (Nat × TowerTime × Nat × Nat)) :
    (s.recomputeIfHead head).calendar.agenda = s.calendar.agenda ∧
      (s.recomputeIfHead head).calendar.state = s.calendar.state := by
  unfold State.recomputeIfHead
  split <;> exact ⟨rfl, rfl⟩

theorem State.replaceEntry_agenda (s : State) (i : Nat) (e : CalendarEntry) :
    (s.replaceEntry i e).calendar.agenda = s.calendar.agenda.filter (fun a => decide (a.entry ≠ i)) :=
  (State.recomputeIfHead_agenda _ _).1

theorem State.endOfRange_calendar (s : State) :
    s.endOfRange.calendar = { s.calendar with agenda := [], state := .stale, wakeTimer := none } := by
  simp [State.endOfRange, State.timeLossEvent]

theorem Change.ordered {s t : State} (h : Change s t) (hs : s.calendar.Ordered) : t.calendar.Ordered := by
  cases h with
  | endOfRange => exact CalendarEngine.ordered_of_nil (by rw [State.endOfRange_calendar])
  | timeLossEvent | blockResetCalendar => exact CalendarEngine.ordered_of_nil rfl
  | restTimer | wakeStopped | recomputeWake | buildEnded => exact hs.congr rfl
  | fireEntry it => exact hs.of_sublist List.filter_sublist
  | installed b =>
    exact ⟨List.length_take_le .., InAgendaOrder.sublist (State.mergedAgenda_order hs.2 b) (List.take_sublist ..)⟩
  | beginBuild g => exact hs.congr (s.beginBuild_agenda g).1
  | rebuildRequest g => exact hs.congr (s.rebuildRequest_agenda g).1
  | replaceEntry i e => exact hs.of_sublist (by rw [State.replaceEntry_agenda]; exact List.filter_sublist)
  | release k => exact hs.congr (s.release_agenda k).1
  | _ => exact hs.congr (by simp)

/-! ## The agenda without tower time -/

/-- The agenda is empty and STALE, and the wake timer is stopped (R37). -/
def CalendarEngine.Discarded (c : CalendarEngine) : Prop := c.agenda = [] ∧ c.state = .stale ∧ c.wakeTimer = none

theorem State.timelessIsStale_iff (s : State) : s.TimelessIsStale ↔ (s.towerTime = none → s.calendar.Discarded) := Iff.rfl

/-- The wake timer stays stopped when it is recomputed without an agenda (R38). -/
theorem State.wakeTimerFor_of_discarded {s : State} (h : s.calendar.agenda = []) : s.wakeTimerFor = none := by
  unfold State.wakeTimerFor
  rw [h]
  rfl

theorem CalendarEngine.Discarded.recomputeWake {s : State} (h : s.calendar.Discarded) :
    s.recomputeWake.calendar.Discarded := by
  obtain ⟨hagenda, hstate, _⟩ := h
  exact ⟨hagenda, hstate, State.wakeTimerFor_of_discarded hagenda⟩

theorem CalendarEngine.Discarded.replaceEntry {s : State} (h : s.calendar.Discarded) (i : Nat) (e : CalendarEntry) :
    (s.replaceEntry i e).calendar.Discarded := by
  obtain ⟨hagenda, hstate, hwake⟩ := h
  unfold State.replaceEntry State.recomputeIfHead
  rw [hagenda, hstate]
  dsimp only
  split
  · exact ⟨rfl, rfl, hwake⟩
  · exact CalendarEngine.Discarded.recomputeWake ⟨rfl, rfl, hwake⟩

/-- Without tower time a discarded agenda stays so, whatever changes. -/
theorem Change.discarded {s t : State} (h : Change s t) (hnone : s.towerTime = none) (hs : s.calendar.Discarded) :
    t.calendar.Discarded := by
  obtain ⟨hagenda, hstate, hwake⟩ := id hs
  have hbegin : ∀ g, (s.beginBuild g).calendar.Discarded := by
    intro g
    unfold State.beginBuild
    rw [hnone]
    exact ⟨hagenda, rfl, hwake⟩
  cases h with
  | endOfRange => rw [State.endOfRange_calendar]; exact ⟨rfl, rfl, rfl⟩
  | timeLossEvent | blockResetCalendar => exact ⟨rfl, rfl, rfl⟩
  | restTimer => exact hs
  | wakeStopped => exact ⟨hagenda, hstate, rfl⟩
  | recomputeWake => exact hs.recomputeWake
  | fireEntry it => exact ⟨by simp [State.fireEntry, hagenda], hstate, hwake⟩
  | installed b pending building => rw [hstate] at building; cases building
  | buildEnded b pending building => rw [hstate] at building; cases building
  | beginBuild g => exact hbegin g
  | rebuildRequest g =>
    unfold State.rebuildRequest
    rw [hstate]
    exact hbegin g
  | replaceEntry i e => exact hs.replaceEntry i e
  | release k =>
    obtain ⟨ha, hst, hw⟩ := s.release_agenda k
    exact ⟨ha.trans hagenda, hst.trans hstate, hw.trans hwake⟩
  | _ => simpa using hs

/-- A change that leaves no tower time had none, or has discarded the agenda. -/
theorem Change.towerTime_none {s t : State} (h : Change s t) (ht : t.towerTime = none) :
    s.towerTime = none ∨ t.calendar.Discarded := by
  cases h with
  | time x _ _ present => exact .inl (present ht)
  | timeCleared x _ _ agenda stale wake => exact .inr ⟨agenda, stale, wake⟩
  | endOfRange => rw [State.endOfRange_calendar]; exact .inr ⟨rfl, rfl, rfl⟩
  | _ => exact .inl (by simpa [State.towerTime] using ht)

theorem Change.timelessIsStale {s t : State} (h : Change s t) (hs : s.TimelessIsStale) : t.TimelessIsStale := by
  intro ht
  obtain hnone | hd := h.towerTime_none ht
  · exact h.discarded hnone (hs hnone)
  · exact hd

/-! ## The obligation -/

/-- After a full reset the agenda is empty, and STALE unless tower time is present (R41). -/
theorem State.fullReset_agenda (s : State) (clock : TowerClock) (causes : ResetCauses) :
    (s.fullReset clock causes).calendar.Ordered ∧ (s.fullReset clock causes).TimelessIsStale := by
  have hup : ∀ u : State, u.restoreGuard.calendar = u.calendar := by simp
  unfold State.fullReset State.resumeIfTime
  split
  · next ht =>
    refine ⟨CalendarEngine.ordered_of_nil ?_, fun hn => ?_⟩
    · rw [(State.beginBuild_agenda _ _).1, hup]; rfl
    · have : (s.comeUp s.image.storedAtReset.restored clock (s.image.restored causes)).restoreGuard.towerTime = none := by
        simpa [State.towerTime] using hn
      rw [this] at ht
      cases ht
  · exact ⟨CalendarEngine.ordered_of_nil (by rw [hup]; rfl), fun _ => by rw [hup]; exact ⟨rfl, rfl, rfl⟩⟩

theorem State.TimelessIsStale.congr {s t : State} (h : s.TimelessIsStale) (clock : t.time.clock = s.time.clock)
    (calendar : t.calendar = s.calendar) : t.TimelessIsStale := by
  unfold State.TimelessIsStale State.towerTime
  rw [clock, calendar]
  exact h

theorem State.countRunClock_clock (s : State) : s.countRunClock.time.clock = s.time.clock := by
  unfold State.countRunClock
  split <;> rfl

theorem Effect.agenda {s t : State} {c : Instr} (h : Effect s c t) (ho : s.calendar.Ordered) (hs : s.TimelessIsStale) :
    t.calendar.Ordered ∧ t.TimelessIsStale := by
  have hkeeps : ∀ {u v : State}, Changes u v → u.calendar.Ordered → u.TimelessIsStale →
      v.calendar.Ordered ∧ v.TimelessIsStale := fun h hu ht =>
    ⟨h.keeps (P := fun u => u.calendar.Ordered) (fun _ _ hc => hc.ordered) hu,
      h.keeps (P := State.TimelessIsStale) (fun _ _ hc => hc.timelessIsStale) ht⟩
  cases h with
  | changes h => exact hkeeps h ho hs
  | advance _ h => exact hkeeps h (by simpa using ho) (hs.congr s.countRunClock_clock (by simp))
  | reset _ _ => exact State.fullReset_agenda ..
  | answered _ h =>
    obtain ⟨hu, hv⟩ := hkeeps h (by simpa using ho) (hs.congr (by simp) (by simp))
    exact ⟨by simpa using hu, hv.congr rfl rfl⟩

/-- Settles O56: each change keeps the time unit consistent, the agenda in order, and a discarded agenda discarded. -/
theorem stepsKeepTimeAndAgenda : Obligations.StepsKeepTimeAndAgenda := by
  refine ⟨fun s t hs ht => ?_, fun s t ho hs ht => ?_⟩
  · obtain rfl | ⟨c, rest, _, he⟩ := step_effect ht
    · exact hs
    · exact he.timeConsistent hs
  · obtain rfl | ⟨c, rest, _, he⟩ := step_effect ht
    · exact ⟨ho, hs⟩
    · exact he.agenda ho hs

end Sys2Proof.Machine
end

section
/-! SUPPORT. The switch and guard statuses and the timers stay true of the lanes (08). -/

namespace Sys2Proof.Machine

/-! ## Settling -/

theorem laneNumbers_all {p : Nat → Prop} [DecidablePred p] :
    (laneNumbers.all fun l => decide (p l)) = true ↔ ∀ l ∈ laneNumbers, p l := by
  simp [List.all_eq_true]

/-- The lane controller with the two statuses replaced, as settling leaves it (R158, R160). -/
def LaneController.withStatuses (x : LaneController) (switch : SwitchStatus) (status : GuardStatus) : LaneController :=
  { x with switch := switch, guardStatus := status }

open Classical in
/-- Settling makes the switch IDLE when every lane is on the selected bank, and the guard status ENABLED or DISABLED
when every lane uses the requested state; otherwise each stays (R158, R160). -/
theorem State.settleLanes_statuses (s : State) :
    s.settleLanes = s.withLanes (s.lanes.withStatuses
      (if ∀ l ∈ laneNumbers, (s.lane l).bank = s.lanes.selected then .idle else s.lanes.switch)
      (if ∀ l ∈ laneNumbers, (s.lane l).guardInUse = s.lanes.requestedGuard then
        (if s.lanes.requestedGuard then .enabled else .disabled) else s.lanes.guardStatus)) := by
  unfold State.settleLanes State.settleSwitch State.settleGuard
  by_cases hb : ∀ l ∈ laneNumbers, (s.lane l).bank = s.lanes.selected
  · rw [if_pos (laneNumbers_all.2 hb), if_pos hb]
    by_cases hg : ∀ l ∈ laneNumbers, (s.lane l).guardInUse = s.lanes.requestedGuard
    · rw [if_pos hg]; exact if_pos (laneNumbers_all.2 hg)
    · rw [if_neg hg]; exact if_neg (mt laneNumbers_all.1 hg)
  · rw [if_neg (mt laneNumbers_all.1 hb), if_neg hb]
    by_cases hg : ∀ l ∈ laneNumbers, (s.lane l).guardInUse = s.lanes.requestedGuard
    · rw [if_pos hg]; exact if_pos (laneNumbers_all.2 hg)
    · rw [if_neg hg]; exact if_neg (mt laneNumbers_all.1 hg)

/-- What settling has to find so that the statuses are true of the lanes afterwards: the statuses may tell less than
the lanes do, but nothing untrue. -/
structure State.StatusesTrue (s : State) : Prop where
  idle : s.lanes.switch = .idle → ∀ l ∈ laneNumbers, (s.lane l).bank = s.lanes.selected
  settled : s.lanes.guardStatus ≠ .settling → (∀ l ∈ laneNumbers, (s.lane l).guardInUse = s.lanes.requestedGuard) ∧
    (s.lanes.guardStatus = .enabled ↔ s.lanes.requestedGuard = true)

/-- Lanes that do not compose have adopted, and the timers run in the states that start them. -/
structure State.LanesInPlace (s : State) : Prop where
  adopted : ∀ l ∈ laneNumbers, (s.lane l).composing = false →
    (s.lane l).bank = s.lanes.selected ∧ (s.lane l).guardInUse = s.lanes.requestedGuard
  receipt : ∀ l, (s.lane l).receiptTimer.isSome = true → (s.lane l).state = .setup
  period : ∀ l, (s.lane l).periodTimer.isSome = true ↔ (s.lane l).composing = true

theorem State.lanesAgree_iff (s : State) : s.LanesAgree ↔ s.StatusesTrue ∧ s.LanesInPlace :=
  ⟨fun ⟨h1, h2, h3, h4, h5⟩ => ⟨⟨h1, h2⟩, ⟨h3, h4, h5⟩⟩, fun ⟨⟨h1, h2⟩, ⟨h3, h4, h5⟩⟩ => ⟨h1, h2, h3, h4, h5⟩⟩

theorem State.StatusesTrue.settleLanes {s : State} (h : s.StatusesTrue) : s.settleLanes.StatusesTrue := by
  classical
  constructor
  · intro hi
    simp only [State.lane_settleLanes]
    rw [State.settleLanes_statuses] at hi ⊢
    simp only [State.withLanes_lanes, LaneController.withStatuses] at hi ⊢
    split at hi
    · next hb => exact hb
    · exact h.idle hi
  · intro hi
    simp only [State.lane_settleLanes]
    rw [State.settleLanes_statuses] at hi ⊢
    simp only [State.withLanes_lanes, LaneController.withStatuses] at hi ⊢
    split at hi
    · next hg => rw [if_pos hg]; exact ⟨hg, by cases s.lanes.requestedGuard <;> simp⟩
    · next hg => exact absurd (h.settled hi).1 hg

/-- After settling, the statuses have settled (R158, R160). -/
theorem State.settleLanes_settled (s : State) : s.settleLanes.LanesSettled := by
  classical
  unfold State.LanesSettled
  simp only [State.lane_settleLanes]
  rw [State.settleLanes_statuses]
  simp only [State.withLanes_lanes, LaneController.withStatuses]
  refine ⟨fun hb => if_pos hb, fun hg => ?_⟩
  rw [if_pos hg]
  cases s.lanes.requestedGuard <;> simp

theorem State.settleLanes_kept (s : State) :
    s.settleLanes.lanes.selected = s.lanes.selected ∧ s.settleLanes.lanes.requestedGuard = s.lanes.requestedGuard := by
  classical
  rw [State.settleLanes_statuses]
  exact ⟨rfl, rfl⟩

theorem State.LanesInPlace.settleLanes {s : State} (h : s.LanesInPlace) : s.settleLanes.LanesInPlace := by
  obtain ⟨hselected, hrequested⟩ := s.settleLanes_kept
  constructor <;> simp only [State.lane_settleLanes, hselected, hrequested]
  · exact h.adopted
  · exact h.receipt
  · exact h.period

/-! ## One lane changes -/

/-- A lane record that may stand in the place of the lane's: on the bank and under the guard of before or adopted, an
idle one adopted, and with the timers of its state. -/
structure State.LaneFits (s : State) (l : Nat) (r : Lane) : Prop where
  bank : r.bank = (s.lane l).bank ∨ r.bank = s.lanes.selected
  guard : r.guardInUse = (s.lane l).guardInUse ∨ r.guardInUse = s.lanes.requestedGuard
  adopted : l ∈ laneNumbers → r.composing = false →
    r.bank = s.lanes.selected ∧ r.guardInUse = s.lanes.requestedGuard
  receipt : r.receiptTimer.isSome = true → r.state = .setup
  period : r.periodTimer.isSome = true ↔ r.composing = true

/-- The lane controller's registers and lanes that the statuses and timers depend on are those of s, but for lane l,
which has become r. -/
structure State.OnlyLane (s t : State) (l : Nat) (r : Lane) : Prop where
  lane : ∀ j, t.lane j = if j = l then r else s.lane j
  selected : t.lanes.selected = s.lanes.selected
  requested : t.lanes.requestedGuard = s.lanes.requestedGuard
  switch : t.lanes.switch = s.lanes.switch
  status : t.lanes.guardStatus = s.lanes.guardStatus

theorem State.StatusesTrue.onlyLane {s t : State} {l : Nat} {r : Lane} (h : s.StatusesTrue) (ht : s.OnlyLane t l r)
    (bank : r.bank = (s.lane l).bank ∨ r.bank = s.lanes.selected)
    (guard : r.guardInUse = (s.lane l).guardInUse ∨ r.guardInUse = s.lanes.requestedGuard) : t.StatusesTrue := by
  constructor
  · intro hi j hj
    rw [ht.lane, ht.selected]
    have hidle := h.idle (ht.switch ▸ hi) j hj
    split
    · next he => subst he; exact bank.elim (fun hb => hb.trans hidle) id
    · exact hidle
  · intro hi
    rw [ht.status] at hi ⊢
    rw [ht.requested]
    refine ⟨fun j hj => ?_, (h.settled hi).2⟩
    have hsettled := (h.settled hi).1 j hj
    rw [ht.lane]
    split
    · next he => subst he; exact guard.elim (fun hb => hb.trans hsettled) id
    · exact hsettled

theorem State.LanesInPlace.onlyLane {s t : State} {l : Nat} {r : Lane} (h : s.LanesInPlace) (ht : s.OnlyLane t l r)
    (hr : s.LaneFits l r) : t.LanesInPlace := by
  constructor
  · intro j hj
    rw [ht.lane, ht.selected, ht.requested]
    split
    · next he => exact hr.adopted (he ▸ hj)
    · exact h.adopted j hj
  · intro j
    rw [ht.lane]
    split
    · exact hr.receipt
    · exact h.receipt j
  · intro j
    rw [ht.lane]
    split
    · exact hr.period
    · exact h.period j

theorem State.LanesAgree.onlyLane {s t : State} {l : Nat} {r : Lane} (h : s.LanesAgree) (ht : s.OnlyLane t l r)
    (hr : s.LaneFits l r) : t.LanesAgree := by
  obtain ⟨hs, hp⟩ := s.lanesAgree_iff.1 h
  exact t.lanesAgree_iff.2 ⟨hs.onlyLane ht hr.bank hr.guard, hp.onlyLane ht hr⟩

theorem State.LanesAgree.settleLanes {s : State} (h : s.LanesAgree) : s.settleLanes.LanesAgree := by
  obtain ⟨hs, hp⟩ := s.lanesAgree_iff.1 h
  exact State.lanesAgree_iff _ |>.2 ⟨hs.settleLanes, hp.settleLanes⟩

theorem State.onlyLane_setLane (s : State) (l : Nat) (r : Lane) : s.OnlyLane (s.setLane l r) l r :=
  ⟨fun j => s.lane_setLane l j r, rfl, rfl, rfl, rfl⟩

theorem State.OnlyLane.setWaiting {s t : State} {l : Nat} {r : Lane} (h : s.OnlyLane t l r) (j : Nat)
    (w : Option Waiting) : s.OnlyLane (t.setWaiting j w) l r := ⟨h.lane, h.selected, h.requested, h.switch, h.status⟩

/-- A frame placed for the lane can only change its late count (R151). -/
theorem State.OnlyLane.placeFrame {s t : State} {l : Nat} {r : Lane} (h : s.OnlyLane t l r) (f : FixtureFrame) :
    ∃ late, s.OnlyLane (t.placeFrame l f) l { r with late := late } := by
  have hregisters : (t.placeFrame l f).lanes.selected = t.lanes.selected ∧
      (t.placeFrame l f).lanes.requestedGuard = t.lanes.requestedGuard ∧
      (t.placeFrame l f).lanes.switch = t.lanes.switch ∧
      (t.placeFrame l f).lanes.guardStatus = t.lanes.guardStatus := by
    unfold State.placeFrame
    split
    · exact ⟨rfl, rfl, rfl, rfl⟩
    · dsimp only; split <;> exact ⟨rfl, rfl, rfl, rfl⟩
  obtain ⟨hselected, hrequested, hswitch, hstatus⟩ := hregisters
  obtain ⟨-, hothers, late, hlane⟩ := t.placeFrame_effect l f
  refine ⟨late, fun j => ?_, hselected.trans h.selected, hrequested.trans h.requested, hswitch.trans h.switch,
    hstatus.trans h.status⟩
  split
  · next he => subst he; rw [hlane, h.lane, if_pos rfl]
  · next hne => rw [(hothers j hne).2, h.lane, if_neg hne]

theorem State.LanesAgree.toDark {s : State} (h : s.LanesAgree) (l : Nat) {st : LaneState}
    (hst : st = .off ∨ st = .rest ∨ st = .faulted) : (s.toDark l st).LanesAgree := by
  refine State.LanesAgree.settleLanes (h.onlyLane ((s.onlyLane_setLane l _).setWaiting l none) ?_)
  refine ⟨.inr rfl, .inr rfl, fun _ _ => ⟨rfl, rfl⟩, nofun, ?_⟩
  obtain rfl | rfl | rfl := hst <;> simp [Lane.composing]

theorem State.LanesAgree.toSetup {s : State} (h : s.LanesAgree) (l : Nat) (cold : Bool) :
    (s.toSetup l cold).LanesAgree := by
  obtain ⟨late, honly⟩ := (s.onlyLane_setLane l { s.adopted (s.lane l) with
    state := .setup, cold := cold, setupSequence := ((s.lane l).setupSequence + 1) % 16
    retriesLeft := s.settings.retryLimit, receiptTimer := none, periodTimer := none }).placeFrame
    (State.setupFrame (s.setLane l { s.adopted (s.lane l) with
      state := .setup, cold := cold, setupSequence := ((s.lane l).setupSequence + 1) % 16
      retriesLeft := s.settings.retryLimit, receiptTimer := none, periodTimer := none }) l)
  exact State.LanesAgree.settleLanes
    (h.onlyLane honly ⟨.inr rfl, .inr rfl, fun _ _ => ⟨rfl, rfl⟩, nofun, by simp [Lane.composing]⟩)

theorem State.LanesAgree.adopts {s : State} (h : s.LanesAgree) (l : Nat) :
    ((s.setLane l (s.adopted (s.lane l))).settleLanes).LanesAgree := by
  obtain ⟨-, hp⟩ := s.lanesAgree_iff.1 h
  exact State.LanesAgree.settleLanes (h.onlyLane (s.onlyLane_setLane l _)
    ⟨.inr rfl, .inr rfl, fun _ _ => ⟨rfl, rfl⟩, hp.receipt l, hp.period l⟩)

/-! ## All lanes adopt -/

/-- A new selection or request, with the statuses unsettled, is adopted by the lanes that do not compose (R158,
R160). -/
theorem State.LanesAgree.adoptIdle {s t : State} (h : s.LanesAgree) (lanes : t.lanes.lanes = s.lanes.lanes)
    (switch : t.lanes.switch = .switching ∨
      (t.lanes.switch = s.lanes.switch ∧ t.lanes.selected = s.lanes.selected))
    (status : t.lanes.guardStatus = .settling ∨
      (t.lanes.guardStatus = s.lanes.guardStatus ∧ t.lanes.requestedGuard = s.lanes.requestedGuard)) :
    t.adoptIdle.LanesAgree := by
  obtain ⟨hs, hp⟩ := s.lanesAgree_iff.1 h
  have hlane : ∀ l, t.lane l = s.lane l := fun l => by unfold State.lane; rw [lanes]
  obtain ⟨records, hfold, hread⟩ := State.foldl_adoptLane_effect laneNumbers t
  have hread' : ∀ j, (laneNumbers.foldl State.adoptLane t).lane j =
      if j ∈ laneNumbers ∧ (s.lane j).composing = false then t.adopted (s.lane j) else s.lane j := by
    intro j
    rw [hfold]
    exact (hread j).trans (by rw [hlane])
  unfold State.adoptIdle
  refine State.LanesAgree.settleLanes ((State.lanesAgree_iff _).2 ⟨⟨fun hi j hj => ?_, fun hi => ?_⟩,
    ⟨fun j hj hc => ?_, fun j => ?_, fun j => ?_⟩⟩)
  · rw [hread']
    have hsel : (laneNumbers.foldl State.adoptLane t).lanes.selected = t.lanes.selected := by rw [hfold]; rfl
    have hsw : (laneNumbers.foldl State.adoptLane t).lanes.switch = t.lanes.switch := by rw [hfold]; rfl
    rw [hsw] at hi
    rw [hsel]
    obtain hw | ⟨hw, hsame⟩ := switch
    · rw [hw] at hi; cases hi
    · split
      · rfl
      · rw [hsame]; exact hs.idle (hw ▸ hi) j hj
  · have hreq : (laneNumbers.foldl State.adoptLane t).lanes.requestedGuard = t.lanes.requestedGuard := by rw [hfold]; rfl
    have hst : (laneNumbers.foldl State.adoptLane t).lanes.guardStatus = t.lanes.guardStatus := by rw [hfold]; rfl
    rw [hst] at hi ⊢
    rw [hreq]
    obtain hw | ⟨hw, hsame⟩ := status
    · exact absurd hw hi
    · rw [hw] at hi ⊢
      rw [hsame]
      refine ⟨fun j hj => ?_, (hs.settled hi).2⟩
      rw [hread']
      split
      · exact hsame
      · exact (hs.settled hi).1 j hj
  · rw [hread'] at hc ⊢
    have hidle : (s.lane j).composing = false := by split at hc <;> exact hc
    rw [if_pos ⟨hj, hidle⟩, hfold]
    exact ⟨rfl, rfl⟩
  · rw [hread']
    split <;> exact hp.receipt j
  · rw [hread']
    split <;> exact hp.period j

/-- Lanes that are alike agree with the statuses alike. -/
theorem State.LanesAgree.alike {s t : State} (h : s.LanesAgree) (selected : t.lanes.selected = s.lanes.selected)
    (switch : t.lanes.switch = s.lanes.switch) (requested : t.lanes.requestedGuard = s.lanes.requestedGuard)
    (status : t.lanes.guardStatus = s.lanes.guardStatus) (hl : ∀ l, (s.lane l).Alike (t.lane l)) : t.LanesAgree := by
  unfold State.LanesAgree
  simp only [selected, switch, requested, status, Lane.composing, fun l => (hl l).1, fun l => (hl l).2.1,
    fun l => (hl l).2.2.1, fun l => (hl l).2.2.2.1, fun l => (hl l).2.2.2.2]
  exact h

theorem State.LanesAgree.congr {s t : State} (h : s.LanesAgree) (lanes : t.lanes = s.lanes) : t.LanesAgree :=
  h.alike (by rw [lanes]) (by rw [lanes]) (by rw [lanes]) (by rw [lanes])
    fun l => by unfold State.lane; rw [lanes]; exact .refl _

theorem Change.lanesAgree {s t : State} (h : Change s t) (hs : s.LanesAgree) : t.LanesAgree := by
  obtain ⟨-, hp⟩ := s.lanesAgree_iff.1 hs
  cases h with
  | endOfRange => exact hs.congr (by simp [State.endOfRange])
  | lanesKept x selected switch requested status alike => exact hs.alike selected switch requested status alike
  | toDark l st dark => exact hs.toDark l dark
  | toSetup l cold => exact hs.toSetup l cold
  | composes l r composing bank guard period receipt =>
    refine hs.onlyLane (s.onlyLane_setLane l r)
      ⟨.inl bank, .inl guard, fun _ hn => by simp [composing] at hn, fun hr => ?_, by simp [period, composing]⟩
    obtain hn | ⟨he, hc⟩ := receipt
    · simp [hn] at hr
    · have hsetup := hp.receipt l (he ▸ hr)
      simp [Lane.composing, hsetup] at hc
  | receiptTimer l v setup retries =>
    refine hs.onlyLane (s.onlyLane_setLane l _)
      ⟨.inl rfl, .inl rfl, fun hl hc => hp.adopted l hl hc, fun hv => setup.elim (fun hn => ?_) id, hp.period l⟩
    simp [hn] at hv
  | adopts l => exact hs.adopts l
  | settleLanes => exact hs.settleLanes
  | acceptOutputSwitch => exact hs.adoptIdle rfl (.inl rfl) (.inr ⟨rfl, rfl⟩)
  | requestGuard on => exact hs.adoptIdle rfl (.inr ⟨rfl, rfl⟩) (.inl rfl)
  | _ => exact hs.congr (by simp)

/-! ## Settled statuses -/

/-- The banks and guards in use and the statuses are those of s. -/
theorem State.LanesSettled.kept {s t : State} (h : s.LanesSettled) (selected : t.lanes.selected = s.lanes.selected)
    (switch : t.lanes.switch = s.lanes.switch) (requested : t.lanes.requestedGuard = s.lanes.requestedGuard)
    (status : t.lanes.guardStatus = s.lanes.guardStatus) (bank : ∀ l, (t.lane l).bank = (s.lane l).bank)
    (guard : ∀ l, (t.lane l).guardInUse = (s.lane l).guardInUse) : t.LanesSettled := by
  unfold State.LanesSettled
  simp only [selected, switch, requested, status, bank, guard]
  exact h

theorem State.LanesSettled.congr {s t : State} (h : s.LanesSettled) (lanes : t.lanes = s.lanes) : t.LanesSettled :=
  h.kept (by rw [lanes]) (by rw [lanes]) (by rw [lanes]) (by rw [lanes]) (fun l => by unfold State.lane; rw [lanes])
    fun l => by unfold State.lane; rw [lanes]

theorem State.LanesSettled.setLane {s : State} (h : s.LanesSettled) {l : Nat} {r : Lane}
    (bank : r.bank = (s.lane l).bank) (guard : r.guardInUse = (s.lane l).guardInUse) : (s.setLane l r).LanesSettled := by
  refine h.kept rfl rfl rfl rfl (fun j => ?_) fun j => ?_
  · rw [State.lane_setLane]
    split
    · next he => rw [he]; exact bank
    · rfl
  · rw [State.lane_setLane]
    split
    · next he => rw [he]; exact guard
    · rfl

theorem State.adoptIdle_settled (s : State) : s.adoptIdle.LanesSettled := by
  unfold State.adoptIdle; exact State.settleLanes_settled _

theorem Change.lanesSettled {s t : State} (h : Change s t) (hs : s.LanesSettled) : t.LanesSettled := by
  cases h with
  | endOfRange => exact hs.congr (by simp [State.endOfRange])
  | lanesKept x selected switch requested status alike =>
    exact hs.kept selected switch requested status (fun l => (alike l).2.1) fun l => (alike l).2.2.1
  | composes l r _ bank guard => exact hs.setLane bank guard
  | receiptTimer l v => exact hs.setLane rfl rfl
  | toDark l st => unfold State.toDark; exact State.settleLanes_settled _
  | toSetup l cold => unfold State.toSetup; exact State.settleLanes_settled _
  | adopts | settleLanes => exact State.settleLanes_settled _
  | acceptOutputSwitch => exact State.adoptIdle_settled _
  | requestGuard => exact State.adoptIdle_settled _
  | _ => exact hs.congr (by simp)

/-! ## Full resets -/

/-- Every lane that comes up from an image is a lane of some configuration (R164). -/
theorem State.comeUp_lane (s : State) (img : Image) (clock : TowerClock) (image : ImageStore) (l : Nat) :
    ∃ c, (s.comeUp img clock image).lane l = Lane.initial c := by
  refine Table.read_of_forall (p := fun r => ∃ c, r = Lane.initial c) ⟨_, rfl⟩ (fun q hq => ?_) l
  change q ∈ Table.mapVals .blank (fun _ c => Lane.initial c) img.lanes at hq
  obtain ⟨p, _, rfl⟩ := Table.mem_mapVals hq
  exact ⟨_, rfl⟩

theorem Lane.initial_composing (c : LaneConfig) : (Lane.initial c).composing = false := by
  unfold Lane.composing Lane.initial
  cases c.configured <;> rfl

/-- The lanes that come up with guarding off agree with the statuses (R164). -/
theorem State.comeUp_lanesAgree (s : State) (img : Image) (clock : TowerClock) (image : ImageStore)
    (hoff : img.requestedGuard = false) : (s.comeUp img clock image).LanesAgree := by
  have hlane := s.comeUp_lane img clock image
  have hselected : (s.comeUp img clock image).lanes.selected = .bank0 := rfl
  have hrequested : (s.comeUp img clock image).lanes.requestedGuard = false := hoff
  have hstatus : (s.comeUp img clock image).lanes.guardStatus = .disabled := by
    show (if img.requestedGuard then GuardStatus.settling else .disabled) = .disabled
    rw [hoff]; rfl
  have hbank : ∀ l, ((s.comeUp img clock image).lane l).bank = .bank0 := fun l => by
    obtain ⟨c, hc⟩ := hlane l; rw [hc]; rfl
  have hguard : ∀ l, ((s.comeUp img clock image).lane l).guardInUse = false := fun l => by
    obtain ⟨c, hc⟩ := hlane l; rw [hc]; rfl
  refine ⟨fun _ l _ => by rw [hbank, hselected], fun _ => ⟨fun l _ => by rw [hguard, hrequested], by
    rw [hstatus, hrequested]; simp⟩, fun l _ _ => by rw [hbank, hguard, hselected, hrequested]; exact ⟨rfl, rfl⟩,
    fun l hr => ?_, fun l => ?_⟩
  · obtain ⟨c, hc⟩ := hlane l
    rw [hc] at hr
    cases hr
  · obtain ⟨c, hc⟩ := hlane l
    rw [hc, Lane.initial_composing]
    simp [Lane.initial]

/-- With guarding on, the lanes that come up agree once they have adopted (R164, R197). -/
theorem State.comeUp_adoptIdle_lanesAgree (s : State) (img : Image) (clock : TowerClock) (image : ImageStore)
    (hon : img.requestedGuard = true) : (s.comeUp img clock image).adoptIdle.LanesAgree := by
  have hoff := s.comeUp_lanesAgree { img with requestedGuard := false } clock image rfl
  refine hoff.adoptIdle rfl (.inr ⟨rfl, rfl⟩) (.inl ?_)
  show (if img.requestedGuard then GuardStatus.settling else .disabled) = .settling
  rw [hon]; rfl

theorem State.comeUp_lanesSettled (s : State) (img : Image) (clock : TowerClock) (image : ImageStore)
    (hoff : img.requestedGuard = false) : (s.comeUp img clock image).LanesSettled := by
  refine ⟨fun _ => rfl, fun _ => ?_⟩
  show (if img.requestedGuard then GuardStatus.settling else .disabled) ≠ .settling
  rw [hoff]
  simp

/-- A full reset leaves the lanes as its events leave those that come up; what holds of them with guarding off, and of
the adopted ones with guarding on, and is kept by every change, holds after it (R197). -/
theorem State.fullReset_of_comeUp {P : State → Prop} (hP : ∀ s t, Change s t → P s → P t) (s : State) (clock : TowerClock)
    (causes : ResetCauses)
    (off : ∀ img image, img.requestedGuard = false → P (s.comeUp img clock image))
    (on : ∀ img image, img.requestedGuard = true → P (s.comeUp img clock image).adoptIdle) :
    P (s.fullReset clock causes) := by
  have hguard : ∀ img image, P (s.comeUp img clock image).restoreGuard := by
    intro img image
    unfold State.restoreGuard
    cases hr : img.requestedGuard with
    | false =>
      rw [if_neg (by show ¬ img.requestedGuard = true; rw [hr]; decide)]
      exact off img image hr
    | true =>
      rw [if_pos (by exact hr)]
      exact (Changes.wakeGuarded _).keeps hP (on img image hr)
  unfold State.fullReset State.resumeIfTime
  split
  · exact hP _ _ (.beginBuild _) (hguard _ _)
  · exact hguard _ _

theorem Effect.lanesAgree {s t : State} {c : Instr} (h : Effect s c t) (hs : s.LanesAgree) : t.LanesAgree := by
  have hkeeps : ∀ {u v : State}, Changes u v → u.LanesAgree → v.LanesAgree :=
    fun h => h.keeps (P := State.LanesAgree) fun _ _ hc => hc.lanesAgree
  cases h with
  | changes h => exact hkeeps h hs
  | advance _ h => exact hkeeps h (hs.congr (by simp))
  | reset _ _ =>
    exact State.fullReset_of_comeUp (fun _ _ hc => hc.lanesAgree) _ _ _
      (fun _ _ => State.comeUp_lanesAgree _ _ _ _) fun _ _ => State.comeUp_adoptIdle_lanesAgree _ _ _ _
  | answered _ h => exact (hkeeps h (hs.congr (by simp))).congr (by simp)

theorem Effect.lanesSettled {s t : State} {c : Instr} (h : Effect s c t) (hs : s.LanesSettled) : t.LanesSettled := by
  have hkeeps : ∀ {u v : State}, Changes u v → u.LanesSettled → v.LanesSettled :=
    fun h => h.keeps (P := State.LanesSettled) fun _ _ hc => hc.lanesSettled
  cases h with
  | changes h => exact hkeeps h hs
  | advance _ h => exact hkeeps h (hs.congr (by simp))
  | reset _ _ =>
    exact State.fullReset_of_comeUp (fun _ _ hc => hc.lanesSettled) _ _ _
      (fun _ _ => State.comeUp_lanesSettled _ _ _ _) fun _ _ _ => State.settleLanes_settled _
  | answered _ h => exact (hkeeps h (hs.congr (by simp))).congr (by simp)

/-- Settles O59: each change that can make a status untrue, or late, is followed by settling. -/
theorem stepsKeepLanesInAgreement : Obligations.StepsKeepLanesInAgreement := by
  refine ⟨fun s t hs ht => ?_, fun s t hs ht => ?_⟩
  · obtain rfl | ⟨c, rest, _, he⟩ := step_effect ht
    · exact hs
    · exact he.lanesAgree hs
  · obtain rfl | ⟨c, rest, _, he⟩ := step_effect ht
    · exact hs
    · exact he.lanesSettled hs

end Sys2Proof.Machine
end

section
/-! SUPPORT. The playing counts stay the numbers of slots that play the shows, and a slot plays only a READY show (03,
04). -/

namespace Sys2Proof.Machine

/-! ## Counting the slots that play a show -/

/-- Slot k plays show sh. -/
def State.plays (s : State) (sh k : Nat) : Bool := (s.slot k).any (fun p => decide (p.showNo = sh))

/-- The number of slots that play a show, slot by slot. -/
theorem State.slotsPlaying_eq (s : State) (sh : Nat) : s.slotsPlaying sh =
    (s.plays sh 0).toNat + (s.plays sh 1).toNat + (s.plays sh 2).toNat + (s.plays sh 3).toNat := by
  show slotNumbers.countP (s.plays sh) = _
  simp only [slotNumbers, List.countP_cons, List.countP_nil]
  cases s.plays sh 0 <;> cases s.plays sh 1 <;> cases s.plays sh 2 <;> cases s.plays sh 3 <;> rfl

/-- When one slot changes, the numbers of slots that play a show differ as that slot does. -/
theorem State.slotsPlaying_update {s t : State} {k : Nat} (hk : k < 4) (h : ∀ j, j ≠ k → t.slot j = s.slot j) (sh : Nat) :
    t.slotsPlaying sh + (s.plays sh k).toNat = s.slotsPlaying sh + (t.plays sh k).toNat := by
  have hp : ∀ j, j ≠ k → t.plays sh j = s.plays sh j := fun j hj => by unfold State.plays; rw [h j hj]
  rw [State.slotsPlaying_eq, State.slotsPlaying_eq]
  have hcases : k = 0 ∨ k = 1 ∨ k = 2 ∨ k = 3 := by omega
  obtain rfl | rfl | rfl | rfl := hcases
  · rw [hp 1 (by decide), hp 2 (by decide), hp 3 (by decide)]; omega
  · rw [hp 0 (by decide), hp 2 (by decide), hp 3 (by decide)]; omega
  · rw [hp 0 (by decide), hp 1 (by decide), hp 3 (by decide)]; omega
  · rw [hp 0 (by decide), hp 1 (by decide), hp 2 (by decide)]; omega

theorem State.slotsPlaying_pos {s : State} {k : Nat} {p : Playback} (hk : k < 4) (hp : s.slot k = some p) :
    0 < s.slotsPlaying p.showNo :=
  List.countP_pos_iff.2 ⟨k, by simp only [slotNumbers, List.mem_cons, List.not_mem_nil]; omega, by simp [hp]⟩

/-! ## The parts of the invariant -/

/-- The slots are the four, no more are listed (R58). -/
def State.FourSlots (s : State) : Prop := ∀ p ∈ s.playback.slots, p.1 < 4

theorem State.FourSlots.lt {s : State} (h : s.FourSlots) {k : Nat} (hk : s.slot k ≠ none) : k < 4 :=
  h _ (Table.mem_of_read hk)

theorem State.FourSlots.congr {s t : State} (h : s.FourSlots) (slots : t.playback.slots = s.playback.slots) :
    t.FourSlots := by unfold State.FourSlots; rw [slots]; exact h

theorem State.FourSlots.setSlot {s : State} (h : s.FourSlots) (k : Nat) (p : Option Playback)
    (hk : p ≠ none → k < 4) : (s.setSlot k p).FourSlots := by
  intro q hq
  change q ∈ Table.write none s.playback.slots k p at hq
  cases p with
  | none =>
    have hmem : q ∈ s.playback.slots ∧ ¬ q.1 = k := by simpa [Table.write, Table.drop] using hq
    exact h q hmem.1
  | some p =>
    obtain rfl | hq := Table.mem_write hq
    · exact hk nofun
    · exact h q hq

/-- A directory whose counts and states are kept, with slots that play what they played. -/
theorem State.PlayingCounts.kept {s t : State} (h : s.PlayingCounts) (four : t.FourSlots)
    (slots : ∀ k, (t.slot k).map Playback.showNo = (s.slot k).map Playback.showNo)
    (playing : ∀ sh, (t.showRecord sh).playing = (s.showRecord sh).playing)
    (ready : ∀ k p, s.slot k = some p → t.showReady p.showNo = true) (image : t.image.Silent) : t.PlayingCounts := by
  obtain ⟨_, hcount, _, _⟩ := h
  have hplays : ∀ sh k, t.plays sh k = s.plays sh k := by
    intro sh k
    have := congrArg (fun o => o.any (fun n => decide (n = sh))) (slots k)
    simpa only [State.plays, Option.any_map, Function.comp_def] using this
  refine ⟨four, fun sh => ?_, fun k p hp => ?_, image⟩
  · rw [playing, hcount]
    exact (congrArg slotNumbers.countP (funext (hplays sh))).symm
  · have hk := slots k
    rw [hp] at hk
    obtain ⟨q, hq, hn⟩ := Option.map_eq_some_iff.1 hk.symm
    rw [← hn]
    exact ready k q hq

theorem State.PlayingCounts.congr {s t : State} (h : s.PlayingCounts) (slots : t.playback.slots = s.playback.slots)
    (shows : t.cueStore.shows = s.cueStore.shows) (image : t.image = s.image) : t.PlayingCounts := by
  unfold State.PlayingCounts State.slotsPlaying State.showReady State.showRecord State.slot
  rw [slots, shows, image]
  exact h

/-- A show whose record changes without its playing count, and becomes READY or plays in no slot. -/
theorem State.PlayingCounts.setShow {s t : State} (h : s.PlayingCounts) (sh : Nat) {r : ShowRecord}
    (slots : t.playback = s.playback) (image : t.image = s.image)
    (records : ∀ j, t.showRecord j = if j = sh then r else s.showRecord j)
    (playing : r.playing = (s.showRecord sh).playing)
    (ready : r.state.readyRun.isSome = true ∨ s.showReady sh = false ∨ (s.showRecord sh).playing = 0) :
    t.PlayingCounts := by
  obtain ⟨hfour, hcount, hready, himage⟩ := id h
  have hslot : ∀ k, t.slot k = s.slot k := fun k => by unfold State.slot; rw [slots]
  refine h.kept (State.FourSlots.congr hfour (by rw [slots])) (fun k => by rw [hslot]) (fun j => ?_)
    (fun k p hp => ?_) (by rw [image]; exact himage)
  · rw [records]; split
    · next hj => rw [hj, playing]
    · rfl
  · unfold State.showReady
    rw [records]; split
    · next hj =>
      obtain hr | hr | hr := ready
      · exact hr
      · exact absurd (hj ▸ hready k p hp) (by simp [hr])
      · have := State.slotsPlaying_pos (State.FourSlots.lt hfour (by simp [hp])) hp
        rw [← hcount, hj] at this
        omega
    · exact hready k p hp

/-! ## Slots started and freed -/

theorem State.slot_dropLayers (s : State) (k j : Nat) : (s.dropLayers k).slot j = s.slot j := by
  unfold State.slot; simp

theorem State.slot_release (s : State) {k j : Nat} (h : j ≠ k) : (s.release k).slot j = s.slot j := by
  unfold State.release
  split
  · rfl
  · rw [State.slot_allFreeEvent, State.slot_slotFreed, State.slot_setSlot, if_neg h, State.slot_dropLayers]

/-- The playing counts after a release: that of the slot's show falls (R45, R75). -/
theorem State.playing_release {s : State} {k : Nat} {p : Playback} (hp : s.slot k = some p) (sh : Nat) :
    ((s.release k).showRecord sh).playing = (s.showRecord sh).playing - (s.plays sh k).toNat := by
  unfold State.release State.plays
  simp only [hp, State.showRecord_allFreeEvent, State.showRecord_slotFreed, State.showRecord_setSlot,
    State.showRecord_dropLayers, Option.any_some]
  split
  · next h => subst h; simp
  · next h => simp [Ne.symm h]

theorem State.FourSlots.release {s : State} (h : s.FourSlots) (k : Nat) : (s.release k).FourSlots := by
  unfold State.release
  split
  · exact h
  · have hdropped : (s.dropLayers k).FourSlots := h.congr (by simp)
    exact (hdropped.setSlot k none nofun).congr (by simp)

theorem State.PlayingCounts.release {s : State} (h : s.PlayingCounts) (k : Nat) : (s.release k).PlayingCounts := by
  cases hk : s.slot k with
  | none => simpa [State.release, hk] using h
  | some p =>
    obtain ⟨hfour, hcount, hready, himage⟩ := id h
    have hlt := State.FourSlots.lt hfour (k := k) (by simp [hk])
    refine ⟨State.FourSlots.release hfour k, fun sh => ?_, fun j q hq => ?_, by simpa using himage⟩
    · have hupdate := State.slotsPlaying_update hlt (fun j hj => s.slot_release hj) sh
      have hfree : (s.release k).plays sh k = false := by simp [State.plays]
      rw [hfree] at hupdate
      rw [State.playing_release hk, hcount]
      simp only [Bool.toNat_false, Nat.add_zero] at hupdate
      omega
    · have hj : j ≠ k := by rintro rfl; simp at hq
      rw [State.showReady_release]
      exact hready j q ((s.slot_release hj).symm.trans hq)

theorem State.PlayingCounts.slotFilled {s : State} (h : s.PlayingCounts) {k : Nat} {p : Playback} (hk : k < 4)
    (free : s.slot k = none) (ready : s.showReady p.showNo = true) :
    ((s.setSlot k (some p)).slotStarted p.showNo).PlayingCounts := by
  obtain ⟨hfour, hcount, hready, himage⟩ := h
  have hslot : ∀ j, ((s.setSlot k (some p)).slotStarted p.showNo).slot j = if j = k then some p else s.slot j :=
    fun j => by rw [State.slot_slotStarted, State.slot_setSlot]
  have hstate : ∀ j, ((s.setSlot k (some p)).slotStarted p.showNo).showReady j = s.showReady j := by
    intro j
    unfold State.showReady
    rw [State.showRecord_slotStarted]
    split
    · next he => subst he; rfl
    · rfl
  refine ⟨?_, fun sh => ?_, fun j q hq => ?_, himage⟩
  · have := State.FourSlots.setSlot hfour k (some p) fun _ => hk
    exact this
  · have hupdate := State.slotsPlaying_update (s := s) hk (fun j hj => by rw [hslot, if_neg hj]) sh
    simp only [State.plays, hslot, free, if_pos, Option.any_none, Option.any_some, Bool.toNat_false, Nat.add_zero]
      at hupdate
    rw [State.showRecord_slotStarted, hupdate]
    simp only [State.showRecord_setSlot]
    split
    · next he => subst he; simp [hcount]
    · next hne => simp [Ne.symm hne, hcount]
  · rw [hstate]
    rw [hslot] at hq
    split at hq
    · cases hq; exact ready
    · exact hready j q hq

/-! ## Images -/

theorem ShowRecord.saved_playing (r : ShowRecord) : r.saved.playing = 0 := by
  unfold ShowRecord.saved
  split <;> rfl

/-- A snapshot holds no playing count (R192). -/
theorem State.snapshot_silent (s : State) : s.snapshot.Silent := by
  intro q hq
  obtain ⟨p, _, rfl⟩ := Table.mem_mapVals (f := fun _ r => ShowRecord.saved r) hq
  exact ShowRecord.saved_playing _

theorem Image.Silent.playing {i : Image} (h : i.Silent) (sh : Nat) : (Table.read .blank i.shows sh).playing = 0 :=
  Table.read_of_forall (p := fun r : ShowRecord => r.playing = 0) rfl h sh

theorem State.fullReset_shows (s : State) (clock : TowerClock) (causes : ResetCauses) :
    (s.fullReset clock causes).cueStore.shows = s.image.storedAtReset.restored.shows ∧
      (s.fullReset clock causes).playback.slots = [] := by
  simp [State.fullReset, State.comeUp]

theorem State.PlayingCounts.fullReset {s : State} (h : s.PlayingCounts) (clock : TowerClock) (causes : ResetCauses) :
    (s.fullReset clock causes).PlayingCounts := by
  obtain ⟨_, _, _, himage⟩ := h
  obtain ⟨hshows, hslots⟩ := s.fullReset_shows clock causes
  have hsilent : s.image.storedAtReset.restored.Silent := by
    obtain hd | ⟨img, hi, he⟩ := s.image.restored_eq
    · rw [hd]; exact fun p hp => absurd hp (by simp [Image.defaults])
    · rw [he]; exact himage.1 img hi
  have hslot : ∀ k, (s.fullReset clock causes).slot k = none := fun k => by unfold State.slot; rw [hslots]; rfl
  refine ⟨by rw [hslots]; simp, fun sh => ?_, fun k p hp => by simp [hslot] at hp, ?_⟩
  · rw [State.slotsPlaying_eq]
    simp only [State.plays, hslot, Option.any_none, Bool.toNat_false, State.showRecord, hshows]
    exact hsilent.playing sh
  · rw [State.fullReset_image]
    exact ⟨fun img hi => himage.1 img (ImageStore.restored_stored hi), fun img begun hi =>
      absurd hi ImageStore.restored_state⟩

/-! ## Steps -/

theorem Change.playingCounts {s t : State} (h : Change s t) (hs : s.PlayingCounts) : t.PlayingCounts := by
  obtain ⟨hfour, hcount, hready, hstored, hsaving⟩ := id hs
  cases h with
  | endOfRange => exact hs.congr (by simp [State.endOfRange]) (by simp [State.endOfRange]) (by simp [State.endOfRange])
  | allocateShow sh base count idle =>
    refine hs.setShow sh rfl rfl (fun j => State.showRecord_setShow s sh j _) rfl (.inr ?_)
    exact idle.imp_left fun hr => by simp [State.showReady, hr]
  | closed sh base count => exact hs.setShow sh rfl rfl (fun j => State.showRecord_setShow s sh j _) rfl (.inl rfl)
  | deleted sh idle =>
    exact hs.setShow sh rfl rfl (fun j => State.showRecord_setShow s sh j _) rfl (.inr (.inr idle))
  | writeCueRecords i rs => exact hs.congr rfl rfl rfl
  | startsCounted x slots => exact hs.congr slots rfl rfl
  | slotGoesOn k p q was same =>
    have hlt := State.FourSlots.lt hfour (k := k) (by simp [was])
    refine hs.kept (State.FourSlots.setSlot hfour k _ fun _ => hlt) (fun j => ?_) (fun _ => rfl) hready ⟨hstored, hsaving⟩
    rw [State.slot_setSlot]
    split
    · next he => rw [he, was]; exact congrArg some same
    · rfl
  | release k => exact hs.release k
  | slotFilled k p slot free ready => exact hs.slotFilled slot free ready
  | beginSave =>
    exact ⟨hfour, hcount, hready, nofun, by rintro img begun ⟨⟩; exact s.snapshot_silent⟩
  | saveEnds snapshot begun saving =>
    exact ⟨hfour, hcount, hready, by rintro img ⟨⟩; exact hsaving _ _ saving, nofun⟩
  | saveFails => exact ⟨hfour, hcount, hready, nofun, nofun⟩
  | causes c => exact ⟨hfour, hcount, hready, hstored, hsaving⟩
  | _ => exact hs.congr (by simp) (by simp) (by simp)

theorem Changes.playingCounts {s t : State} (h : Changes s t) (hs : s.PlayingCounts) : t.PlayingCounts :=
  h.keeps (P := State.PlayingCounts) (fun _ _ hc => hc.playingCounts) hs

theorem Effect.playingCounts {s t : State} {c : Instr} (h : Effect s c t) (hs : s.PlayingCounts) : t.PlayingCounts := by
  cases h with
  | changes h => exact h.playingCounts hs
  | advance _ h => exact h.playingCounts (hs.congr (t := s.countRunClock) (by simp) (by simp) (by simp))
  | reset _ h => exact (h.playingCounts hs).fullReset _ _
  | answered _ h =>
    exact (h.playingCounts (hs.congr (t := s.atTake) (by simp) (by simp) (by simp))).congr (by simp) (by simp) (by simp)

/-- Settles O57: a count moves with the slots, only a show that plays in no slot leaves READY, and an image is silent. -/
theorem stepsKeepPlayingCounts : Obligations.StepsKeepPlayingCounts := by
  intro s t hs ht
  obtain rfl | ⟨c, rest, _, he⟩ := step_effect ht
  · exact hs
  · exact he.playingCounts hs

end Sys2Proof.Machine
end

section
/-! SUPPORT. Every table stays in its canonical form (log entry 21), block by block. -/

namespace Sys2Proof.Machine

/-! ## The blocks' tables -/

def CueStore.Canonical (x : CueStore) : Prop := Table.wf .blank x.shows = true ∧ Table.wf none x.cues = true

def ZoneMixer.Canonical (x : ZoneMixer) : Prop :=
  (Table.wf .blank x.zones = true ∧ ∀ p ∈ x.zones, Table.wf none p.2.layers = true) ∧ Table.wf .black x.live = true ∧
    Table.wf .blank x.bands = true

def ImageStore.Canonical (x : ImageStore) : Prop :=
  (∀ img, x.stored = .image img → img.Canonical) ∧ ∀ img begun, x.state = .saving img begun → img.Canonical

/-- The state's tables, block by block. -/
theorem State.canonical_iff (s : State) : s.Canonical ↔
    Table.wf .blank s.calendar.entries = true ∧ s.cueStore.Canonical ∧ Table.wf none s.playback.slots = true ∧
      s.mixer.Canonical ∧ s.ingress.Canonical ∧ s.lanes.Canonical ∧ Table.wf none s.faults.records = true ∧
      s.image.Canonical := by
  simp only [State.Canonical, CueStore.Canonical, ZoneMixer.Canonical, IngressProcessor.Canonical,
    LaneController.Canonical, ImageStore.Canonical, and_assoc]

/-! ## Calendar, cue store and slots -/

theorem State.recomputeIfHead_entries (s : State) (old : Option (Nat × TowerTime × Nat × Nat)) :
    (s.recomputeIfHead old).calendar.entries = s.calendar.entries := by
  unfold State.recomputeIfHead; split <;> rfl

theorem Change.entriesCanonical {s t : State} (h : Change s t) (hs : Table.wf .blank s.calendar.entries = true) :
    Table.wf .blank t.calendar.entries = true := by
  cases h with
  | endOfRange => simpa [State.endOfRange, State.timeLossEvent] using hs
  | fireEntry it => exact Table.wf_write _ _ _ _ hs
  | beginBuild g => unfold State.beginBuild; split <;> exact hs
  | rebuildRequest g =>
    unfold State.rebuildRequest State.beginBuild
    split
    · exact hs
    · split <;> exact hs
    · split <;> exact hs
  | replaceEntry i e =>
    unfold State.replaceEntry
    dsimp only
    rw [State.recomputeIfHead_entries]
    exact Table.wf_write _ _ _ _ hs
  | release k =>
    unfold State.release State.allFreeEvent
    split
    · exact hs
    · split <;> simpa using hs
  | timeLossEvent | restTimer | wakeStopped | recomputeWake | installed | buildEnded | blockResetCalendar => exact hs
  | _ => simpa using hs

theorem CueStore.Canonical.setShow {s : State} (h : s.cueStore.Canonical) (i : Nat) (r : ShowRecord) :
    (s.setShow i r).cueStore.Canonical := ⟨Table.wf_write _ _ _ _ h.1, h.2⟩

/-- Records written from an index on are written one by one (R50). -/
theorem writeCueRecords_canonical (rs : List CueRecord) (p : Table (Option CueRecord) × Nat)
    (h : Table.wf none p.1 = true) :
    Table.wf none (rs.foldl (fun p r => (Table.write none p.1 p.2 (some r), p.2 + 1)) p).1 = true := by
  induction rs generalizing p with
  | nil => exact h
  | cons r rs ih => exact ih (Table.write none p.1 p.2 (some r), p.2 + 1) (Table.wf_write none p.1 p.2 (some r) h)

theorem Change.cueStoreCanonical {s t : State} (h : Change s t) (hs : s.cueStore.Canonical) : t.cueStore.Canonical := by
  cases h with
  | endOfRange => simpa [State.endOfRange] using hs
  | allocateShow sh base count =>
    simp only [State.allocateShow, State.withCueStore_cueStore, CueStore.Canonical]
    exact ⟨Table.wf_write _ _ _ _ hs.1, Table.wf_keep _ _ _ hs.2⟩
  | writeCueRecords i rs => exact ⟨hs.1, writeCueRecords_canonical rs _ hs.2⟩
  | closed sh base count => exact hs.setShow sh _
  | deleted sh => exact hs.setShow sh _
  | release k =>
    unfold State.release
    split
    · exact hs
    · have hdropped : ((s.dropLayers k).setSlot k none).cueStore.Canonical := by simpa using hs
      simpa [State.slotFreed] using hdropped.setShow _ _
  | slotFilled k p => exact CueStore.Canonical.setShow (s := s.setSlot k (some p)) hs _ _
  | _ => simpa using hs

theorem State.setSlot_slots (s : State) (k : Nat) (p : Option Playback) :
    (s.setSlot k p).playback.slots = Table.write none s.playback.slots k p := rfl

theorem Change.slotsCanonical {s t : State} (h : Change s t) (hs : Table.wf none s.playback.slots = true) :
    Table.wf none t.playback.slots = true := by
  cases h with
  | endOfRange => simpa [State.endOfRange] using hs
  | startsCounted x slots => rw [State.withPlayback_playback, slots]; exact hs
  | slotGoesOn k p q => rw [State.setSlot_slots]; exact Table.wf_write _ _ _ _ hs
  | release k =>
    unfold State.release
    split
    · exact hs
    · have hdropped : Table.wf none (s.dropLayers k).playback.slots = true := by simpa using hs
      simpa [State.setSlot] using Table.wf_write none _ k none hdropped
  | slotFilled k p => simpa [State.setSlot_slots] using Table.wf_write none _ k (some p) hs
  | _ => simpa using hs

/-! ## Zones, sources and lanes -/

theorem ZoneMixer.Canonical.setZone {s : State} (h : s.mixer.Canonical) (z : Nat) {r : Zone}
    (hr : Table.wf none r.layers = true) : (s.setZone z r).mixer.Canonical :=
  ⟨⟨Table.wf_write _ _ _ _ h.1.1, Table.forall_write (p := fun r : Zone => Table.wf none r.layers = true) z hr h.1.2⟩,
    h.2⟩

theorem ZoneMixer.Canonical.layers {s : State} (h : s.mixer.Canonical) (z : Nat) :
    Table.wf none (s.zone z).layers = true :=
  Table.read_of_forall (p := fun r : Zone => Table.wf none r.layers = true) rfl h.1.2 z

theorem ZoneMixer.Canonical.putLayer {s : State} (h : s.mixer.Canonical) (k z : Nat) (l : Layer) :
    (s.putLayer k z l).mixer.Canonical := by
  have hlayers := Table.wf_write none _ k (some l) (h.layers z)
  unfold State.putLayer
  dsimp only
  split
  · exact h.setZone z hlayers
  · split <;> exact h.setZone z hlayers

theorem ZoneMixer.Canonical.dropLayer {s : State} (h : s.mixer.Canonical) (k z : Nat) (d : Int) :
    (s.dropLayer k d z).mixer.Canonical := by
  have hlayers := Table.wf_write none _ k none (h.layers z)
  unfold State.dropLayer
  dsimp only
  split
  · exact h
  · split <;> exact h.setZone z hlayers

theorem ZoneMixer.Canonical.dropLayers {s : State} (h : s.mixer.Canonical) (k : Nat) :
    (s.dropLayers k).mixer.Canonical := by
  unfold State.dropLayers
  generalize s.now = d
  induction zoneNumbers generalizing s with
  | nil => exact h
  | cons z zs ih => exact ih (h.dropLayer k z s.now)

theorem ZoneMixer.Canonical.mapLayers {s : State} (h : s.mixer.Canonical) (f : Nat → Layer → Layer) :
    (s.mapLayers f).mixer.Canonical := by
  simp only [State.mapLayers, State.withMixer_mixer, ZoneMixer.Canonical]
  refine ⟨⟨Table.wf_mapVals _ _ _ _ h.1.1, fun q hq => ?_⟩, h.2⟩
  obtain ⟨p, hp, rfl⟩ := Table.mem_mapVals
    (f := fun z (r : Zone) => { r with layers := Table.mapVals none (fun _ (l : Option Layer) => l.map (f z)) r.layers }) hq
  exact Table.wf_mapVals none none (fun _ (l : Option Layer) => l.map (f p.1)) p.2.layers (h.1.2 p hp)

theorem State.idleSource_canonical {s : State} (h : s.mixer.Canonical ∧ s.ingress.Canonical) (i : Nat) :
    (s.idleSource i).mixer.Canonical ∧ (s.idleSource i).ingress.Canonical := by
  obtain ⟨hmixer, ⟨hsources, hsequences⟩, hbanks⟩ := h
  have hset : (s.setSource i { s.source i with state := .idle, timer := none, sequences := [] }).ingress.Canonical :=
    ⟨⟨Table.wf_write _ _ _ _ hsources,
      Table.forall_write (p := fun x : Source => Table.wf none x.sequences = true) i rfl hsequences⟩, hbanks⟩
  refine ⟨?_, by simpa [State.idleSource] using hset⟩
  unfold State.idleSource State.lossIfLive
  split
  · exact ZoneMixer.Canonical.mapLayers (s := s.setSource i _) hmixer _
  · exact hmixer

theorem State.completeSwitch_canonical {s : State} (h : s.mixer.Canonical ∧ s.ingress.Canonical) :
    s.completeSwitch.mixer.Canonical ∧ s.completeSwitch.ingress.Canonical := by
  unfold State.completeSwitch
  split
  · exact h
  · exact h

theorem State.blockResetIngress_canonical {s : State} (h : s.mixer.Canonical ∧ s.ingress.Canonical) :
    s.blockResetIngress.mixer.Canonical ∧ s.blockResetIngress.ingress.Canonical := by
  have hidled : ∀ (l : List Nat) (u : State), u.mixer.Canonical ∧ u.ingress.Canonical →
      (l.foldl State.idleSource u).mixer.Canonical ∧ (l.foldl State.idleSource u).ingress.Canonical := by
    intro l
    induction l with
    | nil => exact fun _ hu => hu
    | cons i l ih => exact fun u hu => ih _ (State.idleSource_canonical hu i)
  have hall := hidled sourceNumbers (s.withIngress { s.ingress with queue := [], processing := none }) ⟨h.1, h.2⟩
  unfold State.blockResetIngress
  dsimp only
  generalize sourceNumbers.foldl State.idleSource _ = idled at hall
  obtain ⟨⟨hzones, _, hbands⟩, hingress⟩ := hall
  exact State.completeSwitch_canonical ⟨⟨hzones, rfl, hbands⟩, hingress⟩

theorem Change.mixerIngressCanonical {s t : State} (h : Change s t) (hs : s.mixer.Canonical ∧ s.ingress.Canonical) :
    t.mixer.Canonical ∧ t.ingress.Canonical := by
  obtain ⟨hmixer, hingress⟩ := id hs
  cases h with
  | endOfRange => simpa [State.endOfRange] using hs
  | release k =>
    refine ⟨?_, by simpa using hingress⟩
    unfold State.release
    split
    · exact hmixer
    · simpa using hmixer.dropLayers k
  | putLayer k z l => exact ⟨hmixer.putLayer k z l, by simpa using hingress⟩
  | dropLayer k d z => exact ⟨hmixer.dropLayer k z d, by simpa using hingress⟩
  | zoneKept z r _ layers => exact ⟨hmixer.setZone z (by rw [layers]; exact hmixer.layers z), hingress⟩
  | sourceLoss i => exact ⟨hmixer.mapLayers _, hingress⟩
  | sourceReturn i => exact ⟨hmixer.mapLayers _, hingress⟩
  | liveOrBands x zones live bands =>
    obtain ⟨hzones, hlive, hbands⟩ := hmixer
    exact ⟨⟨by rw [State.withMixer_mixer, zones]; exact hzones, live hlive, bands hbands⟩, hingress⟩
  | ingress x _ _ canonical => exact ⟨hmixer, canonical hingress⟩
  | blockResetIngress => exact State.blockResetIngress_canonical hs
  | _ => simpa using hs

theorem LaneController.Canonical.setLane {s : State} (h : s.lanes.Canonical) (l : Nat) (r : Lane) :
    (s.setLane l r).lanes.Canonical := ⟨Table.wf_write _ _ _ _ h.1, h.2⟩

theorem LaneController.Canonical.setWaiting {s : State} (h : s.lanes.Canonical) (l : Nat) (w : Option Waiting) :
    (s.setWaiting l w).lanes.Canonical := by
  obtain ⟨hlanes, h0, h1, hguards, hwaiting⟩ := h
  exact ⟨hlanes, h0, h1, hguards, Table.wf_write _ _ _ _ hwaiting⟩

theorem LaneController.Canonical.settleLanes {s : State} (h : s.lanes.Canonical) : s.settleLanes.lanes.Canonical := by
  obtain ⟨switch, status, he, _⟩ := State.settleLanes_effect s
  rw [he]
  exact h

theorem LaneController.Canonical.placeFrame {s : State} (h : s.lanes.Canonical) (l : Nat) (f : FixtureFrame) :
    (s.placeFrame l f).lanes.Canonical := by
  unfold State.placeFrame
  split
  · exact h.setWaiting l _
  · dsimp only
    split
    · exact (h.setWaiting l _).setLane l _
    · exact h.setWaiting l _

theorem LaneController.Canonical.adoptIdle {s : State} (h : s.lanes.Canonical) : s.adoptIdle.lanes.Canonical := by
  have hfold : ∀ (ls : List Nat) (u : State), u.lanes.Canonical → (ls.foldl State.adoptLane u).lanes.Canonical := by
    intro ls
    induction ls with
    | nil => exact fun _ hu => hu
    | cons l ls ih =>
      refine fun u hu => ih _ ?_
      unfold State.adoptLane
      split
      · exact hu
      · exact hu.setLane l _
  exact (hfold laneNumbers s h).settleLanes

theorem Change.lanesCanonical {s t : State} (h : Change s t) (hs : s.lanes.Canonical) : t.lanes.Canonical := by
  cases h with
  | endOfRange => simpa [State.endOfRange] using hs
  | lanesKept x _ _ _ _ _ canonical => exact canonical hs
  | toDark l st => exact ((hs.setLane l _).setWaiting l none).settleLanes
  | toSetup l cold => exact ((hs.setLane l _).placeFrame l _).settleLanes
  | composes l r => exact hs.setLane l r
  | receiptTimer l v => exact hs.setLane l _
  | adopts l => exact (hs.setLane l _).settleLanes
  | settleLanes => exact hs.settleLanes
  | acceptOutputSwitch => exact LaneController.Canonical.adoptIdle (s := s.withLanes _) hs
  | requestGuard on => exact LaneController.Canonical.adoptIdle (s := s.withLanes _) hs
  | _ => simpa using hs

/-! ## Faults and images -/

theorem State.recordFault_canonical {s : State} (h : Table.wf none s.faults.records = true) (k : FaultKind) :
    Table.wf none (s.recordFault k).faults.records = true := by
  obtain ⟨_, hf⟩ | ⟨_, i, _, alert, hf⟩ | ⟨_, _, alert, hf⟩ := s.recordFault_cases k
  · rw [hf]; exact h
  · rw [hf]; exact Table.wf_write _ _ i (some ⟨k, s.now, s.towerTime⟩) h
  · rw [hf]; exact h

theorem State.quietAlert_records (s : State) : s.quietAlert.faults.records = s.faults.records := by
  unfold State.quietAlert; split <;> rfl

theorem Change.faultsCanonical {s t : State} (h : Change s t) (hs : Table.wf none s.faults.records = true) :
    Table.wf none t.faults.records = true := by
  cases h with
  | endOfRange =>
    simpa [State.endOfRange] using State.recordFault_canonical (s := s.withTime
      { s.time with clock := .unset, remainder := 0, lossTimer := none }) hs .timeLost
  | recordFault k => exact State.recordFault_canonical hs k
  | sendPendingAlert => unfold State.sendPendingAlert; split <;> simpa using hs
  | clearIfPresent i =>
    unfold State.clearIfPresent State.clearFaultRecord
    split <;> rw [State.quietAlert_records]
    · exact Table.wf_write _ _ i none hs
    · exact hs
  | clearFaultOverflow => unfold State.clearFaultOverflow; rw [State.quietAlert_records]; exact hs
  | resetFaults => rfl
  | _ => simpa using hs

/-- A snapshot of a canonical state is canonical. -/
theorem State.Canonical.snapshot {s : State} (h : s.Canonical) : s.snapshot.Canonical := by
  obtain ⟨hentries, ⟨hshows, hcues⟩, _, ⟨⟨hzones, _⟩, _, hbands⟩, ⟨⟨hsources, _⟩, hin0, hin1⟩,
    ⟨hlanes, hout0, hout1, hguards, _⟩, _, _⟩ := s.canonical_iff.1 h
  simp only [Image.Canonical, State.snapshot]
  refine ⟨Table.wf_mapVals _ _ _ _ hentries, Table.wf_mapVals _ _ _ _ hshows, Table.wf_keep _ _ _ hcues,
    Table.wf_mapVals _ _ _ _ hsources, ?_, ?_, Table.wf_mapVals _ _ _ _ hlanes, Table.wf_mapVals _ _ _ _ hzones, hbands,
    hguards⟩
  · show Table.wf .blank (s.inputBank s.ingress.inUse) = true
    cases s.ingress.inUse
    · exact hin0
    · exact hin1
  · show Table.wf .blank (s.outputBank s.lanes.selected) = true
    cases s.lanes.selected
    · exact hout0
    · exact hout1

theorem Change.imageCanonical {s t : State} (h : Change s t) (hs : s.Canonical) : t.image.Canonical := by
  have himage : s.image.Canonical := by
    obtain ⟨_, _, _, _, _, _, _, himage⟩ := s.canonical_iff.1 hs
    exact himage
  cases h with
  | endOfRange => simpa [State.endOfRange] using himage
  | beginSave => exact ⟨nofun, by rintro img begun ⟨⟩; exact hs.snapshot⟩
  | saveEnds snapshot begun saving => exact ⟨by rintro img ⟨⟩; exact himage.2 _ _ saving, nofun⟩
  | saveFails => exact ⟨nofun, nofun⟩
  | causes c => exact himage
  | _ => simpa using himage

/-! ## Steps -/

theorem Change.canonical {s t : State} (h : Change s t) (hs : s.Canonical) : t.Canonical := by
  obtain ⟨hentries, hcues, hslots, hmixer, hingress, hlanes, hfaults, _⟩ := s.canonical_iff.1 hs
  obtain ⟨hmixer', hingress'⟩ := h.mixerIngressCanonical ⟨hmixer, hingress⟩
  exact t.canonical_iff.2 ⟨h.entriesCanonical hentries, h.cueStoreCanonical hcues, h.slotsCanonical hslots, hmixer',
    hingress', h.lanesCanonical hlanes, h.faultsCanonical hfaults, h.imageCanonical hs⟩

theorem Changes.canonical {s t : State} (h : Changes s t) (hs : s.Canonical) : t.Canonical :=
  h.keeps (P := State.Canonical) (fun _ _ hc => hc.canonical) hs

/-- The image a full reset restores from is canonical. -/
theorem State.Canonical.restored {s : State} (h : s.Canonical) : s.image.storedAtReset.restored.Canonical := by
  obtain ⟨_, _, _, _, _, _, _, himage, _⟩ := s.canonical_iff.1 h
  obtain hd | ⟨img, hi, he⟩ := s.image.restored_eq
  · rw [hd]; exact ⟨rfl, rfl, rfl, rfl, rfl, rfl, rfl, rfl, rfl, rfl⟩
  · rw [he]; exact himage img hi

/-- What comes up from a canonical image is canonical (R195). -/
theorem State.comeUp_canonical (s : State) {img : Image} (hi : img.Canonical) (clock : TowerClock) {image : ImageStore}
    (hs : image.Canonical) : (s.comeUp img clock image).Canonical := by
  obtain ⟨hentries, hshows, hcues, hsources, hin, hout, hlanes, hhouse, hbands, hguards⟩ := hi
  rw [State.canonical_iff]
  simp only [State.comeUp, CueStore.Canonical, ZoneMixer.Canonical, IngressProcessor.Canonical, LaneController.Canonical]
  refine ⟨hentries, ⟨hshows, hcues⟩, rfl, ⟨⟨Table.wf_mapVals _ _ _ _ hhouse, fun q hq => ?_⟩,
    rfl, hbands⟩, ⟨⟨Table.wf_mapVals _ _ _ _ hsources, fun q hq => ?_⟩, hin, rfl⟩,
    ⟨Table.wf_mapVals _ _ _ _ hlanes, hout, rfl, hguards, rfl⟩, rfl, hs⟩
  · obtain ⟨p, _, rfl⟩ := Table.mem_mapVals (f := fun _ l => { Zone.blank with house := l }) hq
    rfl
  · obtain ⟨p, _, rfl⟩ := Table.mem_mapVals (f := fun _ c => SourceConfig.source c) hq
    rfl

theorem ImageStore.Canonical.restored {i : ImageStore} (h : i.Canonical) (causes : ResetCauses) :
    (i.restored causes).Canonical :=
  ⟨fun img hi => h.1 img (ImageStore.restored_stored hi), fun _ _ hi => absurd hi ImageStore.restored_state⟩

/-- The requested guard state of an image is restored as a request for it would be carried out (R164, R197). -/
theorem State.restoreGuard_changes (s : State) (img : Image) (clock : TowerClock) (image : ImageStore) :
    Changes (s.comeUp img clock image) (s.comeUp img clock image).restoreGuard := by
  unfold State.restoreGuard
  refine .ite (fun hon => ?_) fun _ => .refl _
  have hrequest : (s.comeUp img clock image).requestGuard true = (s.comeUp img clock image).adoptIdle := by
    change img.requestedGuard = true at hon
    unfold State.requestGuard
    congr 1
    simp [State.comeUp, State.withLanes, hon]
  have hadopt := Changes.of (Change.requestGuard (s := s.comeUp img clock image) true)
  rw [hrequest] at hadopt
  exact hadopt.trans (.wakeGuarded _)

/-- A full reset is the coming up from the image, and changes of that (R195, R197). -/
theorem State.fullReset_changes (s : State) (clock : TowerClock) (causes : ResetCauses) :
    Changes (s.comeUp s.image.storedAtReset.restored clock (s.image.restored causes)) (s.fullReset clock causes) := by
  refine (s.restoreGuard_changes _ clock _).trans ?_
  unfold State.fullReset State.resumeIfTime
  exact .ite (fun _ => .of (.beginBuild _)) fun _ => .refl _

theorem State.Canonical.fullReset {s : State} (h : s.Canonical) (clock : TowerClock) (causes : ResetCauses) :
    (s.fullReset clock causes).Canonical := by
  obtain ⟨_, _, _, _, _, _, _, himage⟩ := s.canonical_iff.1 h
  exact (s.fullReset_changes clock causes).canonical (s.comeUp_canonical h.restored clock (himage.restored causes))

theorem State.Canonical.congr {s t : State} (h : s.Canonical) (calendar : t.calendar = s.calendar)
    (cueStore : t.cueStore = s.cueStore) (playback : t.playback = s.playback) (mixer : t.mixer = s.mixer)
    (ingress : t.ingress = s.ingress) (lanes : t.lanes = s.lanes) (faults : t.faults = s.faults)
    (image : t.image = s.image) : t.Canonical := by
  rw [State.canonical_iff, calendar, cueStore, playback, mixer, ingress, lanes, faults, image, ← State.canonical_iff]
  exact h

theorem Effect.canonical {s t : State} {c : Instr} (h : Effect s c t) (hs : s.Canonical) : t.Canonical := by
  cases h with
  | changes h => exact h.canonical hs
  | advance _ h =>
    exact h.canonical (hs.congr (by simp) (by simp) (by simp) (by simp) (by simp) (by simp) (by simp) (by simp))
  | reset _ h => exact (h.canonical hs).fullReset _ _
  | answered _ h =>
    exact (h.canonical (hs.congr (t := s.atTake) (by simp) (by simp) (by simp) (by simp) (by simp) (by simp) (by simp)
      (by simp))).congr (by simp) (by simp) (by simp) (by simp) (by simp) (by simp) (by simp) (by simp)

/-- Settles O53: each change writes its tables, or maps them, one by one. -/
theorem stepsKeepTablesCanonical : Obligations.StepsKeepTablesCanonical := by
  intro s t hs ht
  obtain rfl | ⟨c, rest, _, he⟩ := step_effect ht
  · exact hs
  · exact he.canonical (hs.congr rfl rfl rfl rfl rfl rfl rfl rfl)

end Sys2Proof.Machine
end

section
/-! SUPPORT. Every zone stays owned by the strongest of its layers, and no layer outlives its slot (05). -/

namespace Sys2Proof.Machine

/-! ## Ownership -/

/-- What the ownership rule looks at: priority, then run start (R91). -/
def Layer.rank (l : Layer) : Nat × Int := (l.priority, l.runStart)

theorem beats_congr {l l' m m' : Layer} (hl : l'.rank = l.rank) (hm : m'.rank = m.rank) : beats l' m' = beats l m := by
  obtain ⟨hlp, hlr⟩ := Prod.mk.inj hl
  obtain ⟨hmp, hmr⟩ := Prod.mk.inj hm
  unfold beats
  rw [hlp, hlr, hmp, hmr]

/-- A best layer so far, by its slot and rank. -/
def rankedBest (b : Option (Nat × Layer)) : Option (Nat × Nat × Int) := b.map fun b => (b.1, b.2.rank)

/-- The choice between the best layer so far and the next depends on no more than their ranks. -/
theorem pickOwner_congr {best best' : Option (Nat × Layer)} {k : Nat} {l l' : Option Layer}
    (hb : rankedBest best' = rankedBest best) (hl : l'.map Layer.rank = l.map Layer.rank) :
    rankedBest (pickOwner best' k l') = rankedBest (pickOwner best k l) := by
  cases l with
  | none => rw [Option.map_eq_none_iff.1 hl]; exact hb
  | some l =>
    obtain ⟨l', rfl, hrank⟩ := Option.map_eq_some_iff.1 hl
    cases best with
    | none =>
      rw [show best' = none from Option.map_eq_none_iff.1 hb]
      exact congrArg (fun r => some (k, r)) hrank
    | some b =>
      obtain ⟨b', rfl, hbest⟩ := Option.map_eq_some_iff.1 hb
      unfold pickOwner
      dsimp only
      rw [beats_congr hrank (Prod.mk.inj hbest).2]
      split
      · exact congrArg (fun r => some (k, r)) hrank
      · exact hb

/-- The owner depends on no more than the layers' ranks (R91). -/
theorem strongest_congr {layers layers' : Table (Option Layer)}
    (h : ∀ k, (Table.read none layers' k).map Layer.rank = (Table.read none layers k).map Layer.rank) :
    strongest layers' = strongest layers := by
  have hfold : ∀ (ks : List Nat) (best best' : Option (Nat × Layer)), rankedBest best' = rankedBest best →
      rankedBest (ks.foldl (fun best k => pickOwner best k (Table.read none layers' k)) best') =
        rankedBest (ks.foldl (fun best k => pickOwner best k (Table.read none layers k)) best) := by
    intro ks
    induction ks with
    | nil => exact fun _ _ hb => hb
    | cons k ks ih => exact fun best best' hb => ih _ _ (pickOwner_congr hb (h k))
  have hslot := congrArg (Option.map (fun b : Nat × Nat × Int => b.1)) (hfold slotNumbers none none rfl)
  simp only [rankedBest, Option.map_map, Function.comp_def] at hslot
  exact hslot

theorem Zone.blank_owned : Zone.blank.Owned := ⟨rfl, rfl⟩

theorem State.ZonesOwned.congr {s t : State} (h : s.ZonesOwned) (zones : t.mixer.zones = s.mixer.zones) :
    t.ZonesOwned := by unfold State.ZonesOwned; rw [zones]; exact h

theorem State.ZonesOwned.zone {s : State} (h : s.ZonesOwned) (z : Nat) : (s.zone z).Owned :=
  Table.read_of_forall (p := Zone.Owned) Zone.blank_owned h.2 z

theorem State.ZonesOwned.setZone {s : State} (h : s.ZonesOwned) (z : Nat) {r : Zone} (hr : r.Owned) :
    (s.setZone z r).ZonesOwned :=
  ⟨Table.wf_write _ _ z r h.1, Table.forall_write (p := Zone.Owned) z hr h.2⟩

theorem State.ZonesOwned.putLayer {s : State} (h : s.ZonesOwned) {k z : Nat} {l : Layer}
    (rank : ∀ m, s.layer k z = some m → l.priority = m.priority ∧ l.runStart = m.runStart) :
    (s.putLayer k z l).ZonesOwned := by
  obtain ⟨hwf, howner⟩ := h.zone z
  have hlayers := Table.wf_write none _ k (some l) hwf
  unfold State.putLayer
  dsimp only
  split
  · next m hm =>
    refine h.setZone z ⟨hlayers, howner.trans (strongest_congr fun j => ?_).symm⟩
    dsimp only
    rw [Table.read_write]
    split
    · next hj =>
      obtain ⟨hp, hr⟩ := rank m hm
      subst hj
      rw [hm]
      exact congrArg some (Prod.ext hp hr)
    · rfl
  · split
    · next he => exact h.setZone z ⟨hlayers, he.symm⟩
    · exact h.setZone z ⟨hlayers, rfl⟩

theorem State.ZonesOwned.dropLayer {s : State} (h : s.ZonesOwned) (k z : Nat) (d : Int) :
    (s.dropLayer k d z).ZonesOwned := by
  have hlayers := Table.wf_write none _ k none (h.zone z).1
  unfold State.dropLayer
  dsimp only
  split
  · exact h
  · split
    · next he => exact h.setZone z ⟨hlayers, he.symm⟩
    · exact h.setZone z ⟨hlayers, rfl⟩

/-- A change of the layers that leaves their ranks leaves the owners (R91). -/
theorem State.ZonesOwned.mapLayers {s : State} (h : s.ZonesOwned) {f : Nat → Layer → Layer}
    (hf : ∀ z l, (f z l).rank = l.rank) : (s.mapLayers f).ZonesOwned := by
  simp only [State.mapLayers, State.ZonesOwned, State.withMixer_mixer]
  refine ⟨Table.wf_mapVals _ _ _ _ h.1, fun q hq => ?_⟩
  obtain ⟨p, hp, rfl⟩ := Table.mem_mapVals
    (f := fun z (r : Zone) => { r with layers := Table.mapVals none (fun _ (l : Option Layer) => l.map (f z)) r.layers }) hq
  obtain ⟨hwf, howner⟩ := h.2 p hp
  refine ⟨Table.wf_mapVals none none (fun _ (l : Option Layer) => l.map (f p.1)) p.2.layers hwf,
    howner.trans (strongest_congr fun j => ?_).symm⟩
  dsimp only
  rw [Table.read_mapVals none none _ _ j hwf rfl]
  cases Table.read none p.2.layers j with
  | none => rfl
  | some l => exact congrArg some (hf _ l)

theorem State.lossLayer_rank (s : State) (i : Nat) (d : Int) (z : Nat) (l : Layer) :
    (s.lossLayer i d z l).rank = l.rank := by
  unfold State.lossLayer
  split
  · split <;> rfl
  · rfl

theorem State.returnLayer_rank (s : State) (i : Nat) (d : Int) (z : Nat) (l : Layer) :
    (s.returnLayer i d z l).rank = l.rank := by
  unfold State.returnLayer
  split
  · split <;> rfl
  · rfl

/-! ## Layers and their slots -/

/-- A layer after a change of the layers is a changed layer. -/
theorem State.layer_mapLayers {s : State} (h : s.ZonesOwned) (f : Nat → Layer → Layer) (k z : Nat) :
    (s.mapLayers f).layer k z = (s.layer k z).map (f z) := by
  have hzone : (s.mapLayers f).zone z =
      { s.zone z with layers := Table.mapVals none (fun _ (l : Option Layer) => l.map (f z)) (s.zone z).layers } :=
    Table.read_mapVals Zone.blank Zone.blank
      (fun z r => { r with layers := Table.mapVals none (fun _ (l : Option Layer) => l.map (f z)) r.layers }) _ z h.1 rfl
  unfold State.layer
  rw [hzone]
  exact Table.read_mapVals none none (fun _ (l : Option Layer) => l.map (f z)) _ k (h.zone z).1 rfl

/-- No layer is new but one of a slot that is not FREE, and no slot is freed. -/
theorem State.LayersHaveSlots.of {s t : State} (h : s.LayersHaveSlots) (owned : t.ZonesOwned)
    (layers : ∀ z k, z < 240 → (t.layer k z).isSome = true → (s.layer k z).isSome = true ∨ (s.slot k).isSome = true)
    (slots : ∀ k, (s.slot k).isSome = true → (t.slot k).isSome = true) : t.LayersHaveSlots :=
  ⟨owned, fun z k hz hl => slots k ((layers z k hz hl).elim (h.2 z k hz) id)⟩

theorem State.LayersHaveSlots.congr {s t : State} (h : s.LayersHaveSlots) (zones : t.mixer.zones = s.mixer.zones)
    (slots : t.playback.slots = s.playback.slots) : t.LayersHaveSlots := by
  unfold State.LayersHaveSlots State.ZonesOwned State.layer State.zone State.slot
  rw [zones, slots]
  exact h

theorem State.layer_setZone (s : State) (z : Nat) (r : Zone) (k y : Nat) :
    (s.setZone z r).layer k y = if y = z then Table.read none r.layers k else s.layer k y := by
  unfold State.layer
  rw [State.zone_setZone]
  split <;> rfl

/-- A layer put into a zone is there, and every other layer stays. -/
theorem State.layer_putLayer (s : State) (k z : Nat) (l : Layer) (j y : Nat) :
    (s.putLayer k z l).layer j y = if y = z ∧ j = k then some l else s.layer j y := by
  have hwrite : ∀ r : Zone, r.layers = Table.write none (s.zone z).layers k (some l) →
      (s.setZone z r).layer j y = if y = z ∧ j = k then some l else s.layer j y := by
    intro r hr
    rw [State.layer_setZone, hr, Table.read_write]
    by_cases hy : y = z
    · subst hy; simp [State.layer]
    · simp [hy]
  unfold State.putLayer
  dsimp only
  split
  · exact hwrite _ rfl
  · split <;> exact hwrite _ rfl

/-- A drop removes one layer, and every other layer stays (R96). -/
theorem State.layer_dropLayer (s : State) (k z : Nat) (d : Int) (j y : Nat) :
    (s.dropLayer k d z).layer j y = if y = z ∧ j = k then none else s.layer j y := by
  obtain ⟨hself, hother, hzone, _⟩ := s.dropLayer_effect k z d
  by_cases hy : y = z
  · subst hy
    by_cases hj : j = k
    · subst hj; rw [hself, if_pos ⟨rfl, rfl⟩]
    · rw [hother j hj, if_neg fun h => hj h.2]
  · rw [if_neg fun h => hy h.1]
    unfold State.layer
    rw [hzone y hy]

/-- The release of a slot drops its layers in all zones (R75, R96). -/
theorem State.layer_dropLayers (s : State) (k j y : Nat) :
    (s.dropLayers k).layer j y = if y < 240 ∧ j = k then none else s.layer j y := by
  have hfold : ∀ (zs : List Nat) (u : State),
      (zs.foldl (fun s z => s.dropLayer k s.now z) u).layer j y = if y ∈ zs ∧ j = k then none else u.layer j y := by
    intro zs
    induction zs with
    | nil => intro u; simp
    | cons z zs ih =>
      intro u
      rw [List.foldl_cons, ih, State.layer_dropLayer]
      by_cases hj : j = k <;> by_cases hy : y ∈ zs <;> simp [hj, hy]
  have hmem : y ∈ zoneNumbers ↔ y < 240 := List.mem_range
  unfold State.dropLayers
  rw [hfold]
  simp only [hmem]

theorem State.ZonesOwned.dropLayers {s : State} (h : s.ZonesOwned) (k : Nat) : (s.dropLayers k).ZonesOwned := by
  unfold State.dropLayers
  induction zoneNumbers generalizing s with
  | nil => exact h
  | cons z zs ih => exact ih (h.dropLayer k z s.now)

theorem State.layer_withPlayback (s : State) (x : PlaybackEngine) (k z : Nat) :
    (s.withPlayback x).layer k z = s.layer k z := rfl

theorem State.LayersHaveSlots.release {s : State} (h : s.LayersHaveSlots) (k : Nat) : (s.release k).LayersHaveSlots := by
  have hdropped := h.1.dropLayers k
  unfold State.release
  split
  · exact h
  · next p hp =>
    refine State.LayersHaveSlots.congr (s := (s.dropLayers k).setSlot k none)
      ⟨hdropped.congr (by simp), fun z j hz hl => ?_⟩
      (by simp) (by simp)
    have hl' : ((s.dropLayers k).layer j z).isSome = true := by rwa [State.setSlot, State.layer_withPlayback] at hl
    rw [State.layer_dropLayers] at hl'
    split at hl'
    · cases hl'
    · next hne =>
      have hj : j ≠ k := fun hj => hne ⟨hz, hj⟩
      rw [State.slot_setSlot, if_neg hj, State.slot_dropLayers]
      exact h.2 z j hz hl'

theorem State.LayersHaveSlots.mapLayers {s : State} (h : s.LayersHaveSlots) {f : Nat → Layer → Layer}
    (hf : ∀ z l, (f z l).rank = l.rank) : (s.mapLayers f).LayersHaveSlots :=
  h.of (h.1.mapLayers hf) (fun z k _ hl => .inl (by rwa [State.layer_mapLayers h.1, Option.isSome_map] at hl))
    fun _ hs => hs

theorem State.LayersHaveSlots.blockResetIngress {s : State} (h : s.LayersHaveSlots) :
    s.blockResetIngress.LayersHaveSlots := by
  have hidle : ∀ (u : State) (i : Nat), u.LayersHaveSlots → (u.idleSource i).LayersHaveSlots := by
    intro u i hu
    unfold State.idleSource State.lossIfLive
    split
    · exact State.LayersHaveSlots.mapLayers (s := u.setSource i _) hu (State.lossLayer_rank _ _ _)
    · exact hu
  have hidled : ∀ (l : List Nat) (u : State), u.LayersHaveSlots → (l.foldl State.idleSource u).LayersHaveSlots := by
    intro l
    induction l with
    | nil => exact fun _ hu => hu
    | cons i l ih => exact fun u hu => ih _ (hidle u i hu)
  have hall := hidled sourceNumbers (s.withIngress { s.ingress with queue := [], processing := none }) h
  unfold State.blockResetIngress
  dsimp only
  generalize sourceNumbers.foldl State.idleSource _ = idled at hall
  exact hall.congr (by simp) (by simp)

/-! ## Steps -/

theorem Change.layersHaveSlots {s t : State} (h : Change s t) (hs : s.LayersHaveSlots) : t.LayersHaveSlots := by
  obtain ⟨howned, hlayers⟩ := id hs
  cases h with
  | endOfRange => exact hs.congr (by simp [State.endOfRange]) (by simp [State.endOfRange])
  | startsCounted x slots => exact hs.congr rfl slots
  | slotGoesOn k p q was =>
    refine hs.of howned (fun _ _ _ hl => .inl hl) fun j hj => ?_
    rw [State.slot_setSlot]
    split
    · rfl
    · exact hj
  | release k => exact hs.release k
  | slotFilled k p =>
    refine hs.of (t := (s.setSlot k (some p)).slotStarted p.showNo) howned (fun _ _ _ hl => .inl hl) fun j hj => ?_
    rw [State.slot_slotStarted, State.slot_setSlot]
    split
    · rfl
    · exact hj
  | putLayer k z l filled rank =>
    refine hs.of (howned.putLayer rank) (fun y j _ hl => ?_) fun j hj => by simpa [State.slot] using hj
    rw [State.layer_putLayer] at hl
    split at hl
    · next he => exact .inr (he.2 ▸ filled)
    · exact .inl hl
  | dropLayer k d z =>
    refine hs.of (howned.dropLayer k z d) (fun y j _ hl => ?_) fun j hj => by simpa [State.slot] using hj
    rw [State.layer_dropLayer] at hl
    split at hl
    · cases hl
    · exact .inl hl
  | zoneKept z r owner layers =>
    refine hs.of (howned.setZone z ⟨by rw [layers]; exact (howned.zone z).1, by
      rw [owner, layers]; exact (howned.zone z).2⟩) (fun y j _ hl => .inl ?_) fun _ hj => hj
    rw [State.layer_setZone, layers] at hl
    split at hl
    · next he => rw [he]; exact hl
    · exact hl
  | sourceLoss i => exact hs.mapLayers (s.lossLayer_rank i _)
  | sourceReturn i => exact hs.mapLayers (s.returnLayer_rank i _)
  | liveOrBands x zones => exact hs.congr zones rfl
  | blockResetIngress => exact hs.blockResetIngress
  | _ => exact hs.congr (by simp) (by simp)

theorem Changes.layersHaveSlots {s t : State} (h : Changes s t) (hs : s.LayersHaveSlots) : t.LayersHaveSlots :=
  h.keeps (P := State.LayersHaveSlots) (fun _ _ hc => hc.layersHaveSlots) hs

/-- No zone has a layer as it comes up (R101). -/
theorem State.comeUp_layersHaveSlots (s : State) {img : Image} (hi : img.Canonical) (clock : TowerClock)
    (image : ImageStore) : (s.comeUp img clock image).LayersHaveSlots := by
  obtain ⟨_, _, _, _, _, _, _, hhouse, _, _⟩ := hi
  have hzones : ∀ p ∈ (s.comeUp img clock image).mixer.zones, p.2.layers = [] ∧ p.2.owner = none := by
    intro q hq
    obtain ⟨p, _, rfl⟩ := Table.mem_mapVals (f := fun _ l => { Zone.blank with house := l }) hq
    exact ⟨rfl, rfl⟩
  refine ⟨⟨?_, fun p hp => ?_⟩, fun z k _ hl => ?_⟩
  · simp only [State.comeUp]
    exact Table.wf_mapVals _ _ _ _ hhouse
  · obtain ⟨hlayers, howner⟩ := hzones p hp
    exact ⟨by rw [hlayers]; rfl, by rw [hlayers, howner]; rfl⟩
  · have hnone : ((s.comeUp img clock image).zone z).layers = [] ∧ ((s.comeUp img clock image).zone z).owner = none :=
      Table.read_of_forall (p := fun r : Zone => r.layers = [] ∧ r.owner = none) ⟨rfl, rfl⟩ hzones z
    unfold State.layer at hl
    rw [hnone.1] at hl
    cases hl

theorem Effect.layersHaveSlots {s t : State} {c : Instr} (h : Effect s c t) (hc : s.Canonical)
    (hs : s.LayersHaveSlots) : t.LayersHaveSlots := by
  cases h with
  | changes h => exact h.layersHaveSlots hs
  | advance _ h => exact h.layersHaveSlots (hs.congr (by simp) (by simp))
  | reset _ h =>
    exact (State.fullReset_changes _ _ _).layersHaveSlots
      (State.comeUp_layersHaveSlots _ (h.canonical hc).restored _ _)
  | answered _ h =>
    exact (h.layersHaveSlots (hs.congr (t := s.atTake) (by simp) (by simp))).congr (by simp) (by simp)

/-- Settles O58: cues rank their layers as the slot does, losses and returns keep the ranks, and a release drops the
layers of its slot. -/
theorem stepsKeepZonesOwned : Obligations.StepsKeepZonesOwned := by
  intro s t hc hs ht
  obtain rfl | ⟨c, rest, _, he⟩ := step_effect ht
  · exact hs
  · exact he.layersHaveSlots (hc.congr rfl rfl rfl rfl rfl rfl rfl rfl) hs

end Sys2Proof.Machine
end

section
/-! SUPPORT. The machine after reset meets the invariants: it is what comes up from the defaults (11). -/

namespace Sys2Proof.Machine

/-- The machine after reset is what a power-on brings up from the defaults (R195, R196). -/
theorem State.reset_eq_comeUp :
    State.reset = State.reset.comeUp .defaults .unset ⟨.blank, .empty, ⟨true, false, false, false⟩⟩ := rfl

theorem Image.defaults_canonical : Image.defaults.Canonical := ⟨rfl, rfl, rfl, rfl, rfl, rfl, rfl, rfl, rfl, rfl⟩

/-- Settles O52: what comes up from an image meets the invariants of the blocks, and here nothing plays, waits or is
recorded. -/
theorem resetMeetsInvariants : Obligations.ResetMeetsInvariants := by
  have hup := State.reset_eq_comeUp
  have hcanonical : State.reset.Canonical := by
    rw [hup]
    exact State.comeUp_canonical _ Image.defaults_canonical _ ⟨nofun, nofun⟩
  have hlayers : State.reset.LayersHaveSlots := by
    rw [hup]
    exact State.comeUp_layersHaveSlots _ Image.defaults_canonical _ _
  have hlanes : State.reset.LanesAgree := by rw [hup]; exact State.comeUp_lanesAgree _ _ _ _ rfl
  have hsettled : State.reset.LanesSettled := by rw [hup]; exact State.comeUp_lanesSettled _ _ _ _ rfl
  have hqueues : State.reset.QueuesBounded := ⟨Nat.zero_le _, Nat.zero_le _, Nat.zero_le _, rfl⟩
  exact ⟨hcanonical, hqueues, nofun, FaultTable.initial_agrees, TimeUnit.initial_consistent,
    fun _ => ⟨rfl, rfl, rfl⟩, ⟨Nat.zero_le _, .nil, .nil⟩, ⟨nofun, fun _ => rfl, nofun, nofun, nofun⟩, hlayers, hlanes,
    hsettled, ⟨Settings.defaults_inRange, nofun, nofun, nofun⟩⟩

end Sys2Proof.Machine
end

section
/-! SUPPORT. What recording a fault and clearing faults leave (10). -/

namespace Sys2Proof.Machine

/-! ## The search for a record -/

/-- The record found is the first not present from the next-write index upward (R183). -/
theorem State.freeFaultRecord_eq {s : State} {j : Nat} (hj : j < 8)
    (free : s.faultRecord ((s.faults.nextWrite + j) % 8) = none)
    (taken : ∀ i, i < j → s.faultRecord ((s.faults.nextWrite + i) % 8) ≠ none) :
    s.freeFaultRecord = some ((s.faults.nextWrite + j) % 8) := by
  unfold State.freeFaultRecord
  rw [faultNumbers_eq_range, List.find?_map, List.find?_range_eq_some.2 ⟨by simp [free], List.mem_range.2 hj,
    fun i hi => ?_⟩]
  · rfl
  · simpa [Option.isSome_iff_ne_none] using taken i hi

/-- With every record present, none is found (R183). -/
theorem State.freeFaultRecord_eq_none {s : State} (taken : ∀ i, i < 8 → s.faultRecord i ≠ none) :
    s.freeFaultRecord = none := by
  unfold State.freeFaultRecord
  refine List.find?_eq_none.2 fun i hi => ?_
  obtain ⟨j, _, rfl⟩ := List.mem_map.1 hi
  simpa [Option.isNone_iff_eq_none] using taken _ (Nat.mod_lt _ (by decide))

theorem State.presentFaults_eq_eight {s : State} (taken : ∀ i, i < 8 → s.faultRecord i ≠ none) :
    s.presentFaults = 8 := by
  unfold State.presentFaults
  rw [faultNumbers_eq_range]
  refine (List.countP_eq_length.2 fun i hi => ?_).trans List.length_range
  exact Option.isSome_iff_ne_none.2 (taken i (List.mem_range.1 hi))

/-! ## Alert conditions -/

/-- An alert stays pending, or becomes so, while it is masked or the queue has no room (R188). -/
theorem State.alertCondition_of_pending {s : State}
    (h : s.faults.alertPending = true ∨ s.settings.alertMask = true ∨ s.outboundRoom = false) :
    s.alertCondition = s.withFaults { s.faults with alertPending := true } := by
  unfold State.alertCondition
  cases hp : s.faults.alertPending with
  | true =>
    rw [if_pos rfl]
    have : s.faults = { s.faults with alertPending := true } := by rw [← hp]
    rw [← this]
    rfl
  | false =>
    rw [if_neg (by decide), if_pos]
    rw [hp] at h
    simpa using h

/-- An alert is placed at once when it may be (R188, R190). -/
theorem State.alertCondition_of_sent {s : State} (hp : s.faults.alertPending = false)
    (hm : s.settings.alertMask = false) (hr : s.outboundRoom = true) : s.alertCondition = s.placeAlert := by
  unfold State.alertCondition
  rw [hp, hm, hr]
  rfl

/-- What an alert condition leaves: at most the alert flag and the outbound queue change (R188, R190). -/
theorem State.alertCondition_effect (s : State) :
    s.alertCondition = (s.withFaults { s.faults with alertPending := s.alertCondition.faults.alertPending }).withMgmt
      { s.mgmt with outbound := s.alertCondition.mgmt.outbound } ∧
    ((s.faults.alertPending = true ∨ s.settings.alertMask = true ∨ s.outboundRoom = false) →
      s.alertCondition.faults.alertPending = true ∧ s.alertCondition.mgmt.outbound = s.mgmt.outbound) ∧
    (s.faults.alertPending = false → s.settings.alertMask = false → s.outboundRoom = true →
      s.alertCondition.faults.alertPending = false ∧
        s.alertCondition.mgmt.outbound = s.mgmt.outbound ++ [.alert s.composeAlert]) := by
  refine ⟨?_, fun h => by rw [State.alertCondition_of_pending h]; exact ⟨rfl, rfl⟩,
    fun hp hm hr => by rw [State.alertCondition_of_sent hp hm hr]; exact ⟨hp, rfl⟩⟩
  unfold State.alertCondition
  split
  · rfl
  · split <;> rfl

/-! ## Recording -/

theorem State.faultRecord_storeFault (s : State) (k : FaultKind) (i j : Nat) :
    Table.read none (s.storeFault k i).records j = if j = i then some ⟨k, s.now, s.towerTime⟩ else s.faultRecord j := by
  rw [State.storeFault_records, Table.read_write]
  rfl

/-- Settles O50: overflow only counts; a record found is stored in, and none found sets overflow. -/
theorem recordFaultStoresOrOverflows : Obligations.RecordFaultStoresOrOverflows := by
  refine fun s k hn => ⟨fun ho => by unfold State.recordFault; rw [if_pos ho], fun j ho hj free taken => ?_,
    fun ho taken => ?_⟩
  · have hfound := State.freeFaultRecord_eq hj free taken
    have hstored : s.recordFault k = if s.faults.pending then s.withFaults (s.storeFault k ((s.faults.nextWrite + j) % 8))
        else (s.withFaults (s.storeFault k ((s.faults.nextWrite + j) % 8))).alertCondition := by
      unfold State.recordFault
      rw [if_neg (by simp [ho]), hfound]
    have hread := s.faultRecord_storeFault k ((s.faults.nextWrite + j) % 8)
    have hnext : ((s.faults.nextWrite + j) % 8 + 1) % 8 = (s.faults.nextWrite + j + 1) % 8 := by omega
    rw [hstored]
    cases hp : s.faults.pending with
    | true =>
      rw [if_pos rfl]
      exact ⟨_, rfl, rfl, (hread _).trans (if_pos rfl), fun i hi => (hread i).trans (if_neg hi), hnext, rfl, ho, rfl,
        fun _ => ⟨if_pos hp, rfl, rfl⟩, nofun⟩
    | false =>
      rw [if_neg (by decide)]
      obtain ⟨heffect, hpending, hsent⟩ :=
        (s.withFaults (s.storeFault k ((s.faults.nextWrite + j) % 8))).alertCondition_effect
      have hrecords : ∀ i, Table.read none (s.withFaults (s.storeFault k ((s.faults.nextWrite + j) % 8))).alertCondition.faults.records i
          = Table.read none (s.storeFault k ((s.faults.nextWrite + j) % 8)).records i := by
        intro i; rw [heffect]; rfl
      have hfirst : (s.storeFault k ((s.faults.nextWrite + j) % 8)).first = some ((s.faults.nextWrite + j) % 8) :=
        if_neg (by simp [hp])
      refine ⟨_, rfl, ?_, (hrecords _).trans ((hread _).trans (if_pos rfl)),
        fun i hi => (hrecords i).trans ((hread i).trans (if_neg hi)), ?_, ?_, ?_, ?_, nofun, fun _ => ⟨?_, hpending,
          fun ha hm hr => ?_⟩⟩
      · rw [heffect]; rfl
      · rw [heffect]; exact hnext
      · rw [heffect]; rfl
      · rw [heffect]; exact ho
      · rw [heffect]; rfl
      · rw [heffect]; exact hfirst
      · obtain ⟨hclear, hplaced⟩ := hsent ha hm hr
        refine ⟨hclear, _, hplaced, by rw [heffect]; rfl, ?_, ho, rfl, rfl⟩
        rw [heffect]; rfl
  · have hstored : s.recordFault k = (s.withFaults
        { s.faults with overflow := true, dropped := satInc 255 s.faults.dropped }).alertCondition := by
      unfold State.recordFault
      rw [if_neg (by simp [ho]), State.freeFaultRecord_eq_none taken]
    rw [hstored]
    obtain ⟨heffect, hpending, hsent⟩ := (s.withFaults
      { s.faults with overflow := true, dropped := satInc 255 s.faults.dropped }).alertCondition_effect
    refine ⟨_, rfl, ?_, ?_, ?_, ?_, ?_, ?_, ?_, hpending, fun ha hm hr => ?_⟩
    · rw [heffect]; rfl
    · rw [heffect]; rfl
    · rw [heffect]; rfl
    · rw [heffect]; rfl
    · rw [heffect]; rfl
    · rw [heffect]; rfl
    · rw [heffect]; rfl
    · obtain ⟨hclear, hplaced⟩ := hsent ha hm hr
      exact ⟨hclear, _, hplaced, rfl, State.presentFaults_eq_eight (s := s.withFaults _) taken, rfl, rfl, rfl⟩

/-! ## Clearing -/

/-- A fault record, by index and run instant, is at least as old as another (R184). -/
def AtLeastAsOld (a b : Nat × Nat) : Prop := a.2 < b.2 ∨ (a.2 = b.2 ∧ a.1 ≤ b.1)

theorem AtLeastAsOld.refl (a : Nat × Nat) : AtLeastAsOld a a := .inr ⟨rfl, Nat.le_refl _⟩

theorem AtLeastAsOld.trans {a b c : Nat × Nat} (h : AtLeastAsOld a b) (h' : AtLeastAsOld b c) : AtLeastAsOld a c := by
  unfold AtLeastAsOld at *
  omega

theorem earlierFault_atLeastAsOld (a b : Nat × Nat) :
    AtLeastAsOld (earlierFault a b) a ∧ AtLeastAsOld (earlierFault a b) b := by
  unfold earlierFault AtLeastAsOld
  split <;> omega

/-- The search keeps the oldest of the records it has met (R184). -/
theorem State.foldl_olderFault_oldest (s : State) (l : List Nat) (best : Option (Nat × Nat)) (b : Nat × Nat)
    (h : l.foldl s.olderFault best = some b) :
    (∀ a, best = some a → AtLeastAsOld b a) ∧
      ∀ i ∈ l, ∀ r, s.faultRecord i = some r → AtLeastAsOld b (i, r.runInstant) := by
  induction l generalizing best with
  | nil => exact ⟨fun a ha => by rw [List.foldl_nil, ha] at h; cases h; exact .refl _, nofun⟩
  | cons j l ih =>
    obtain ⟨hbest, hrest⟩ := ih (s.olderFault best j) h
    cases hj : s.faultRecord j with
    | none =>
      rw [show s.olderFault best j = best by simp only [State.olderFault, hj]] at hbest
      refine ⟨hbest, fun i hi r hr => ?_⟩
      obtain rfl | hi := List.mem_cons.1 hi
      · rw [hj] at hr; cases hr
      · exact hrest i hi r hr
    | some r =>
      obtain ⟨c, hc, hca, hcr⟩ : ∃ c, s.olderFault best j = some c ∧ (∀ a, best = some a → AtLeastAsOld c a) ∧
          AtLeastAsOld c (j, r.runInstant) := by
        cases best with
        | none => exact ⟨_, by simp only [State.olderFault, hj], nofun, .refl _⟩
        | some a =>
          obtain ⟨hold, hnew⟩ := earlierFault_atLeastAsOld a (j, r.runInstant)
          exact ⟨_, by simp only [State.olderFault, hj], by rintro _ ⟨⟩; exact hold, hnew⟩
      have hbc := hbest c hc
      refine ⟨fun a ha => hbc.trans (hca a ha), fun i hi q hq => ?_⟩
      obtain rfl | hi := List.mem_cons.1 hi
      · rw [hj] at hq; cases hq; exact hbc.trans hcr
      · exact hrest i hi q hq

/-- The run instant that the search carries is that of the record it names. -/
theorem State.foldl_olderFault_instant (s : State) (l : List Nat) (best : Option (Nat × Nat))
    (hbest : ∀ b, best = some b → (s.faultRecord b.1).map FaultRecord.runInstant = some b.2) :
    ∀ b, l.foldl s.olderFault best = some b → (s.faultRecord b.1).map FaultRecord.runInstant = some b.2 := by
  induction l generalizing best with
  | nil => exact hbest
  | cons i l ih =>
    refine ih _ fun b hb => ?_
    unfold State.olderFault at hb
    split at hb
    · exact hbest b hb
    · next r hr => cases hb; simp [hr]
    · next r c hr =>
      cases hb
      unfold earlierFault
      split
      · simp [hr]
      · exact hbest c rfl

/-- The oldest record is older than every other one, or as old with a lower index (R184). -/
theorem State.oldestFault_oldest {s : State} {j m : Nat} {a b : FaultRecord} (hj : s.oldestFault = some j)
    (ha : s.faultRecord j = some a) (hm : m < 8) (hne : m ≠ j) (hb : s.faultRecord m = some b) :
    a.runInstant < b.runInstant ∨ (a.runInstant = b.runInstant ∧ j < m) := by
  rw [State.oldestFault_eq] at hj
  obtain ⟨c, hc, rfl⟩ := Option.map_eq_some_iff.1 hj
  have hinstant := s.foldl_olderFault_instant faultNumbers none nofun c hc
  rw [ha] at hinstant
  have hca : a.runInstant = c.2 := Option.some.inj hinstant
  have hold := (s.foldl_olderFault_oldest faultNumbers none c hc).2 m
    (by rw [faultNumbers_eq_range]; exact List.mem_range.2 hm) b hb
  unfold AtLeastAsOld at hold
  dsimp only at hold
  omega

/-- A table true of its records has no alert to be cleared (R189). -/
theorem FaultTable.Agrees.quietAlert_eq {s : State} (h : s.faults.Agrees) : s.quietAlert = s := by
  obtain ⟨_, _, _, _, _, _, _, _, halert⟩ := h
  unfold State.quietAlert
  cases hp : s.faults.alertPending with
  | true => rw [if_pos (by simpa using halert hp)]
  | false =>
    split
    · rfl
    · have : s.faults = { s.faults with alertPending := false } := by rw [← hp]
      rw [← this]
      rfl

theorem State.quietAlert_eq (s : State) : s.quietAlert = s.withFaults { s.faults with
    alertPending := s.faults.alertPending && (s.faults.pending || s.faults.overflow) } := by
  unfold State.quietAlert
  split
  · next h => rw [h, Bool.and_true]; rfl
  · next h => rw [Bool.eq_false_iff.2 h, Bool.and_false]

theorem State.oldestFault_congr {s t : State} (h : t.faults.records = s.faults.records) :
    t.oldestFault = s.oldestFault := by
  unfold State.oldestFault State.faultRecord
  rw [h]

/-- What a CLEAR_FAULT of a present record leaves (R184, R186, R189). -/
theorem State.clearFaultRecord_eq (s : State) (i : Nat) :
    s.clearFaultRecord i = s.withFaults (s.clearFaultRecord i).faults ∧
    (∀ j, (s.clearFaultRecord i).faultRecord j = if j = i then none else s.faultRecord j) ∧
    (s.clearFaultRecord i).faults.nextWrite = s.faults.nextWrite ∧
    (s.clearFaultRecord i).faults.overflow = s.faults.overflow ∧
    (s.clearFaultRecord i).faults.dropped = s.faults.dropped ∧
    (s.clearFaultRecord i).faults.first =
      if s.faults.first = some i ∨ (s.clearFaultRecord i).oldestFault = none then (s.clearFaultRecord i).oldestFault
      else s.faults.first := by
  unfold State.clearFaultRecord
  dsimp only
  rw [State.quietAlert_eq]
  refine ⟨rfl, fun j => Table.read_write none s.faults.records i j none, rfl, rfl, rfl, ?_⟩
  rw [State.oldestFault_congr (s := s.withFaults
    { s.faults with records := Table.write none s.faults.records i none }) rfl]
  simp only [Bool.or_eq_true, decide_eq_true_eq, Option.isNone_iff_eq_none]
  rfl

theorem State.clearFaultRecord_atTake (s : State) (i : Nat) :
    (s.atTake.clearFaultRecord i).faults = (s.clearFaultRecord i).faults := by
  unfold State.clearFaultRecord
  dsimp only
  rw [State.quietAlert_eq, State.quietAlert_eq]
  rfl

/-- The first-pending record stays unless it is the one that is cleared (R184). -/
theorem FaultTable.Agrees.first_clearFaultRecord {s : State} (h : s.faults.Agrees) {i : Nat}
    (hne : s.faults.first ≠ some i) : (s.clearFaultRecord i).faults.first = s.faults.first := by
  obtain ⟨_, hrecords, _, _, _, hfirst⟩ := s.clearFaultRecord_eq i
  obtain ⟨_, hindex, _, _, _, hpresent, _⟩ := h
  rw [hfirst]
  split
  · next hc =>
    have hnone := hc.resolve_left hne
    rw [hnone]
    cases hf : s.faults.first with
    | none => rfl
    | some j =>
      have hj : (s.faultRecord j).isSome = true := hpresent j hf
      have hji : j ≠ i := by rintro rfl; exact hne hf
      have hlt : j < 8 := hindex _ (Table.mem_of_read (Option.isSome_iff_ne_none.1 hj))
      have hleft := (s.clearFaultRecord i).oldestFault_spec.2.2 ⟨j, hlt, by rw [hrecords, if_neg hji]; exact hj⟩
      rw [hnone] at hleft
      cases hleft
  · rfl

/-- Settles O51: a record that is not present leaves a true table as it is, a present one is cleared with its flags, and
CLEAR_OVERFLOW leaves an alert pending only while a record is present. -/
theorem clearsFollowTheRecords : Obligations.ClearsFollowTheRecords := by
  refine ⟨fun h i s ha ht => ⟨fun hi => ?_, fun hi habsent => ?_, fun hi hpresent => ?_⟩, fun h s ht => ?_⟩
  · exact congrArg Host.Outcome.next (State.request_refuse (owner := clearFaultAnswer i) ht (if_pos hi))
  · have hkept : s.atTake.clearIfPresent i = s.atTake := by
      unfold State.clearIfPresent
      rw [if_neg (by rw [show s.atTake.faultRecord i = s.faultRecord i from rfl, habsent]; decide)]
      exact FaultTable.Agrees.quietAlert_eq (s := s.atTake) ha
    refine congrArg Host.Outcome.next (State.request_report (owner := clearFaultAnswer i) ht ?_)
    unfold clearFaultAnswer
    rw [if_neg (by omega), hkept]
    rfl
  · have hcleared : s.atTake.clearIfPresent i = s.atTake.withFaults (s.clearFaultRecord i).faults := by
      unfold State.clearIfPresent
      rw [if_pos (Option.isSome_iff_ne_none.2 (show s.atTake.faultRecord i ≠ none from hpresent)),
        (s.atTake.clearFaultRecord_eq i).1, State.clearFaultRecord_atTake]
    obtain ⟨hframe, hrecords, hnext, hoverflow, hdropped, hfirst⟩ := s.clearFaultRecord_eq i
    refine ⟨(s.withFaults (s.clearFaultRecord i).faults).withMgmt (s.replied (.clearFault h i) h .ok (.faultCleared
      (s.clearFaultRecord i).faults.pending (s.clearFaultRecord i).presentFaults)), ?_, rfl, (hrecords i).trans (if_pos rfl),
      fun j hj => (hrecords j).trans (if_neg hj), hnext, hoverflow, hdropped, ha.clearFaultRecord i, fun hne => ?_,
      fun he j a hj hja m b hm hmj hmb => ?_⟩
    · refine congrArg Host.Outcome.next (State.request_answer (owner := clearFaultAnswer i) (e := .nothing)
        (u := s.atTake.withFaults (s.clearFaultRecord i).faults) ht ?_ rfl)
      unfold clearFaultAnswer
      rw [if_neg (by omega), hcleared]
      rfl
    · exact FaultTable.Agrees.first_clearFaultRecord ha hne
    · rw [if_pos (.inl he)] at hfirst
      exact State.oldestFault_oldest (s := s.clearFaultRecord i) (hfirst.symm.trans hj) hja hm hmj hmb
  · refine congrArg Host.Outcome.next (State.request_answer (owner := clearOverflowAnswer) (e := .nothing)
      (u := s.atTake.withFaults { s.faults with
        overflow := false, dropped := 0, alertPending := s.faults.alertPending && s.faults.pending }) ht ?_ rfl)
    unfold clearOverflowAnswer State.clearFaultOverflow
    rw [State.quietAlert_eq]
    simp only [State.withFaults_faults, Bool.or_false]
    rfl

end Sys2Proof.Machine
end

section
/-! SUPPORT. The show-port line, SET_SETTING and READ_COUNTERS (09). -/

namespace Sys2Proof.Machine

/-! ## The show-port line -/

/-- A pending alert stays pending while it is masked or the queue has no room (R189). -/
theorem State.sendPendingAlert_of_waits {s : State}
    (h : s.faults.alertPending = false ∨ s.settings.alertMask = true ∨ s.outboundRoom = false) :
    s.sendPendingAlert = s := by
  unfold State.sendPendingAlert
  rw [if_neg]
  rintro hc
  simp only [Bool.and_eq_true, Bool.not_eq_true'] at hc
  obtain ⟨⟨hp, hm⟩, hr⟩ := hc
  rw [hp, hm, hr] at h
  simp at h

/-- A pending alert is placed once it may be (R189). -/
theorem State.sendPendingAlert_of_sent {s : State} (hp : s.faults.alertPending = true)
    (hm : s.settings.alertMask = false) (hr : s.outboundRoom = true) :
    s.sendPendingAlert = s.placeAlert.withFaults { s.faults with alertPending := false } := by
  unfold State.sendPendingAlert
  rw [hp, hm, hr]
  rfl

/-- The line begins the oldest frame while it is free (R171). -/
theorem exec_showPortTransmitStart_of_begins {s : State} {f : OutFrame} {rest : List OutFrame}
    (hl : s.mgmt.line = none) (ho : s.mgmt.outbound = f :: rest) (takeFirst : Bool) :
    exec (.showPortTransmitStart takeFirst) s = .next (s.beginLine f rest takeFirst) := by
  change execShowPortTransmitStart takeFirst s = _
  simp only [execShowPortTransmitStart, hl, ho]

/-- A transmission ends at an instant later than its beginning (R171). -/
theorem exec_showPortTransmitEnd_of_ends {s : State} {f : OutFrame} {begun : Nat}
    (hl : s.mgmt.line = some ⟨f, begun⟩) (hb : begun < s.now) :
    exec .showPortTransmitEnd s = .next (s.endLine f) := by
  change execShowPortTransmitEnd s = _
  simp only [execShowPortTransmitEnd, hl, if_pos hb]

/-- The line takes a frame, and a pending alert stays pending. -/
theorem State.beginLine_of_waits {s : State} {f : OutFrame} {rest : List OutFrame} {takeFirst : Bool}
    (h : s.faults.alertPending = false ∨ s.settings.alertMask = true) :
    s.beginLine f rest takeFirst = s.withMgmt { s.mgmt with outbound := rest, line := some ⟨f, s.now⟩ } := by
  unfold State.beginLine
  dsimp only
  split
  · rfl
  · exact State.sendPendingAlert_of_waits (s := s.withMgmt _) (h.imp_right .inl)

/-- Settles O6: the freed place goes to the take when the operand says so and a request can claim it, and otherwise to
the pending alert. -/
theorem showPortLineSendsOldestFrame : Obligations.ShowPortLineSendsOldestFrame := by
  refine ⟨fun s f rest b hl ho ha => ?_, fun s f rest takeFirst hl ho ha hm hr hlen => ⟨fun hplaced => ?_,
    fun htake hq hp hfull => ?_⟩, fun s f rest takeFirst hl ho hm => ?_, fun s a begun hl hb hw => ?_,
    fun s r begun hl he hb hw => ?_⟩
  · rw [exec_showPortTransmitStart_of_begins hl ho, State.beginLine_of_waits (.inl ha)]
  · rw [exec_showPortTransmitStart_of_begins hl ho]
    unfold State.beginLine
    dsimp only
    rw [if_neg]
    · refine congrArg Host.Outcome.next (State.sendPendingAlert_of_sent (s := s.withMgmt _) ha hm ?_)
      simpa [State.outboundRoom, State.outboundUsed, hr] using hlen
    · simp only [State.withMgmt_mgmt, Bool.and_eq_true, Bool.not_eq_true', List.isEmpty_eq_false_iff, decide_eq_true_eq]
      rintro ⟨⟨⟨htake, hq⟩, hp⟩, hfull⟩
      obtain h | h | h | h := hplaced
      · rw [htake] at h; cases h
      · exact hq h
      · rw [hp] at h; cases h
      · omega
  · rw [exec_showPortTransmitStart_of_begins hl ho]
    unfold State.beginLine
    dsimp only
    rw [if_pos]
    simp [htake, hq, hp, hfull]
  · rw [exec_showPortTransmitStart_of_begins hl ho, State.beginLine_of_waits (.inr hm)]
  · rw [exec_showPortTransmitEnd_of_ends hl hb]
    exact congrArg Host.Outcome.next (State.sendPendingAlert_of_waits (s := s.withMgmt _) (hw.imp_right .inl))
  · rw [exec_showPortTransmitEnd_of_ends hl hb]
    unfold State.endLine
    dsimp only
    rw [he]
    exact congrArg Host.Outcome.next (State.sendPendingAlert_of_waits (s := s.withMgmt _) (hw.imp_right .inl))

/-! ## SET_SETTING -/

/-- Clamping changes a quantity exactly when the clamped one differs (R170). -/
theorem clamps_eq (lo hi n : Nat) : clamps lo hi n = decide (clamp lo hi n ≠ n) := by
  unfold clamps clamp
  by_cases h : n < lo
  · simp [h]; omega
  · by_cases h' : hi < n
    · simp [h, h']; omega
    · simp [h, h']

/-- The end of a transmitted reply, while no alert can be sent. -/
theorem exec_showPortTransmitEnd_nodeAddress {s : State} {r : Reply} {begun n : Nat}
    (hl : s.mgmt.line = some ⟨.reply r, begun⟩) (he : r.atEnd = .nodeAddress n) (hb : begun < s.now)
    (ha : s.faults.alertPending = false) :
    exec .showPortTransmitEnd s = .next ((s.withMgmt { s.mgmt with line := none }).endNodeChange n) := by
  rw [exec_showPortTransmitEnd_of_ends hl hb]
  unfold State.endLine
  dsimp only
  rw [he]
  refine congrArg Host.Outcome.next (State.sendPendingAlert_of_waits (.inl ?_))
  simpa using ha

/-- SET_SETTING of the node address is taken with the value in range (R176). -/
theorem setSettingAnswer_nodeAddress {v : Nat} (hlo : 1 ≤ v) (hhi : v ≤ 254) (s : State) :
    setSettingAnswer (some .nodeAddress) v s = s.changeNode v := by
  have hin : clamps 1 254 v = false := clamps_eq_false_iff.2 ⟨hlo, hhi⟩
  simp [setSettingAnswer, settingRange, hin]

/-- A setting is stored at the take, brought into its range (R170, R175). -/
theorem exec_setSetting_of_stored {h : ReqHead} {name : SettingName} {v w : Nat} {s : State}
    (ht : s.Takes (.setSetting h (some name) v) h) (hname : name ≠ .nodeAddress)
    (hw : w = clamp (settingRange name).1 (settingRange name).2 v) (hin : settingIdentity name = false ∨ w = v) :
    exec (.setSetting h (some name) v) s = .next ((s.atTake.storeSetting name w).placeReply
      ⟨h.origin, s.settings.nodeAddress, some (h.tag, 0x0902), okOrAdjusted (decide (w ≠ v)), .settingStored name w,
        .nothing⟩) := by
  change Host.Outcome.next (s.request _ h (setSettingAnswer (some name) v)) = _
  have hid : (settingIdentity name && decide (w ≠ v)) = false := by
    obtain hi | hi := hin
    · rw [hi]; rfl
    · simp [hi]
  have hanswer : setSettingAnswer (some name) v s.atTake =
      ⟨okOrAdjusted (decide (w ≠ v)), .settingStored name w, s.atTake.storeSetting name w, .nothing⟩ := by
    unfold setSettingAnswer
    dsimp only
    rw [clamps_eq, ← hw, hid, if_neg (by decide), if_neg hname]
  rw [State.request_of_takes ht, hanswer]
  rfl

/-- A setting but the prelude lead reaches nothing but its own store when no alert can be sent (R175). -/
theorem State.storeSetting_eq {s : State} {name : SettingName} {w : Nat} (hlead : name ≠ .preludeLead)
    (halert : name = .alertMask →
      (s.withMgmt { s.mgmt with settings := s.settings.store w .alertMask }).sendPendingAlert =
        s.withMgmt { s.mgmt with settings := s.settings.store w .alertMask }) :
    s.storeSetting name w = s.withMgmt { s.mgmt with settings := s.settings.store w name } := by
  unfold State.storeSetting State.settingReaches
  cases name with
  | preludeLead => exact absurd rfl hlead
  | alertMask => exact halert rfl
  | _ => rfl

/-- Settles O7: the node address waits for the end of its reply, every other setting is stored at the take. -/
theorem settingsAreStored : Obligations.SettingsAreStored := by
  refine ⟨⟨fun h v s ht => ?_, fun h v s ht hv => ?_, fun h v s ht hlo hhi hchange => ?_, fun h s ht hlo hhi hnone => ?_,
    fun s r begun n v hl he hb hp ha => ?_, fun s r begun n m v hl he hb hp hmn ha => ?_⟩,
    fun h name v w s hname ht hw => ⟨fun hid hne => ?_, fun hin hlead halert => ?_, fun hlead => ?_⟩,
    fun h s ht ha hlen => ?_, fun h v s ht ha hv => ?_⟩
  · exact congrArg Host.Outcome.next (State.request_refuse (owner := setSettingAnswer none v) ht rfl)
  · refine congrArg Host.Outcome.next (State.request_refuse (owner := setSettingAnswer (some .nodeAddress) v) ht ?_)
    have hout : clamps 1 254 v = true := by unfold clamps; simp; omega
    simp [setSettingAnswer, settingRange, settingIdentity, hout]
  · change Host.Outcome.next (s.request _ h (setSettingAnswer (some .nodeAddress) v)) = _
    rw [State.request_of_takes ht, setSettingAnswer_nodeAddress hlo hhi]
    unfold State.changeNode
    rw [if_neg]
    · rfl
    · rintro ⟨hnone, hsame⟩
      exact hchange.elim (fun hp => hp (by simpa using hnone)) fun hne => hne hsame
  · refine congrArg Host.Outcome.next (State.request_answer
      (owner := setSettingAnswer (some .nodeAddress) s.settings.nodeAddress) (u := s.atTake) ht ?_ rfl)
    rw [setSettingAnswer_nodeAddress hlo hhi]
    exact if_pos ⟨by simp [hnone], rfl⟩
  · rw [exec_showPortTransmitEnd_nodeAddress hl he hb ha]
    simp only [State.endNodeChange, State.withMgmt_mgmt, hp, if_pos]
    rfl
  · rw [exec_showPortTransmitEnd_nodeAddress hl he hb ha]
    simp only [State.endNodeChange, State.withMgmt_mgmt, hp, if_neg hmn]
  · refine congrArg Host.Outcome.next (State.request_refuse (owner := setSettingAnswer (some name) v) ht ?_)
    unfold setSettingAnswer
    dsimp only
    rw [clamps_eq, ← hw, hid, if_pos (by simpa using hne)]
  · rw [exec_setSetting_of_stored ht hname hw hin, State.storeSetting_eq hlead fun hn =>
      State.sendPendingAlert_of_waits (.inl (by simpa using halert hn))]
    rfl
  · subst hlead
    rw [exec_setSetting_of_stored ht hname hw (.inl rfl)]
    unfold State.storeSetting State.settingReaches
    dsimp only
    by_cases hsame : w = s.settings.preludeLead
    · rw [if_neg (by simpa [Settings.value] using hsame.symm), if_pos hsame]
      rfl
    · rw [if_pos (by simpa [Settings.value] using Ne.symm hsame), if_neg hsame]
      rfl
  · have hstored := exec_setSetting_of_stored ht (w := 0) (by decide) rfl (.inr rfl)
    have hsend : s.atTake.storeSetting .alertMask 0 =
        ((s.atTake.withMgmt { s.atTake.mgmt with settings := s.settings.store 0 .alertMask }).placeAlert).withFaults
          { s.faults with alertPending := false } :=
      State.sendPendingAlert_of_sent (s := s.atTake.withMgmt _) ha rfl
        (decide_eq_true (show s.mgmt.outbound.length + 1 < 8 by omega))
    rw [hsend] at hstored
    exact ⟨_, hstored, List.append_assoc _ _ _, rfl, rfl⟩
  · have hw : v = clamp 0 1 v := by
      obtain rfl | ⟨rfl, _⟩ := hv <;> rfl
    rw [exec_setSetting_of_stored ht (by decide) hw (.inr rfl), State.storeSetting_eq (by decide) fun _ =>
      State.sendPendingAlert_of_waits (.inr ?_)]
    · rw [show decide (v ≠ v) = false by simp]
      rfl
    · obtain rfl | ⟨rfl, hfull⟩ := hv
      · exact .inl rfl
      · exact .inr (decide_eq_false (show ¬ s.mgmt.outbound.length + 1 < 8 by omega))

/-! ## READ_COUNTERS -/

theorem State.clearGroup_atTake (s : State) (g : CounterGroup) (x : ManagementUnit) :
    (s.atTake.clearGroup g).withMgmt x = (s.clearGroup g).withMgmt x := by
  cases g <;> rfl

/-- READ_COUNTERS of a group that exists (R178). -/
theorem exec_readCounters_of_exists {h : ReqHead} {g : CounterGroup} {clear : Bool} {s : State}
    (ht : s.Takes (.readCounters h (some g) (some clear)) h) (hg : groupExists g = true) :
    exec (.readCounters h (some g) (some clear)) s = .next ((if clear then s.clearGroup g else s).withMgmt
      (s.replied (.readCounters h (some g) (some clear)) h .ok (s.groupCounters g))) := by
  have hcounters : s.atTake.groupCounters g = s.groupCounters g := by cases g <;> rfl
  have hanswer : readCountersAnswer (some g) (some clear) s.atTake =
      ⟨.ok, s.groupCounters g, if clear then s.atTake.clearGroup g else s.atTake, .nothing⟩ := by
    simp [readCountersAnswer, hg, hcounters]
  refine (congrArg Host.Outcome.next (State.request_answer ht hanswer ?_)).trans ?_
  · cases clear with
    | false => rfl
    | true => cases g <;> rfl
  · cases clear with
    | false => rfl
    | true => exact congrArg Host.Outcome.next (s.clearGroup_atTake g _)

/-- READ_COUNTERS of a group that does not exist is refused (R178). -/
theorem exec_readCounters_of_missing {h : ReqHead} {g : CounterGroup} {clear : Bool} {s : State}
    (ht : s.Takes (.readCounters h (some g) (some clear)) h) (hg : groupExists g = false) :
    exec (.readCounters h (some g) (some clear)) s =
      .next (s.repliesOnly (.readCounters h (some g) (some clear)) h .refusedRange .none) := by
  refine congrArg Host.Outcome.next (State.request_refuse (owner := readCountersAnswer (some g) (some clear)) ht ?_)
  simp [readCountersAnswer, hg]

/-- Settles O9: a group that exists is reported, and cleared when asked. -/
theorem readCountersReportsThenClears : Obligations.ReadCountersReportsThenClears := by
  refine ⟨fun h clear s ht => exec_readCounters_of_exists ht rfl, fun h clear s ht => exec_readCounters_of_exists ht rfl,
    fun h i clear s ht => ?_, fun h l clear s ht => ?_⟩
  · split
    · next hi => exact exec_readCounters_of_missing ht (decide_eq_false (by omega))
    · next hi => exact exec_readCounters_of_exists ht (decide_eq_true (by omega))
  · split
    · next hl => exact exec_readCounters_of_missing ht (decide_eq_false (by omega))
    · next hl => exact exec_readCounters_of_exists ht (decide_eq_true (by omega))

end Sys2Proof.Machine
end

section
/-! SUPPORT. Cue memory: free runs and allocation, and the requests that open, fill, close and delete a show (03). -/

namespace Sys2Proof.Machine

/-! ## Free runs -/

/-- Records base through base + n - 1 exist and lie in no run (R44). -/
def FreeRun (runs : List (Nat × Nat)) (base n : Nat) : Prop :=
  base + n ≤ 4096 ∧ ∀ r ∈ runs, base + n ≤ r.1 ∨ r.1 + r.2 ≤ base

theorem isFreeRun_iff (runs : List (Nat × Nat)) (base n : Nat) : isFreeRun runs base n = true ↔ FreeRun runs base n := by
  simp [isFreeRun, FreeRun]

theorem mem_runCandidates {runs : List (Nat × Nat)} {b : Nat} :
    b ∈ runCandidates runs ↔ b = 0 ∨ ∃ r ∈ runs, b = r.1 + r.2 := by
  simp [runCandidates, eq_comm]

/-- A free run of which none begins lower begins at record 0 or just after a run. -/
theorem FreeRun.candidate {runs : List (Nat × Nat)} {b n : Nat} (h : FreeRun runs b n)
    (least : ∀ a, a < b → ¬ FreeRun runs a n) : b ∈ runCandidates runs := by
  obtain ⟨hend, hruns⟩ := h
  rw [mem_runCandidates]
  by_cases hb : b = 0
  · exact .inl hb
  · right
    by_contra hno
    refine least (b - 1) (by omega) ⟨by omega, fun r hr => ?_⟩
    obtain hr' | hr' := hruns r hr
    · exact .inl (by omega)
    · have : b ≠ r.1 + r.2 := fun he => hno ⟨r, hr, he⟩
      exact .inr (by omega)

/-- The lowest of a list is in it, and nothing in it is lower. -/
theorem lowest_spec (l : List Nat) :
    (∀ b, lowest l = some b → b ∈ l ∧ ∀ a ∈ l, b ≤ a) ∧ (lowest l = none → l = []) := by
  have hfold : ∀ (l : List Nat) (c : Nat), l.foldl min c ∈ c :: l ∧ ∀ a ∈ c :: l, l.foldl min c ≤ a := by
    intro l
    induction l with
    | nil => intro c; simp
    | cons d l ih =>
      intro c
      obtain ⟨hmem, hle⟩ := ih (min c d)
      rw [List.foldl_cons]
      have hmin := hle _ (List.mem_cons_self ..)
      refine ⟨?_, fun a ha => ?_⟩
      · obtain he | hl := List.mem_cons.1 hmem
        · rw [he]
          obtain hc | hd := Nat.le_total c d
          · rw [Nat.min_eq_left hc]; exact List.mem_cons_self ..
          · rw [Nat.min_eq_right hd]; exact List.mem_cons_of_mem _ (List.mem_cons_self ..)
        · exact List.mem_cons_of_mem _ (List.mem_cons_of_mem _ hl)
      · obtain rfl | ha := List.mem_cons.1 ha
        · exact hmin.trans (Nat.min_le_left _ _)
        · obtain rfl | ha := List.mem_cons.1 ha
          · exact hmin.trans (Nat.min_le_right _ _)
          · exact hle a (List.mem_cons_of_mem _ ha)
  cases l with
  | nil => exact ⟨nofun, fun _ => rfl⟩
  | cons c l => exact ⟨by rintro b ⟨⟩; exact hfold l c, nofun⟩

/-- An allocation gives the free run with the lowest base, and none only when there is none (R44). -/
theorem allocate_spec (runs : List (Nat × Nat)) (n : Nat) :
    (∀ b, allocate runs n = some b → FreeRun runs b n ∧ ∀ a, a < b → ¬ FreeRun runs a n) ∧
      (allocate runs n = none → ∀ a, ¬ FreeRun runs a n) := by
  have hmem : ∀ b, b ∈ (runCandidates runs).filter (fun b => isFreeRun runs b n) ↔
      b ∈ runCandidates runs ∧ FreeRun runs b n := fun b => by rw [List.mem_filter, isFreeRun_iff]
  obtain ⟨hsome, hnone⟩ := lowest_spec ((runCandidates runs).filter (fun b => isFreeRun runs b n))
  have hleast : ∀ a, FreeRun runs a n → ∃ c ∈ (runCandidates runs).filter (fun b => isFreeRun runs b n), c ≤ a := by
    intro a ha
    induction a using Nat.strong_induction_on with
    | _ a ih =>
      by_cases hlower : ∃ c, c < a ∧ FreeRun runs c n
      · obtain ⟨c, hc, hfree⟩ := hlower
        obtain ⟨d, hd, hdc⟩ := ih c hc hfree
        exact ⟨d, hd, hdc.trans (Nat.le_of_lt hc)⟩
      · exact ⟨a, (hmem a).2 ⟨ha.candidate fun c hc hf => hlower ⟨c, hc, hf⟩, ha⟩, Nat.le_refl _⟩
  refine ⟨fun b hb => ?_, fun hn a ha => ?_⟩
  · obtain ⟨hin, hle⟩ := hsome b hb
    refine ⟨((hmem b).1 hin).2, fun a ha hfree => ?_⟩
    obtain ⟨c, hc, hca⟩ := hleast a hfree
    exact absurd (hle c hc) (by omega)
  · obtain ⟨c, hc, _⟩ := hleast a ha
    rw [hnone hn] at hc
    cases hc

theorem allocate_eq_some_iff (runs : List (Nat × Nat)) (n b : Nat) :
    allocate runs n = some b ↔ FreeRun runs b n ∧ ∀ a, a < b → ¬ FreeRun runs a n := by
  obtain ⟨hsome, hnone⟩ := allocate_spec runs n
  refine ⟨hsome b, fun ⟨hfree, hleast⟩ => ?_⟩
  cases hr : allocate runs n with
  | none => exact absurd hfree (hnone hr b)
  | some c =>
    obtain ⟨hcfree, hcleast⟩ := hsome c hr
    obtain hlt | rfl | hgt := Nat.lt_trichotomy b c
    · exact absurd hfree (hcleast b hlt)
    · rfl
    · exact absurd hcfree (hleast c hgt)

theorem allocate_eq_none_iff (runs : List (Nat × Nat)) (n : Nat) :
    allocate runs n = none ↔ ∀ a, ¬ FreeRun runs a n := by
  refine ⟨(allocate_spec runs n).2, fun hno => ?_⟩
  cases hr : allocate runs n with
  | none => rfl
  | some b => exact absurd ((allocate_spec runs n).1 b hr).1 (hno b)

/-! ## The runs of the shows -/

theorem ShowState.run_eq_some_iff (st : ShowState) (r : Nat × Nat) :
    st.run = some r ↔ st = .loading r.1 r.2 ∨ st = .ready r.1 r.2 := by
  obtain ⟨b, n⟩ := r
  cases st <;> simp [ShowState.run]

/-- A run belongs to some show exactly when a show holds it (R44). -/
theorem State.mem_runs_iff {s : State} (h : Table.wf .blank s.cueStore.shows = true) (r : Nat × Nat) :
    r ∈ s.runs ↔ ∃ x, s.HoldsRun x r := by
  unfold State.runs State.HoldsRun
  simp only [List.mem_filterMap, ← ShowState.run_eq_some_iff]
  constructor
  · rintro ⟨p, hp, hr⟩
    refine ⟨p.1, ?_⟩
    rw [← hr, State.showRecord, Table.read_of_mem h hp]
  · rintro ⟨x, hx⟩
    have hne : Table.read .blank s.cueStore.shows x ≠ .blank := by
      intro he
      rw [State.showRecord, he] at hx
      cases hx
    exact ⟨_, Table.mem_of_read hne, hx⟩

/-- The runs of the other shows (R47). -/
theorem State.mem_runsWithout_iff {s : State} (h : Table.wf .blank s.cueStore.shows = true) (sh : Nat) (r : Nat × Nat) :
    r ∈ s.runsWithout sh ↔ ∃ x, x ≠ sh ∧ s.HoldsRun x r := by
  unfold State.runsWithout
  rw [State.mem_runs_iff (s := s.setShow sh .blank) (Table.wf_write _ _ sh ShowRecord.blank h)]
  refine exists_congr fun x => ?_
  unfold State.HoldsRun
  rw [State.showRecord_setShow]
  by_cases hx : x = sh
  · simp [hx, ShowRecord.blank]
  · simp [hx]

/-! ## OPEN_SHOW -/

/-- What an allocation for a show leaves: its run is LOADING with clear marks, everything else stays (R46, R47). -/
theorem State.allocateShow_effect (s : State) (sh base n : Nat) :
    (s.allocateShow sh base n).showRecord sh = { s.showRecord sh with state := .loading base n } ∧
    (∀ x, x ≠ sh → (s.allocateShow sh base n).showRecord x = s.showRecord x) ∧
    (∀ i, base ≤ i → i < base + n → (s.allocateShow sh base n).cue i = none) ∧
    (∀ i, (i < base ∨ base + n ≤ i) → (s.allocateShow sh base n).cue i = s.cue i) := by
  have hcue : ∀ i, (s.allocateShow sh base n).cue i = if inRun base n i then none else s.cue i := by
    intro i
    refine (Table.read_keep none s.cueStore.cues (fun i => !inRun base n i) i).trans ?_
    cases inRun base n i <;> rfl
  have hrecord := fun x => s.showRecord_setShow sh x { s.showRecord sh with state := .loading base n }
  refine ⟨(hrecord sh).trans (if_pos rfl), fun x hx => (hrecord x).trans (if_neg hx), fun i hlo hhi => ?_, fun i hi => ?_⟩
  · rw [hcue, if_pos (by simp [inRun, hlo, hhi])]
  · rw [hcue, if_neg (by simp only [inRun, Bool.and_eq_true, decide_eq_true_eq]; omega)]

/-- Settles O26: an allocation is the lowest of the candidates that are free, and the lowest free run begins at one. -/
theorem openShowAllocates : Obligations.OpenShowAllocates := by
  refine ⟨fun runs n => ⟨fun b => allocate_eq_some_iff runs n b, allocate_eq_none_iff runs n⟩,
    fun s sh r hwf => ⟨s.mem_runs_iff hwf r, s.mem_runsWithout_iff hwf sh r⟩, fun h sh n s ht => ⟨fun hout => ?_,
      fun hsh hlo hhi hstate => ?_, fun runs hsh hlo hhi hstate => ?_⟩⟩
  · exact congrArg Host.Outcome.next (State.request_refuse (owner := openShowAnswer sh n) ht (if_pos hout))
  · have hin : ¬ (63 < sh ∨ n = 0 ∨ 4096 < n) := by omega
    refine congrArg Host.Outcome.next (State.request_refuse (owner := openShowAnswer sh n) ht ?_)
    have hrecord : s.atTake.showRecord sh = s.showRecord sh := rfl
    unfold openShowAnswer
    rw [if_neg hin, hrecord]
    obtain ⟨b, k, hs⟩ | ⟨b, k, hs, hp⟩ := hstate
    · rw [hs]
    · rw [hs]
      exact if_pos hp
  · have hin : ¬ (63 < sh ∨ n = 0 ∨ 4096 < n) := by omega
    have hanswer : openShowAnswer sh n s.atTake = s.atTake.openIn runs sh n := by
      have hrecord : s.atTake.showRecord sh = s.showRecord sh := rfl
      unfold openShowAnswer
      rw [if_neg hin, hrecord]
      obtain ⟨hs, rfl⟩ | ⟨b, k, hs, hp, rfl⟩ := hstate
      · rw [hs]; rfl
      · rw [hs]
        exact if_neg (by omega)
    refine ⟨fun hnone => ?_, fun base hsome => ?_⟩
    · refine congrArg Host.Outcome.next (State.request_refuse (owner := openShowAnswer sh n) ht ?_)
      rw [hanswer, State.openIn, hnone]
    · obtain ⟨hself, hother, hclear, hkept⟩ := s.allocateShow_effect sh base n
      refine ⟨(s.allocateShow sh base n).withMgmt (s.replied (.openShow h sh n) h .ok (.showOpened base)), ?_, rfl,
        hself, hother, hclear, hkept⟩
      refine congrArg Host.Outcome.next (State.request_answer (owner := openShowAnswer sh n) (e := .nothing)
        (u := s.atTake.allocateShow sh base n) ht ?_ rfl)
      rw [hanswer, State.openIn, hsome]

/-! ## WRITE_CUES -/

/-- Every record has a stored form exactly when the list of them has (R49). -/
theorem cueRecords_eq_some_iff (as : List CueArgs) (rs : List (CueRecord × Bool)) :
    cueRecords as = some rs ↔ as.map cueRecordOf = rs.map some := by
  induction as generalizing rs with
  | nil => cases rs <;> simp [cueRecords]
  | cons a as ih =>
    unfold cueRecords
    cases ha : cueRecordOf a with
    | none => cases rs <;> simp [ha]
    | some r =>
      cases hr : cueRecords as with
      | none =>
        cases rs with
        | nil => simp
        | cons q rs =>
          have := (ih rs).not.1 (by simp [hr])
          simp [this]
      | some qs =>
        cases rs with
        | nil => simp
        | cons q rs =>
          have := ih rs
          rw [hr, Option.some.injEq] at this
          simp [ha, this]

theorem cueRecords_eq_none_iff (as : List CueArgs) : cueRecords as = none ↔ ∃ a ∈ as, cueRecordOf a = none := by
  induction as with
  | nil => simp [cueRecords]
  | cons a as ih =>
    unfold cueRecords
    cases ha : cueRecordOf a with
    | none => simp [ha]
    | some r => cases hr : cueRecords as <;> simp [ha, ← ih, hr]

/-- A record of cue memory once records are written from index i on (R50). -/
theorem State.cue_writeCueRecords (s : State) (i j : Nat) (rs : List CueRecord) :
    (s.writeCueRecords i rs).cue j = if i ≤ j ∧ j < i + rs.length then rs[j - i]? else s.cue j := by
  have hfold : ∀ (rs : List CueRecord) (t : Table (Option CueRecord)) (i : Nat),
      Table.read none (rs.foldl (fun p r => (Table.write none p.1 p.2 (some r), p.2 + 1)) (t, i)).1 j =
        if i ≤ j ∧ j < i + rs.length then rs[j - i]? else Table.read none t j := by
    intro rs
    induction rs with
    | nil => intro t i; rw [if_neg (by simp only [List.length_nil]; omega)]; rfl
    | cons r rs ih =>
      intro t i
      rw [List.foldl_cons, ih, Table.read_write, List.length_cons]
      by_cases hj : j = i
      · subst hj
        rw [if_neg (by omega), if_pos rfl, if_pos (by omega), Nat.sub_self]
        rfl
      · rw [if_neg hj]
        by_cases hin : i + 1 ≤ j ∧ j < i + 1 + rs.length
        · rw [if_pos hin, if_pos (by omega), show j - i = (j - (i + 1)) + 1 by omega, List.getElem?_cons_succ]
        · rw [if_neg hin, if_neg (by omega)]
  exact hfold rs s.cueStore.cues i

theorem clamps_zero (hi n : Nat) : clamps 0 hi n = decide (hi < n) := by
  simp [clamps]

theorem clampLook_eq (l : Look) : clampLook l = ⟨min l.red 4095, min l.green 4095, min l.blue 4095⟩ := by
  simp only [clampLook, clamp_zero]

/-- The stored form of a record, kind by kind (R49, R50). -/
theorem cueRecordOf_eq_some_iff (a : CueArgs) (r : CueRecord) (adjusted : Bool) {look : Look} {fade : Nat}
    {lookOver fadeOver : Bool} (hlook : look = ⟨min a.look.red 4095, min a.look.green 4095, min a.look.blue 4095⟩)
    (hfade : fade = min a.fade 600000)
    (hlookOver : lookOver = decide (4095 < a.look.red ∨ 4095 < a.look.green ∨ 4095 < a.look.blue))
    (hfadeOver : fadeOver = decide (600000 < a.fade)) :
    cueRecordOf a = some (r, adjusted) ↔ a.strayFlags = false ∧ r.offset = a.offset ∧
      ((∃ c, a.kind = some .look ∧ a.curve = some c ∧ r.cue = .look a.zoneFirst a.zoneCount look fade c ∧
          adjusted = (lookOver || fadeOver)) ∨
        (∃ c l, a.kind = some .follow ∧ a.curve = some c ∧ a.policy = some l ∧
          r.cue = .follow a.zoneFirst a.zoneCount look a.source l fade c ∧ adjusted = (lookOver || fadeOver)) ∨
        (a.kind = some .release ∧ r.cue = .release a.zoneFirst a.zoneCount ∧ adjusted = false) ∨
        (a.kind = some .master ∧ r.cue = .master (min a.master 4096) fade ∧
          adjusted = (decide (4096 < a.master) || fadeOver)) ∨
        (a.kind = some .hold ∧ r.cue = .hold (min a.holdLimit 3600) ∧ adjusted = decide (3600 < a.holdLimit)) ∨
        (a.kind = some .finish ∧ r.cue = .finish fade ∧ adjusted = fadeOver)) := by
  have hover : (clamps 0 4095 a.look.red || clamps 0 4095 a.look.green || clamps 0 4095 a.look.blue) = lookOver := by
    rw [hlookOver]
    simp only [clamps_zero, Bool.decide_or, Bool.or_assoc]
  obtain ⟨offset, cue⟩ := r
  unfold cueRecordOf
  rw [hover, clampLook_eq, ← hlook]
  simp only [clamp_zero, clamps_zero, ← hfade, ← hfadeOver]
  have hshape : ∀ (c : Cue) (b : Bool), (some ((⟨a.offset, c⟩ : CueRecord), b) = some (⟨offset, cue⟩, adjusted)) ↔
      offset = a.offset ∧ cue = c ∧ adjusted = b := by
    intro c b
    simp only [Option.some.injEq, Prod.mk.injEq, CueRecord.mk.injEq]
    exact ⟨fun ⟨⟨ho, hc⟩, hb⟩ => ⟨ho.symm, hc.symm, hb.symm⟩, fun ⟨ho, hc, hb⟩ => ⟨⟨ho.symm, hc.symm⟩, hb.symm⟩⟩
  cases a.strayFlags with
  | true => simp
  | false =>
    cases a.kind with
    | none => simp
    | some k =>
      cases k with
      | look => cases a.curve <;> simp [hshape]
      | follow => cases a.curve <;> cases a.policy <;> simp [hshape]
      | _ => simp [hshape]

/-- Settles O27: in LOADING the records are stored one after another, in READY they are checked and refused. -/
theorem writeCuesStoresRecords : Obligations.WriteCuesStoresRecords := by
  refine ⟨fun h sh first as rs base count s ht hsh hstate hlo hhi hfits hforms => ?_,
    fun h sh first as s ht hbad => ?_, fun h sh first as s ht hsh hstate => ?_,
    fun h sh first b k as s ht hsh hstate => ⟨fun hbad => ?_, fun hlo hhi hgood => ?_⟩,
    fun a r adjusted look fade lookOver fadeOver hlook hfade hlookOver hfadeOver =>
      cueRecordOf_eq_some_iff a r adjusted hlook hfade hlookOver hfadeOver⟩
  · have hlen : rs.length = as.length := by simpa using (congrArg List.length hforms).symm
    have hcue := fun j => s.cue_writeCueRecords (base + first) j (rs.map fun r => r.1)
    refine ⟨(s.writeCueRecords (base + first) (rs.map fun r => r.1)).withMgmt (s.replied (.writeCues h sh first as) h
      (if rs.any (·.2) then .adjusted else .ok) (.cuesStored as.length)), ?_, rfl, rfl, fun j r hj => ?_, fun i hi => ?_⟩
    · have hanswer : writeCuesAnswer sh first as s.atTake = ⟨okOrAdjusted (rs.any (·.2)), .cuesStored as.length,
          s.atTake.writeCueRecords (base + first) (rs.map fun r => r.1), .nothing⟩ := by
        unfold writeCuesAnswer
        rw [if_neg (by omega), show s.atTake.showRecord sh = s.showRecord sh from rfl, hstate]
        dsimp only
        rw [if_neg (by omega), (cueRecords_eq_some_iff as rs).2 hforms]
        dsimp only [State.storeCues]
        rw [if_neg (by omega), hlen]
      exact State.next_request_answer ht hanswer rfl rfl
    · have hjl : j < rs.length := (List.getElem?_eq_some_iff.1 hj).1
      refine (hcue _).trans ?_
      rw [if_pos (by rw [List.length_map]; omega), show base + first + j - (base + first) = j by omega,
        List.getElem?_map, hj]
      rfl
    · refine (hcue _).trans (if_neg ?_)
      rw [List.length_map]
      omega
  · refine congrArg Host.Outcome.next (State.request_refuse (owner := writeCuesAnswer sh first as) ht ?_)
    unfold writeCuesAnswer
    obtain hsh | ⟨b, k, hstate, hbad⟩ := hbad
    · exact if_pos hsh
    · split
      · rfl
      rw [show s.atTake.showRecord sh = s.showRecord sh from rfl, hstate]
      dsimp only
      split
      · rfl
      · next hlen =>
        cases hr : cueRecords as with
        | none => rfl
        | some rs =>
          have hrs : rs.length = as.length := by
            simpa using (congrArg List.length ((cueRecords_eq_some_iff as rs).1 hr)).symm
          have hnone : ¬ ∃ a ∈ as, cueRecordOf a = none := fun hn => by
            rw [(cueRecords_eq_none_iff as).2 hn] at hr; cases hr
          refine if_pos ?_
          obtain hb | hb | hb | hb := hbad
          · exact absurd (.inl hb) hlen
          · exact absurd (.inr hb) hlen
          · omega
          · exact absurd hb hnone
  · refine congrArg Host.Outcome.next (State.request_refuse (owner := writeCuesAnswer sh first as) ht ?_)
    unfold writeCuesAnswer
    rw [if_neg (by omega), show s.atTake.showRecord sh = s.showRecord sh from rfl, hstate]
  · refine congrArg Host.Outcome.next (State.request_refuse (owner := writeCuesAnswer sh first as) ht ?_)
    unfold writeCuesAnswer
    rw [if_neg (by omega), show s.atTake.showRecord sh = s.showRecord sh from rfl, hstate]
    refine if_pos ?_
    rwa [Option.isNone_iff_eq_none, cueRecords_eq_none_iff]
  · refine congrArg Host.Outcome.next (State.request_refuse (owner := writeCuesAnswer sh first as) ht ?_)
    unfold writeCuesAnswer
    rw [if_neg (by omega), show s.atTake.showRecord sh = s.showRecord sh from rfl, hstate]
    refine if_neg ?_
    rw [Option.isNone_iff_eq_none, cueRecords_eq_none_iff]
    rintro (hn | hn | ⟨a, ha, hn⟩)
    · omega
    · omega
    · exact hgood a ha hn

/-! ## CLOSE_SHOW and DELETE_SHOW -/

/-- No record of the run is bad (R51). -/
theorem State.firstBad_eq_none {s : State} {base count : Nat}
    (h : ∀ i, i < count → badReason (s.cueBefore base i) (s.cue (base + i)) = none) : s.firstBad base count = none := by
  refine List.findSome?_eq_none_iff.2 fun i hi => ?_
  rw [h i (List.mem_range.1 hi)]
  rfl

/-- The first bad record of a run (R51). -/
theorem State.firstBad_eq_some {s : State} {base count i : Nat} {reason : BadReason} (hi : i < count)
    (hbad : badReason (s.cueBefore base i) (s.cue (base + i)) = some reason)
    (hbefore : ∀ j, j < i → badReason (s.cueBefore base j) (s.cue (base + j)) = none) :
    s.firstBad base count = some (i, reason) := by
  refine List.findSome?_eq_some_iff.2 ⟨List.range i, i, (List.range (count - i - 1)).map (i + 1 + ·), ?_, ?_,
    fun j hj => ?_⟩
  · have hsplit : count = i + 1 + (count - i - 1) := by omega
    conv_lhs => rw [hsplit, List.range_add, List.range_succ]
    simp
  · rw [hbad]; rfl
  · rw [hbefore j (List.mem_range.1 hj)]; rfl

theorem zonesFit_eq_false_iff (z n : Nat) : zonesFit z n = false ↔ 239 < z ∨ n = 0 ∨ 240 < n ∨ 240 < z + n := by
  simp only [zonesFit, Bool.and_eq_false_iff, decide_eq_false_iff_not]
  omega

/-- A cue's zone range fails check 4 of R51. -/
theorem Cue.zonesOutside_iff (c : Cue) : c.zones.any (fun z => !zonesFit z.1 z.2) = true ↔ c.ZonesOutside := by
  unfold Cue.ZonesOutside
  cases c <;> simp [Cue.zones, zonesFit_eq_false_iff]

/-- A cue's source fails check 5 of R51. -/
theorem Cue.sourceOutside_iff (c : Cue) : c.source.any (fun src => decide (7 < src)) = true ↔ c.SourceOutside := by
  unfold Cue.SourceOutside
  cases c <;> simp [Cue.source]

/-- The five checks of a record, in order (R51). -/
theorem badReason_some (previous : Option CueRecord) (r : CueRecord) : badReason previous (some r) =
    if 14400000 < r.offset then some .offsetRange
    else if previous.any (fun p => decide (r.offset < p.offset)) then some .offsetOrder
    else if (r.cue.zones).any (fun z => !zonesFit z.1 z.2) then some .zoneRange
    else if r.cue.source.any (fun src => decide (7 < src)) then some .sourceRange
    else none := rfl

/-- Settles O28: the first bad record is the first one that the search meets, and its reason the first failed check. -/
theorem closeAndDeleteShow : Obligations.CloseAndDeleteShow := by
  refine ⟨fun h sh base count s ht hsh hstate => ⟨fun hgood => ?_, fun i reason hi hbad hbefore => ?_⟩,
    fun h sh s ht hsh hstate => ?_, fun h sh s hsh => ⟨fun ht => ?_, fun ht => ?_⟩,
    fun s base i => ⟨rfl, rfl⟩, fun previous r => ⟨rfl, fun hoff => ?_, fun q hoff hq hlt => ?_,
      fun hoff hq => ?_⟩, fun h sh s ht hsh => ⟨fun hp => ?_, fun hp => ?_⟩⟩
  · refine ⟨(s.setShow sh { s.showRecord sh with state := .ready base count }).withMgmt
      (s.replied (.closeShow h sh) h .ok .none), ?_, rfl, rfl, (State.showRecord_setShow s sh sh _).trans (if_pos rfl),
      fun x hx => (State.showRecord_setShow s sh x _).trans (if_neg hx)⟩
    refine congrArg Host.Outcome.next (State.request_answer (owner := closeShowAnswer sh) (e := .nothing)
      (u := s.atTake.setShow sh { s.showRecord sh with state := .ready base count }) ht ?_ rfl)
    unfold closeShowAnswer
    rw [if_neg (by omega), show s.atTake.showRecord sh = s.showRecord sh from rfl, hstate]
    dsimp only
    rw [State.firstBad_eq_none (s := s.atTake) hgood]
    rfl
  · refine congrArg Host.Outcome.next (State.request_answer (owner := closeShowAnswer sh) (e := .nothing)
      (u := s.atTake) ht ?_ rfl)
    unfold closeShowAnswer
    rw [if_neg (by omega), show s.atTake.showRecord sh = s.showRecord sh from rfl, hstate]
    dsimp only
    rw [State.firstBad_eq_some (s := s.atTake) hi hbad hbefore]
  · refine congrArg Host.Outcome.next (State.request_refuse (owner := closeShowAnswer sh) ht ?_)
    unfold closeShowAnswer
    rw [if_neg (by omega), show s.atTake.showRecord sh = s.showRecord sh from rfl]
    obtain hs | ⟨b, k, hs⟩ := hstate <;> rw [hs]
  · exact congrArg Host.Outcome.next (State.request_refuse (owner := closeShowAnswer sh) ht (if_pos hsh))
  · exact congrArg Host.Outcome.next (State.request_refuse (owner := deleteShowAnswer sh) ht (if_pos hsh))
  · rw [badReason_some, if_pos hoff]
  · rw [badReason_some, if_neg (by omega), hq, if_pos (by simpa using hlt)]
  · have horder : ¬ previous.any (fun p => decide (r.offset < p.offset)) = true := by
      cases previous with
      | none => simp
      | some q => simpa using hq q rfl
    rw [badReason_some, if_neg (by omega), if_neg horder, ← Cue.zonesOutside_iff, ← Cue.sourceOutside_iff]
    exact ⟨fun hz => if_pos hz, fun hz hsrc => by rw [if_neg hz, if_pos hsrc],
      fun hz hsrc => by rw [if_neg hz, if_neg hsrc]⟩
  · refine congrArg Host.Outcome.next (State.request_refuse (owner := deleteShowAnswer sh) ht ?_)
    unfold deleteShowAnswer
    rw [if_neg (by omega)]
    exact if_pos hp
  · refine ⟨(s.setShow sh { s.showRecord sh with state := .empty }).withMgmt
      (s.replied (.deleteShow h sh) h .ok .none), ?_, rfl, rfl,
      ((State.showRecord_setShow s sh sh _).trans (if_pos rfl)).trans (congrArg (ShowRecord.mk .empty) hp),
      fun x hx => (State.showRecord_setShow s sh x _).trans (if_neg hx)⟩
    refine congrArg Host.Outcome.next (State.request_answer (owner := deleteShowAnswer sh) (e := .nothing)
      (u := s.atTake.setShow sh { s.showRecord sh with state := .empty }) ht ?_ rfl)
    unfold deleteShowAnswer
    rw [if_neg (by omega), if_neg (by rw [show s.atTake.showRecord sh = s.showRecord sh from rfl]; omega)]
    rfl

end Sys2Proof.Machine
end

section
/-! SUPPORT. The free records of cue memory that READ_SHOW reports, and the reads (02 to 08). -/

namespace Sys2Proof.Machine

/-! ## Free records -/

/-- The first record that a run holds from base on, or the end of cue memory (R54). -/
def nextTaken (runs : List (Nat × Nat)) (base : Nat) : Nat :=
  runs.foldl (fun e r => if base ≤ r.1 ∧ 0 < r.2 then min e r.1 else e) 4096

theorem freeLength_eq (runs : List (Nat × Nat)) (base : Nat) : freeLength runs base =
    if runs.any (fun r => decide (r.1 ≤ base) && decide (base < r.1 + r.2)) then 0 else nextTaken runs base - base := rfl

/-- No run holds the record, and it exists (R44). -/
def FreeRecord (runs : List (Nat × Nat)) (i : Nat) : Prop := i < 4096 ∧ ∀ r ∈ runs, i < r.1 ∨ r.1 + r.2 ≤ i

theorem State.recordFree_iff (s : State) (i : Nat) : s.recordFree i = true ↔ FreeRecord s.runs i := by
  simp [State.recordFree, FreeRecord]

theorem State.recordFree_eq_false_iff (s : State) (i : Nat) : s.recordFree i = false ↔ ¬ FreeRecord s.runs i := by
  rw [← State.recordFree_iff, Bool.not_eq_true]

theorem nextTaken_spec (runs : List (Nat × Nat)) (base : Nat) :
    nextTaken runs base ≤ 4096 ∧ (∀ r ∈ runs, base ≤ r.1 → 0 < r.2 → nextTaken runs base ≤ r.1) ∧
      ∀ e, e ≤ 4096 → (∀ r ∈ runs, base ≤ r.1 → 0 < r.2 → e ≤ r.1) → e ≤ nextTaken runs base := by
  have hfold : ∀ (l : List (Nat × Nat)) (a : Nat),
      (l.foldl (fun e r => if base ≤ r.1 ∧ 0 < r.2 then min e r.1 else e) a ≤ a) ∧
      (∀ r ∈ l, base ≤ r.1 → 0 < r.2 → l.foldl (fun e r => if base ≤ r.1 ∧ 0 < r.2 then min e r.1 else e) a ≤ r.1) ∧
      ∀ e, e ≤ a → (∀ r ∈ l, base ≤ r.1 → 0 < r.2 → e ≤ r.1) →
        e ≤ l.foldl (fun e r => if base ≤ r.1 ∧ 0 < r.2 then min e r.1 else e) a := by
    intro l
    induction l with
    | nil => exact fun a => ⟨Nat.le_refl _, nofun, fun e he _ => he⟩
    | cons q l ih =>
      intro a
      obtain ⟨hinit, hle, hge⟩ := ih (if base ≤ q.1 ∧ 0 < q.2 then min a q.1 else a)
      rw [List.foldl_cons]
      refine ⟨hinit.trans ?_, fun r hr hb hn => ?_, fun e he hall => hge e ?_ fun r hr => hall r (List.mem_cons_of_mem _ hr)⟩
      · split <;> omega
      · obtain rfl | hr := List.mem_cons.1 hr
        · refine hinit.trans ?_
          rw [if_pos ⟨hb, hn⟩]
          exact Nat.min_le_right _ _
        · exact hle r hr hb hn
      · split
        · next hq => exact Nat.le_min.2 ⟨he, hall q (List.mem_cons_self ..) hq.1 hq.2⟩
        · exact he
  exact hfold runs 4096

/-- The records from a place on are free for the length of the free run that begins there. -/
theorem freeLength_free {runs : List (Nat × Nat)} {b i : Nat} (hlo : b ≤ i) (hhi : i < b + freeLength runs b) :
    FreeRecord runs i := by
  obtain ⟨hend, hrun, _⟩ := nextTaken_spec runs b
  rw [freeLength_eq] at hhi
  split at hhi
  · omega
  · next hany =>
    refine ⟨by omega, fun r hr => ?_⟩
    by_contra hno
    have hnot : ¬ (r.1 ≤ b ∧ b < r.1 + r.2) := by
      simp only [List.any_eq_true, Bool.and_eq_true, decide_eq_true_eq] at hany
      exact fun hc => hany ⟨r, hr, hc⟩
    have hle := hrun r hr (by omega) (by omega)
    omega

/-- A free run that begins at a place is no longer than freeLength says. -/
theorem le_freeLength {runs : List (Nat × Nat)} {b e : Nat} (hbe : b < e) (h : ∀ i, b ≤ i → i < e → FreeRecord runs i) :
    e ≤ b + freeLength runs b := by
  obtain ⟨_, _, hge⟩ := nextTaken_spec runs b
  have hb := h b (Nat.le_refl _) hbe
  have hlast := h (e - 1) (by omega) (by omega)
  have hnext : e ≤ nextTaken runs b := by
    refine hge e (by have := hlast.1; omega) fun r hr hbr hn => ?_
    by_contra hlt
    have := (h r.1 hbr (by omega)).2 r hr
    omega
  rw [freeLength_eq, if_neg]
  · omega
  · simp only [List.any_eq_true, Bool.and_eq_true, decide_eq_true_eq]
    rintro ⟨r, hr, hc⟩
    have := hb.2 r hr
    omega

/-- A free run extends down to record 0 or to the end of a run: there freeLength covers it. -/
theorem exists_candidate {runs : List (Nat × Nat)} {a m : Nat} (hm : 1 ≤ m)
    (h : ∀ i, a ≤ i → i < a + m → FreeRecord runs i) :
    ∃ b ∈ runCandidates runs, b ≤ a ∧ a + m ≤ b + freeLength runs b := by
  induction a generalizing m with
  | zero => exact ⟨0, mem_runCandidates.2 (.inl rfl), Nat.le_refl _, le_freeLength (by omega) h⟩
  | succ a ih =>
    by_cases hfree : FreeRecord runs a
    · obtain ⟨b, hb, hba, hlen⟩ := ih (m := m + 1) (by omega) fun i hlo hhi => by
        obtain rfl | hlt := Nat.eq_or_lt_of_le hlo
        · exact hfree
        · exact h i hlt (by omega)
      exact ⟨b, hb, by omega, by omega⟩
    · have hstart := h (a + 1) (Nat.le_refl _) (by omega)
      obtain ⟨r, hr, hin⟩ : ∃ r ∈ runs, ¬ (a < r.1 ∨ r.1 + r.2 ≤ a) := by
        by_contra hno
        refine hfree ⟨by have := hstart.1; omega, fun r hr => ?_⟩
        by_contra hin
        exact hno ⟨r, hr, hin⟩
      have := hstart.2 r hr
      exact ⟨a + 1, mem_runCandidates.2 (.inr ⟨r, hr, by omega⟩), Nat.le_refl _, le_freeLength (by omega) h⟩

/-- One step of the search for the longest free run: the longer one, and of equals the lower (R54). -/
def longerRun (runs : List (Nat × Nat)) (best : Option (Nat × Nat)) (b : Nat) : Option (Nat × Nat) :=
  if freeLength runs b = 0 then best
  else
    match best with
    | none => some (freeLength runs b, b)
    | some (m, c) => if m < freeLength runs b ∨ (m = freeLength runs b ∧ b < c) then some (freeLength runs b, b) else best

theorem longestFree_eq (runs : List (Nat × Nat)) : longestFree runs = (runCandidates runs).foldl (longerRun runs) none :=
  rfl

/-- A best run so far is at least as good as another: longer, or as long and not above. -/
def AtLeastAsLong (best : Option (Nat × Nat)) (n b : Nat) : Prop :=
  ∃ m c, best = some (m, c) ∧ (n < m ∨ (n = m ∧ c ≤ b))

theorem longerRun_spec (runs : List (Nat × Nat)) (best : Option (Nat × Nat)) (b : Nat) :
    (∀ n a, AtLeastAsLong best n a → AtLeastAsLong (longerRun runs best b) n a) ∧
      (1 ≤ freeLength runs b → AtLeastAsLong (longerRun runs best b) (freeLength runs b) b) ∧
      ∀ p, longerRun runs best b = some p → best = some p ∨ (p = (freeLength runs b, b) ∧ 1 ≤ freeLength runs b) := by
  unfold longerRun
  split
  · next hz => exact ⟨fun _ _ h => h, fun h => by omega, fun p hp => .inl hp⟩
  · next hz =>
    cases best with
    | none => exact ⟨fun _ _ ⟨_, _, h, _⟩ => (nomatch h), fun _ => ⟨_, _, rfl, .inr ⟨rfl, Nat.le_refl _⟩⟩,
        by rintro p ⟨⟩; exact .inr ⟨rfl, by omega⟩⟩
    | some q =>
      obtain ⟨m, c⟩ := q
      dsimp only
      split
      · next hbetter =>
        refine ⟨?_, fun _ => ⟨_, _, rfl, .inr ⟨rfl, Nat.le_refl _⟩⟩, by rintro p ⟨⟩; exact .inr ⟨rfl, by omega⟩⟩
        rintro n a ⟨_, _, ⟨⟩, h⟩
        exact ⟨_, _, rfl, by omega⟩
      · next hworse => exact ⟨fun _ _ h => h, fun _ => ⟨m, c, rfl, by omega⟩, fun p hp => .inl hp⟩

/-- The longest free run is one of the candidates' and at least as good as each of them (R54). -/
theorem longestFree_spec (runs : List (Nat × Nat)) :
    (∀ b ∈ runCandidates runs, 1 ≤ freeLength runs b → AtLeastAsLong (longestFree runs) (freeLength runs b) b) ∧
      ∀ p, longestFree runs = some p → p.1 = freeLength runs p.2 ∧ 1 ≤ p.1 := by
  have hfold : ∀ (l : List Nat) (best : Option (Nat × Nat)),
      (∀ n a, AtLeastAsLong best n a → AtLeastAsLong (l.foldl (longerRun runs) best) n a) ∧
      (∀ b ∈ l, 1 ≤ freeLength runs b → AtLeastAsLong (l.foldl (longerRun runs) best) (freeLength runs b) b) ∧
      ∀ p, l.foldl (longerRun runs) best = some p → best = some p ∨ (p.1 = freeLength runs p.2 ∧ 1 ≤ p.1) := by
    intro l
    induction l with
    | nil => exact fun best => ⟨fun _ _ h => h, nofun, fun p hp => .inl hp⟩
    | cons b l ih =>
      intro best
      obtain ⟨hkeep, hnew, hone⟩ := longerRun_spec runs best b
      obtain ⟨hkeep', hnew', hone'⟩ := ih (longerRun runs best b)
      refine ⟨fun n a h => hkeep' n a (hkeep n a h), fun c hc hlen => ?_, fun p hp => ?_⟩
      · obtain rfl | hc := List.mem_cons.1 hc
        · exact hkeep' _ _ (hnew hlen)
        · exact hnew' c hc hlen
      · obtain hp | hp := hone' p hp
        · obtain hp | ⟨rfl, hlen⟩ := hone p hp
          · exact .inl hp
          · exact .inr ⟨rfl, hlen⟩
        · exact .inr hp
  obtain ⟨_, hall, hone⟩ := hfold (runCandidates runs) none
  exact ⟨hall, fun p hp => (hone p hp).resolve_left nofun⟩

theorem State.countP_isFreeRun (s : State) (n : Nat) :
    (List.range n).countP (fun i => isFreeRun s.runs i 1) = (List.range n).countP s.recordFree := by
  refine List.countP_congr fun i _ => ?_
  rw [isFreeRun_iff, State.recordFree_iff]
  exact Iff.rfl

/-- The number of free records, the longest run of them and its lowest base (R54). -/
theorem State.showReport_free (s : State) (sh : Nat) :
    (s.showReport sh).freeRecords = (List.range 4096).countP s.recordFree ∧
    ((s.showReport sh).lowestBase = none ↔ ∀ i, s.recordFree i = false) ∧
    ((s.showReport sh).lowestBase = none → (s.showReport sh).largestRun = 0) ∧
    (∀ b, (s.showReport sh).lowestBase = some b → 1 ≤ (s.showReport sh).largestRun ∧
      ∀ i, b ≤ i → i < b + (s.showReport sh).largestRun → s.recordFree i = true) ∧
    (∀ a m, 1 ≤ m → (∀ i, a ≤ i → i < a + m → s.recordFree i = true) → m ≤ (s.showReport sh).largestRun ∧
      (m = (s.showReport sh).largestRun → ∀ b, (s.showReport sh).lowestBase = some b → b ≤ a)) := by
  have hlongest : (s.showReport sh).largestRun = ((longestFree s.runs).map (·.1)).getD 0 := rfl
  have hlowest : (s.showReport sh).lowestBase = (longestFree s.runs).map (·.2) := rfl
  obtain ⟨hall, hone⟩ := longestFree_spec s.runs
  have hcover : ∀ a m, 1 ≤ m → (∀ i, a ≤ i → i < a + m → s.recordFree i = true) →
      ∃ n c, longestFree s.runs = some (n, c) ∧ m ≤ n ∧ (m = n → c ≤ a) := by
    intro a m hm hfree
    obtain ⟨b, hb, hba, hlen⟩ := exists_candidate hm fun i hlo hhi => (s.recordFree_iff i).1 (hfree i hlo hhi)
    obtain ⟨n, c, he, hle⟩ := hall b hb (by omega)
    exact ⟨n, c, he, by omega, by omega⟩
  refine ⟨?_, ?_, fun hn => ?_, fun b hb => ?_, fun a m hm hfree => ?_⟩
  · unfold State.showReport freeRecords
    dsimp only
    rw [State.countP_isFreeRun]
  · rw [hlowest, Option.map_eq_none_iff]
    refine ⟨fun hn i => ?_, fun hno => ?_⟩
    · by_contra hfree
      obtain ⟨n, c, he, _⟩ := hcover i 1 (Nat.le_refl _) fun j hlo hhi => by
        rw [show j = i by omega]
        simpa using hfree
      rw [hn] at he
      cases he
    · cases he : longestFree s.runs with
      | none => rfl
      | some p =>
        obtain ⟨hlen, hpos⟩ := hone p he
        have := (s.recordFree_iff p.2).2 (freeLength_free (Nat.le_refl _) (by omega))
        rw [hno] at this
        cases this
  · rw [hlowest, Option.map_eq_none_iff] at hn
    rw [hlongest, hn]
    rfl
  · rw [hlowest] at hb
    obtain ⟨p, hp, rfl⟩ := Option.map_eq_some_iff.1 hb
    obtain ⟨hlen, hpos⟩ := hone p hp
    rw [hlongest, hp]
    exact ⟨hpos, fun i hlo hhi => (s.recordFree_iff i).2 (freeLength_free hlo (hlen ▸ hhi))⟩
  · obtain ⟨n, c, he, hle, hlow⟩ := hcover a m hm hfree
    rw [hlongest, hlowest, he]
    exact ⟨hle, fun hmn b hb => by cases hb; exact hlow hmn⟩

/-! ## Reads -/

/-- A read with an index answers its report, or refuses an index out of range, and changes nothing (R169). -/
theorem State.next_request_read {s : State} {c : Instr} {hd : ReqHead} (ht : s.Takes c hd) {owner : State → Answer}
    {p : Prop} [Decidable p] {r : Result}
    (h : owner s.atTake = if p then s.atTake.refuse .refusedRange else s.atTake.report r) :
    (.next (s.request c hd owner) : Host.Outcome State Fault Refusal) =
      .next (if p then s.repliesOnly c hd .refusedRange .none else s.repliesOnly c hd .ok r) := by
  split at h
  · next hp => rw [if_pos hp, State.request_refuse ht h]
  · next hp => rw [if_neg hp, State.request_report ht h]

/-- READ_CUES reports records of a run that holds them, of a show that has a run (R53). -/
theorem State.request_readCues {s : State} {h : ReqHead} {sh first n : Nat} (ht : s.Takes (.readCues h sh first n) h) :
    s.request (.readCues h sh first n) h (readCuesAnswer sh first n) =
      if 63 < sh then s.repliesOnly (.readCues h sh first n) h .refusedRange .none
      else
        match (s.showRecord sh).state.run with
        | none => s.repliesOnly (.readCues h sh first n) h .notReady .none
        | some (base, count) =>
            if n = 0 ∨ 16 < n ∨ count < first + n then s.repliesOnly (.readCues h sh first n) h .refusedRange .none
            else s.repliesOnly (.readCues h sh first n) h .ok
              (.cues ((List.range n).map (fun i => s.cue (base + first + i)))) := by
  have hrecord : s.atTake.showRecord sh = s.showRecord sh := rfl
  split
  · next hsh => exact State.request_refuse ht (if_pos hsh)
  · next hsh =>
    split
    · next hr =>
      refine State.request_refuse ht ?_
      unfold readCuesAnswer
      rw [if_neg hsh, hrecord, hr]
    · next base count hr =>
      have hanswer : readCuesAnswer sh first n s.atTake =
          if n = 0 ∨ 16 < n ∨ count < first + n then s.atTake.refuse .refusedRange
          else s.atTake.report (.cues ((List.range n).map (fun i => s.cue (base + first + i)))) := by
        unfold readCuesAnswer
        rw [if_neg hsh, hrecord, hr]
        rfl
      split at hanswer
      · next hn => rw [if_pos hn, State.request_refuse ht hanswer]
      · next hn => rw [if_neg hn, State.request_report ht hanswer]

/-- Settles O25: each read's report of the state at the take is that of the state before it. -/
theorem readsChangeNothing : Obligations.ReadsChangeNothing := by
  refine ⟨⟨fun h i s ht => ?_, fun h s ht => ?_, fun h sh first n s ht => ?_, fun h sh s ht => ?_, fun s sh r hr => ?_,
    fun h k s ht => ?_⟩, fun h z s ht => ?_, fun h s ht => ?_, fun h i s ht => ?_, fun h name i b s ht hb => ?_,
    fun h name i b s ht hb => ?_, fun h l s ht => ?_, fun h s ht => ?_⟩
  · exact State.next_request_read (owner := readCalendarEntryAnswer i) ht rfl
  · exact congrArg Host.Outcome.next (State.request_report (owner := readAgendaAnswer) ht rfl)
  · exact congrArg Host.Outcome.next (State.request_readCues ht)
  · exact State.next_request_read (owner := readShowAnswer sh) ht rfl
  · subst hr
    refine ⟨rfl, rfl, fun he => ?_, fun b n he => ?_, fun b n he => ?_, s.showReport_free sh⟩
    · exact congrArg s.reportedWritten he
    · exact congrArg s.reportedWritten he
    · exact congrArg s.reportedWritten he
  · exact State.next_request_read (owner := readPlaybackAnswer k) ht rfl
  · exact State.next_request_read (owner := readZoneAnswer z) ht rfl
  · exact congrArg Host.Outcome.next (State.request_report (owner := readCeilingAnswer) ht rfl)
  · exact State.next_request_read (owner := readSourceAnswer i) ht rfl
  · have hbank : namedBank s.ingress.inUse name = b := by rw [hb]; cases name <;> rfl
    refine State.next_request_read (owner := readInputPatchAnswer (some name) i) ht ?_
    rw [← hbank]
    rfl
  · have hbank : s.namedOutput name = b := by rw [hb]; cases name <;> rfl
    refine State.next_request_read (owner := readOutputPatchAnswer (some name) i) ht ?_
    have hreport : s.atTake.outputBank (s.atTake.namedOutput name) = s.outputBank (s.namedOutput name) := by
      cases name <;> rfl
    have hnamed : s.atTake.namedOutput name = s.namedOutput name := by cases name <;> rfl
    unfold readOutputPatchAnswer
    dsimp only
    rw [hreport, hnamed, hbank]
  · exact State.next_request_read (owner := readLaneAnswer l) ht rfl
  · exact congrArg Host.Outcome.next (State.request_report (owner := readGuardAnswer) ht rfl)

end Sys2Proof.Machine
end

section
/-! SUPPORT. Level arithmetic, the evaluation of zones, house looks, ceilings and ownership (05, 06). -/

namespace Sys2Proof.Machine

/-! ## Blends -/

theorem progress_le (e d : Nat) : progress e d ≤ 4096 := by
  unfold progress
  split
  · exact Nat.le_refl _
  · next h => exact Nat.div_le_of_le_mul (by rw [Nat.mul_comm d]; exact Nat.mul_le_mul_left _ (by omega))

theorem progress_of_lt {e d : Nat} (h : e < d) : progress e d = 4096 * e / d := if_neg (by omega)

/-- Progress grows with the elapsed time (R103). -/
theorem progress_mono {e e' : Nat} (h : e ≤ e') (d : Nat) : progress e d ≤ progress e' d := by
  by_cases hend : d = 0 ∨ d ≤ e'
  · rw [show progress e' d = 4096 from if_pos hend]
    exact progress_le e d
  · rw [progress_of_lt (show e < d by omega), progress_of_lt (show e' < d by omega)]
    exact Nat.div_le_div_right (Nat.mul_le_mul_left _ h)

theorem weight_le (c : Curve) {p : Nat} (h : p ≤ 4096) : weight c p ≤ 4096 := by
  cases c with
  | linear => exact h
  | ease => exact Nat.div_le_of_le_mul (Nat.mul_le_mul h h)

theorem weight_mono (c : Curve) {p q : Nat} (h : p ≤ q) : weight c p ≤ weight c q := by
  cases c with
  | linear => exact h
  | ease => exact Nat.div_le_div_right (Nat.mul_le_mul h h)

/-- The distance moved is a share of the way (R105). -/
theorem mul_div_le_self {w : Nat} (hw : w ≤ 4096) (n : Nat) : n * w / 4096 ≤ n :=
  Nat.div_le_of_le_mul (by rw [Nat.mul_comm n]; exact Nat.mul_le_mul_right _ hw)

theorem mix_bounds (a b : Nat) {w : Nat} (hw : w ≤ 4096) : min a b ≤ mix a b w ∧ mix a b w ≤ max a b := by
  unfold mix
  split
  · have := mul_div_le_self hw (b - a); omega
  · have := mul_div_le_self hw (a - b); omega

theorem mix_mono_up {a b w w' : Nat} (hab : a ≤ b) (h : w ≤ w') : mix a b w ≤ mix a b w' := by
  unfold mix
  rw [if_pos hab, if_pos hab]
  exact Nat.add_le_add_left (Nat.div_le_div_right (Nat.mul_le_mul_left _ h)) a

theorem mix_mono_down {a b w w' : Nat} (hba : b ≤ a) (h : w ≤ w') : mix a b w' ≤ mix a b w := by
  unfold mix
  split
  · rw [show b - a = 0 by omega]; simp
  · exact Nat.sub_le_sub_left (Nat.div_le_div_right (Nat.mul_le_mul_left _ h)) a

theorem mix_of_ge {a b : Nat} (h : b ≤ a) (w : Nat) : mix a b w = a - (a - b) * w / 4096 := by
  unfold mix
  split
  · rw [show b - a = 0 by omega, show a - b = 0 by omega]; simp
  · rfl

theorem mix_full (a b : Nat) : mix a b 4096 = b := by
  unfold mix
  split <;> omega

theorem weight_full (c : Curve) : weight c 4096 = 4096 := by cases c <;> rfl

theorem weight_zero (c : Curve) : weight c 0 = 0 := by cases c <;> rfl

/-- A blend begins at its first value (R103 to R106). -/
theorem blend_start (c : Curve) {d : Nat} (hd : d ≠ 0) (a b : Nat) : blend c 0 d a b = a := by
  unfold blend
  rw [progress_of_lt (by omega), Nat.mul_zero, Nat.zero_div, weight_zero]
  unfold mix
  split <;> simp

theorem blend_end (c : Curve) {e d : Nat} (h : d = 0 ∨ d ≤ e) (a b : Nat) : blend c e d a b = b := by
  unfold blend
  rw [show progress e d = 4096 from if_pos h, weight_full, mix_full]

/-! ## Components -/

theorem blendLook_comp (c : Curve) (e d : Nat) (a b : Look) (x : Component) :
    (blendLook c e d a b).comp x = blend c e d (a.comp x) (b.comp x) := by
  cases x <;> rfl

theorem blendLook_start (c : Curve) {d : Nat} (hd : d ≠ 0) (a b : Look) : blendLook c 0 d a b = a := by
  unfold blendLook Look.map2
  rw [blend_start c hd, blend_start c hd, blend_start c hd]

theorem elapsed_self (t : Int) : elapsed t t = 0 := by unfold elapsed; omega

theorem scaleLook_comp (l : Look) (m : Nat) (x : Component) : (scaleLook l m).comp x = l.comp x * m / 4096 := by
  cases x <;> rfl

theorem State.mapped_iff (s : State) (i z : Nat) : s.mapped i z = true ↔
    ∃ p ∈ s.inputBank s.ingress.inUse, p.2.present = true ∧ p.2.source = i ∧ p.2.zoneFirst ≤ z ∧
      z < p.2.zoneFirst + p.2.zoneCount := by
  simp [State.mapped, and_assoc]

/-- Settles O37: progress and weight lie in 0..4096 and grow with time, and a blend is a floor of their share. -/
theorem blendMovesBetweenItsEnds : Obligations.BlendMovesBetweenItsEnds := by
  refine ⟨fun c e e' d a b => ⟨fun hd => blend_start c hd a b, fun h => blend_end c h a b,
    (mix_bounds a b (weight_le c (progress_le e d))).1, (mix_bounds a b (weight_le c (progress_le e d))).2,
    fun he hab => mix_mono_up hab (weight_mono c (progress_mono he d)),
    fun he hba => mix_mono_down hba (weight_mono c (progress_mono he d)), fun he hab => ?_, fun he hab => ?_,
    fun he hba => ?_, fun he hba => ?_, fun l m => rfl, fun l m => ⟨?_, fun hm => mul_div_le_self hm l⟩,
    fun v g => ⟨Nat.min_le_left _ _, fun h => Nat.min_eq_right h⟩⟩, fun s i z => ⟨fun hm => ?_, fun hm => ?_⟩,
    fun s z l t target x hmode => ?_, fun s z t => ⟨fun ho => ?_, fun k l p x ho hl hp => ?_⟩,
    fun s z t => ⟨fun hn => ?_, fun h x hh => ?_⟩⟩
  · unfold blend mix
    rw [if_pos hab, progress_of_lt he]
    rfl
  · unfold blend mix
    rw [if_pos hab, progress_of_lt he]
    rfl
  · unfold blend
    rw [mix_of_ge hba, progress_of_lt he]
    rfl
  · unfold blend
    rw [mix_of_ge hba, progress_of_lt he]
    rfl
  · exact Nat.mul_div_cancel l (by decide)
  · exact if_pos ((s.mapped_iff i z).2 hm)
  · refine if_neg fun hmapped => ?_
    obtain ⟨p, hp, hpresent, hsource, hlo, hhi⟩ := (s.mapped_iff i z).1 hmapped
    have := hm p hp hpresent hsource
    omega
  · have htarget : s.layerTarget z l.mode = target := by
      obtain hm | ⟨src, policy, fade, hm⟩ | ⟨src, policy, fallback, fade, hm, ht⟩ := hmode
      · rw [hm]; rfl
      · rw [hm]; rfl
      · rw [hm, ht]; rfl
    unfold State.layerValue
    rw [htarget, blendLook_comp]
    rfl
  · unfold State.ownerValue
    rw [ho]
  · unfold State.ownerValue State.masterOf
    rw [ho]
    dsimp only
    rw [hl, hp]
    exact scaleLook_comp _ _ x
  · unfold State.zoneValue
    rw [hn]
  · unfold State.zoneValue
    rw [hh]
    exact blendLook_comp _ _ _ _ _ x

/-! ## House looks and handovers -/

theorem zonesFit_iff (z n : Nat) : zonesFit z n = true ↔ 1 ≤ n ∧ z + n ≤ 240 := by
  simp only [zonesFit, Bool.and_eq_true, decide_eq_true_eq]
  omega

theorem mem_zoneRange {first count z : Nat} : z ∈ zoneRange first count ↔ first ≤ z ∧ z < first + count := by
  simp only [zoneRange, List.mem_map, List.mem_range]
  exact ⟨fun ⟨i, hi, he⟩ => by omega, fun ⟨hlo, hhi⟩ => ⟨z - first, by omega, by omega⟩⟩

/-- Setting house looks leaves everything of the mixer but the house looks of the zones named (R83). -/
theorem State.setHouseLooks_effect (s : State) (first count : Nat) (l : Look) :
    (∃ zones, s.setHouseLooks first count l = s.withMixer { s.mixer with zones := zones }) ∧
    ∀ y, (s.setHouseLooks first count l).zone y =
      if y ∈ zoneRange first count then { s.zone y with house := l } else s.zone y := by
  unfold State.setHouseLooks
  induction zoneRange first count generalizing s with
  | nil => exact ⟨⟨s.mixer.zones, rfl⟩, fun y => by simp⟩
  | cons z zs ih =>
    obtain ⟨⟨zones, hzones⟩, hread⟩ := ih (s.setZone z { s.zone z with house := l })
    rw [List.foldl_cons]
    refine ⟨⟨zones, by rw [hzones]; rfl⟩, fun y => ?_⟩
    rw [hread, State.zone_setZone]
    by_cases hy : y = z
    · subst hy; simp
    · simp [hy]

theorem State.setHouseLooks_withMgmt (s : State) (first count : Nat) (l : Look) (x : ManagementUnit) :
    (s.withMgmt x).setHouseLooks first count l = (s.setHouseLooks first count l).withMgmt x := by
  unfold State.setHouseLooks
  induction zoneRange first count generalizing s with
  | nil => rfl
  | cons z zs ih => exact ih (s.setZone z { s.zone z with house := l })

/-- Settles O34: house looks are set zone by zone, and a handover that has ended is removed. -/
theorem houseLookAndHandoverEnd : Obligations.HouseLookAndHandoverEnd := by
  refine ⟨fun h z n l s ht => ⟨fun hout => ?_, fun hn hz => ?_⟩, fun s z h hh he => ?_⟩
  · refine congrArg Host.Outcome.next (State.request_refuse (owner := writeHouseLookAnswer z n l) ht ?_)
    unfold writeHouseLookAnswer
    rw [(zonesFit_eq_false_iff z n).2 hout]
    rfl
  · obtain ⟨⟨zones, hzones⟩, hread⟩ := s.setHouseLooks_effect z n (clampLook l)
    have hanswer : writeHouseLookAnswer z n l s.atTake =
        ⟨if 4095 < l.red ∨ 4095 < l.green ∨ 4095 < l.blue then .adjusted else .ok, .none,
          (s.setHouseLooks z n (clampLook l)).withMgmt s.atTake.mgmt, .nothing⟩ := by
      unfold writeHouseLookAnswer
      rw [(zonesFit_iff z n).2 ⟨hn, hz⟩, show s.atTake = s.withMgmt s.atTake.mgmt from rfl, State.setHouseLooks_withMgmt]
      simp [State.answerClamped, okOrAdjusted, lookClamps, clamps_zero, or_assoc]
    have hframe : s.setHouseLooks z n (clampLook l) = s.withMixer (s.setHouseLooks z n (clampLook l)).mixer := by
      rw [hzones]; rfl
    refine ⟨(s.setHouseLooks z n (clampLook l)).withMgmt _, State.next_request_answer ht hanswer rfl rfl,
      congrArg (State.withMgmt · _) hframe, by rw [hzones]; rfl, by rw [hzones]; rfl, fun y hlo hhi => ?_, fun y hy => ?_⟩
    · rw [← clampLook_eq]
      exact (hread y).trans (if_pos (mem_zoneRange.2 ⟨hlo, hhi⟩))
    · exact (hread y).trans (if_neg fun hm => by have := mem_zoneRange.1 hm; omega)
  · refine ⟨s.setZone z { s.zone z with handover := none }, ?_, rfl, rfl, rfl,
      (State.zone_setZone s z z _).trans (if_pos rfl), fun y hy => (State.zone_setZone s z y _).trans (if_neg hy)⟩
    change execHandoverEnd z s = _
    unfold execHandoverEnd
    rw [hh]
    exact congrArg Host.Outcome.next (if_pos he)

/-! ## Ceilings -/

/-- Of two bands in index order, the first is preferred: a later from, then a lower ceiling, then the index (R112). -/
def Preferred (b a : Nat × Band) : Prop :=
  a.2.fromMs < b.2.fromMs ∨ (a.2.fromMs = b.2.fromMs ∧
    (b.2.ceiling < a.2.ceiling ∨ (b.2.ceiling = a.2.ceiling ∧ b.1 < a.1)))

theorem Preferred.trans {a b c : Nat × Band} (h : Preferred a b) (h' : Preferred b c) : Preferred a c := by
  unfold Preferred at *
  omega

theorem preferBand_spec {a b : Nat × Band} (h : a.1 < b.1) :
    (preferBand a b = a ∧ Preferred a b) ∨ (preferBand a b = b ∧ Preferred b a) := by
  unfold preferBand Preferred
  split
  · next hb => exact .inr ⟨rfl, by omega⟩
  · next hb => exact .inl ⟨rfl, by omega⟩

/-- The best band of a list in index order is one of it and preferred to every other (R112). -/
theorem bestBand_spec {l : List (Nat × Band)} (h : l.Pairwise fun a b => a.1 < b.1) {b : Nat × Band}
    (hb : bestBand l = some b) : b ∈ l ∧ ∀ a ∈ l, a = b ∨ Preferred b a := by
  have hfold : ∀ (l : List (Nat × Band)) (c : Nat × Band), (c :: l).Pairwise (fun a b => a.1 < b.1) →
      l.foldl preferBand c ∈ c :: l ∧ ∀ a ∈ c :: l, a = l.foldl preferBand c ∨ Preferred (l.foldl preferBand c) a := by
    intro l
    induction l with
    | nil => exact fun c _ => ⟨List.mem_cons_self .., fun a ha => .inl (List.mem_singleton.1 ha)⟩
    | cons d l ih =>
      intro c hp
      obtain ⟨hc, hdl⟩ := List.pairwise_cons.1 hp
      obtain ⟨hd, hl⟩ := List.pairwise_cons.1 hdl
      have hcl : (c :: l).Pairwise fun a b => a.1 < b.1 :=
        List.pairwise_cons.2 ⟨fun a ha => hc a (List.mem_cons_of_mem _ ha), hl⟩
      rw [List.foldl_cons]
      obtain ⟨he, hpref⟩ | ⟨he, hpref⟩ := preferBand_spec (hc d (List.mem_cons_self ..))
      · obtain ⟨hmem, hbest⟩ := ih c hcl
        rw [he]
        refine ⟨?_, fun a ha => ?_⟩
        · obtain hm | hm := List.mem_cons.1 hmem
          · rw [hm]; exact List.mem_cons_self ..
          · exact List.mem_cons_of_mem _ (List.mem_cons_of_mem _ hm)
        · obtain rfl | ha := List.mem_cons.1 ha
          · exact hbest a (List.mem_cons_self ..)
          · obtain rfl | ha := List.mem_cons.1 ha
            · obtain hcb | hcb := hbest c (List.mem_cons_self ..)
              · exact .inr (hcb ▸ hpref)
              · exact .inr (hcb.trans hpref)
            · exact hbest a (List.mem_cons_of_mem _ ha)
      · obtain ⟨hmem, hbest⟩ := ih d hdl
        rw [he]
        refine ⟨List.mem_cons_of_mem _ hmem, fun a ha => ?_⟩
        obtain rfl | ha := List.mem_cons.1 ha
        · obtain hdb | hdb := hbest d (List.mem_cons_self ..)
          · exact .inr (hdb ▸ hpref)
          · exact .inr (hdb.trans hpref)
        · exact hbest a ha
  cases l with
  | nil => cases hb
  | cons c l => cases hb; exact hfold l c h

theorem bestBand_eq_none_iff (l : List (Nat × Band)) : bestBand l = none ↔ l = [] := by
  cases l <;> simp [bestBand]

theorem bandNumbers_eq_range : bandNumbers = List.range 8 := rfl

theorem State.mem_presentBands {s : State} {p : Nat × Band} :
    p ∈ s.presentBands ↔ p.1 < 8 ∧ p.2 = s.band p.1 ∧ (s.band p.1).present = true := by
  unfold State.presentBands
  rw [bandNumbers_eq_range, List.mem_filter, List.mem_map]
  constructor
  · rintro ⟨⟨i, hi, rfl⟩, hp⟩
    exact ⟨List.mem_range.1 hi, rfl, hp⟩
  · rintro ⟨hi, hb, hp⟩
    exact ⟨⟨p.1, List.mem_range.2 hi, Prod.ext rfl hb.symm⟩, by rw [hb]; exact hp⟩

theorem State.presentBands_pairwise (s : State) : s.presentBands.Pairwise fun a b => a.1 < b.1 := by
  unfold State.presentBands
  rw [bandNumbers_eq_range]
  refine List.Pairwise.filter _ (List.pairwise_map.2 ?_)
  exact List.pairwise_lt_range

/-- The band in force: of the bands that have begun, or else of all, the preferred one (R112). -/
theorem bandInForce_spec {present : List (Nat × Band)} (h : present.Pairwise fun a b => a.1 < b.1) {m : Nat}
    {b : Nat × Band} (hb : bandInForce present m = some b) : b ∈ present ∧
      (∀ a ∈ present, m < b.2.fromMs → m < a.2.fromMs) ∧
      ∀ a ∈ present, a ≠ b → (a.2.fromMs ≤ m ∨ m < b.2.fromMs) → Preferred b a := by
  have hbegun : ∀ a, a ∈ present.filter (fun p => p.2.fromMs ≤ m) ↔ a ∈ present ∧ a.2.fromMs ≤ m := fun a => by
    rw [List.mem_filter, decide_eq_true_eq]
  unfold bandInForce at hb
  split at hb
  · next c hc =>
    cases hb
    obtain ⟨hmem, hbest⟩ := bestBand_spec (h.filter _) hc
    obtain ⟨hin, hfrom⟩ := (hbegun b).1 hmem
    exact ⟨hin, fun a _ hlate => by omega, fun a ha hne hor =>
      (hbest a ((hbegun a).2 ⟨ha, by omega⟩)).resolve_left hne⟩
  · next hnone =>
    obtain ⟨hmem, hbest⟩ := bestBand_spec h hb
    have hlate : ∀ a ∈ present, m < a.2.fromMs := fun a ha => by
      by_contra hle
      have : a ∈ present.filter (fun p => p.2.fromMs ≤ m) := (hbegun a).2 ⟨ha, by omega⟩
      rw [(bestBand_eq_none_iff _).1 hnone] at this
      cases this
    exact ⟨hmem, fun a ha _ => hlate a ha, fun a ha hne _ => (hbest a ha).resolve_left hne⟩

theorem bandInForce_eq_none_iff (present : List (Nat × Band)) (m : Nat) :
    bandInForce present m = none ↔ present = [] := by
  unfold bandInForce
  split
  · next b hb =>
    refine ⟨nofun, fun he => ?_⟩
    rw [he] at hb
    cases hb
  · exact bestBand_eq_none_iff _

theorem lowestCeiling_spec (present : List (Nat × Band)) :
    lowestCeiling present ≤ 4095 ∧ (∀ b ∈ present, lowestCeiling present ≤ b.2.ceiling) ∧
      (lowestCeiling present = 4095 ∨ ∃ b ∈ present, b.2.ceiling = lowestCeiling present) := by
  have hfold : ∀ (l : List (Nat × Band)) (c : Nat), l.foldl (fun c p => min c p.2.ceiling) c ≤ c ∧
      (∀ b ∈ l, l.foldl (fun c p => min c p.2.ceiling) c ≤ b.2.ceiling) ∧
      (l.foldl (fun c p => min c p.2.ceiling) c = c ∨
        ∃ b ∈ l, b.2.ceiling = l.foldl (fun c p => min c p.2.ceiling) c) := by
    intro l
    induction l with
    | nil => exact fun c => ⟨Nat.le_refl _, nofun, .inl rfl⟩
    | cons d l ih =>
      intro c
      obtain ⟨hinit, hall, hone⟩ := ih (min c d.2.ceiling)
      rw [List.foldl_cons]
      refine ⟨hinit.trans (Nat.min_le_left _ _), fun b hb => ?_, ?_⟩
      · obtain rfl | hb := List.mem_cons.1 hb
        · exact hinit.trans (Nat.min_le_right _ _)
        · exact hall b hb
      · obtain he | ⟨b, hb, he⟩ := hone
        · rw [he]
          obtain hc | hd := Nat.le_total c d.2.ceiling
          · exact .inl (Nat.min_eq_left hc)
          · exact .inr ⟨d, List.mem_cons_self .., (Nat.min_eq_right hd).symm⟩
        · exact .inr ⟨b, List.mem_cons_of_mem _ hb, he⟩
  exact hfold present 4095

theorem State.band_setBand (s : State) (i j : Nat) (b : Band) :
    (s.setBand i b).band j = if j = i then b else s.band j :=
  Table.read_write Band.blank s.mixer.bands i j b

/-- Settles O35: the search prefers as the rule does, and without tower time the lowest ceiling holds. -/
theorem bandsAndCeilingInForce : Obligations.BandsAndCeilingInForce := by
  refine ⟨fun h i m c s ht => ⟨fun hout => ?_, fun hi hm => ?_⟩, fun h i s ht => ⟨fun hi => ?_, fun hi => ?_⟩,
    fun s p i hp hi => ?_, fun s ht hpresent => ?_, fun s hnone => ?_, fun s ht => ?_⟩
  · exact congrArg Host.Outcome.next (State.request_refuse (owner := writeCeilingBandAnswer i m c) ht (if_pos hout))
  · have hanswer : writeCeilingBandAnswer i m c s.atTake =
        ⟨if 4095 < c then .adjusted else .ok, .none, s.atTake.setBand i ⟨true, m, min c 4095⟩, .nothing⟩ := by
      unfold writeCeilingBandAnswer
      rw [if_neg (by unfold msPerDay; omega), clamp_zero, clamps_zero]
      simp only [State.answerClamped, okOrAdjusted, decide_eq_true_eq]
    exact ⟨(s.setBand i ⟨true, m, min c 4095⟩).withMgmt _, State.next_request_answer ht hanswer rfl rfl, rfl,
      (s.band_setBand i i _).trans (if_pos rfl), fun j hj => (s.band_setBand i j _).trans (if_neg hj)⟩
  · exact congrArg Host.Outcome.next (State.request_refuse (owner := clearCeilingBandAnswer i) ht (if_pos hi))
  · have hanswer : clearCeilingBandAnswer i s.atTake =
        ⟨.ok, .none, s.atTake.setBand i { s.band i with present := false }, .nothing⟩ := if_neg (by omega)
    exact ⟨(s.setBand i { s.band i with present := false }).withMgmt _, State.next_request_answer ht hanswer rfl rfl, rfl,
      (s.band_setBand i i _).trans (if_pos rfl), fun j hj => (s.band_setBand i j _).trans (if_neg hj)⟩
  · unfold State.bandIndexInForce at hi
    unfold State.ceilingInForce
    rw [hp] at hi ⊢
    dsimp only at hi ⊢
    obtain ⟨b, hb, rfl⟩ := Option.map_eq_some_iff.1 hi
    obtain ⟨hmem, hlate, hbest⟩ := bandInForce_spec s.presentBands_pairwise hb
    obtain ⟨hlt, hband, hpresent⟩ := State.mem_presentBands.1 hmem
    rw [← hband]
    refine ⟨hlt, hband ▸ hpresent, by rw [hb]; rfl, fun j hj hjp hm => ?_, fun j hj hne hjp hor => ?_⟩
    · exact hlate (j, s.band j) (State.mem_presentBands.2 ⟨hj, rfl, hjp⟩) hm
    · have := hbest (j, s.band j) (State.mem_presentBands.2 ⟨hj, rfl, hjp⟩) (fun he => hne (congrArg Prod.fst he)) hor
      exact this
  · obtain ⟨p, hp⟩ := Option.ne_none_iff_exists'.1 ht
    obtain ⟨j, hj, hjp⟩ := hpresent
    unfold State.bandIndexInForce
    rw [hp]
    dsimp only
    cases hb : bandInForce s.presentBands p.ms with
    | none =>
      have hin : (j, s.band j) ∈ s.presentBands := State.mem_presentBands.2 ⟨hj, rfl, hjp⟩
      rw [(bandInForce_eq_none_iff _ _).1 hb] at hin
      cases hin
    | some b => exact ⟨b.1, rfl⟩
  · have hempty : s.presentBands = [] := by
      refine List.eq_nil_iff_forall_not_mem.2 fun p hp => ?_
      obtain ⟨hlt, _, hpresent⟩ := State.mem_presentBands.1 hp
      rw [hnone p.1 hlt] at hpresent
      cases hpresent
    unfold State.bandIndexInForce State.ceilingInForce
    rw [hempty]
    cases s.towerTime <;> exact ⟨rfl, rfl⟩
  · have hlowest : s.ceilingInForce = lowestCeiling s.presentBands := by unfold State.ceilingInForce; rw [ht]
    obtain ⟨hle, hall, hone⟩ := lowestCeiling_spec s.presentBands
    rw [hlowest]
    refine ⟨by unfold State.bandIndexInForce; rw [ht], hle, fun j hj hjp =>
      hall (j, s.band j) (State.mem_presentBands.2 ⟨hj, rfl, hjp⟩), hone.imp id ?_⟩
    rintro ⟨b, hb, he⟩
    obtain ⟨hlt, hband, hpresent⟩ := State.mem_presentBands.1 hb
    exact ⟨b.1, hlt, hpresent, hband ▸ he⟩

/-! ## Ownership and drops -/

/-- A layer of a slot has a stronger claim than another's: priority, then run start, then slot number (R91). -/
def Outranks (b a : Nat × Layer) : Prop :=
  a.2.priority < b.2.priority ∨ (a.2.priority = b.2.priority ∧
    (a.2.runStart < b.2.runStart ∨ (a.2.runStart = b.2.runStart ∧ a.1 < b.1)))

theorem Outranks.trans {a b c : Nat × Layer} (h : Outranks a b) (h' : Outranks b c) : Outranks a c := by
  unfold Outranks at *
  omega

theorem slotNumbers_pairwise : slotNumbers.Pairwise (· < ·) := by decide

theorem mem_slotNumbers {k : Nat} : k ∈ slotNumbers ↔ k < 4 := by
  simp only [slotNumbers, List.mem_cons, List.not_mem_nil, or_false]
  omega

/-- A search that goes through candidates in order and keeps the best it has met finds the best of all. -/
theorem foldl_pick_spec {α : Type} {candidate : Nat → Option α} {pick : Option (Nat × α) → Nat → Option (Nat × α)}
    {better : Nat × α → Nat × α → Prop} (trans : ∀ {a b c}, better a b → better b c → better a c)
    (skip : ∀ best k, candidate k = none → pick best k = best)
    (first : ∀ k a, candidate k = some a → pick none k = some (k, a))
    (choose : ∀ b k a, candidate k = some a → b.1 < k →
      (pick (some b) k = some b ∧ better b (k, a)) ∨ (pick (some b) k = some (k, a) ∧ better (k, a) b))
    (ks : List Nat) (best : Option (Nat × α)) (hks : ks.Pairwise (· < ·)) (hbest : ∀ b, best = some b → ∀ k ∈ ks, b.1 < k) :
    (∀ r, ks.foldl pick best = some r →
      (best = some r ∨ (r.1 ∈ ks ∧ candidate r.1 = some r.2)) ∧ (∀ b, best = some b → r = b ∨ better r b) ∧
      ∀ k ∈ ks, ∀ a, candidate k = some a → r = (k, a) ∨ better r (k, a)) ∧
    (ks.foldl pick best = none → best = none ∧ ∀ k ∈ ks, candidate k = none) := by
  induction ks generalizing best with
  | nil =>
    exact ⟨fun r hr => ⟨.inl hr, fun b hb => .inl (Option.some.inj (hr.symm.trans hb)), nofun⟩, fun hn => ⟨hn, nofun⟩⟩
  | cons k ks ih =>
    obtain ⟨hk, hks⟩ := List.pairwise_cons.1 hks
    rw [List.foldl_cons]
    cases hl : candidate k with
    | none =>
      obtain ⟨hsome, hnone⟩ := ih best hks fun b hb j hj => hbest b hb j (List.mem_cons_of_mem _ hj)
      rw [skip best k hl]
      refine ⟨fun r hr => ?_, fun hn => ?_⟩
      · obtain ⟨hmem, hinit, hall⟩ := hsome r hr
        refine ⟨hmem.imp_right fun ⟨hin, hread⟩ => ⟨List.mem_cons_of_mem _ hin, hread⟩, hinit, fun j hj a hja => ?_⟩
        obtain rfl | hj := List.mem_cons.1 hj
        · rw [hl] at hja; cases hja
        · exact hall j hj a hja
      · obtain ⟨hb, hall⟩ := hnone hn
        refine ⟨hb, fun j hj => ?_⟩
        obtain rfl | hj := List.mem_cons.1 hj
        · exact hl
        · exact hall j hj
    | some l =>
      obtain ⟨c, hc, hcmem, hcbest, hcl⟩ : ∃ c, pick best k = some c ∧ (best = some c ∨ c = (k, l)) ∧
          (∀ b, best = some b → c = b ∨ better c b) ∧ (c = (k, l) ∨ better c (k, l)) := by
        cases best with
        | none => exact ⟨(k, l), first k l hl, .inr rfl, nofun, .inl rfl⟩
        | some b =>
          obtain ⟨hpick, hbetter⟩ | ⟨hpick, hbetter⟩ := choose b k l hl (hbest b rfl k (List.mem_cons_self ..))
          · exact ⟨b, hpick, .inl rfl, by rintro _ ⟨⟩; exact .inl rfl, .inr hbetter⟩
          · exact ⟨(k, l), hpick, .inr rfl, by rintro _ ⟨⟩; exact .inr hbetter, .inl rfl⟩
      obtain ⟨hsome, hnone⟩ := ih (some c) hks (by
        rintro _ ⟨⟩ j hj
        obtain hcb | rfl := hcmem
        · exact hbest c hcb j (List.mem_cons_of_mem _ hj)
        · exact hk j hj)
      rw [hc]
      refine ⟨fun r hr => ?_, fun hn => absurd (hnone hn).1 nofun⟩
      obtain ⟨hmem, hinit, hall⟩ := hsome r hr
      have hrc := hinit c rfl
      have hover : ∀ d, c = d ∨ better c d → r = d ∨ better r d := by
        intro d hd
        obtain rfl | hrc := hrc
        · exact hd
        · obtain rfl | hd := hd
          · exact .inr hrc
          · exact .inr (trans hrc hd)
      refine ⟨?_, fun b hb => hover b (hcbest b hb), fun j hj a hja => ?_⟩
      · obtain hm | ⟨hin, hread⟩ := hmem
        · cases hm
          obtain hcb | rfl := hcmem
          · exact .inl hcb
          · exact .inr ⟨List.mem_cons_self .., hl⟩
        · exact .inr ⟨List.mem_cons_of_mem _ hin, hread⟩
      · obtain rfl | hj := List.mem_cons.1 hj
        · rw [hl] at hja; cases hja; exact hover _ hcl
        · exact hall j hj a hja

/-- The search for the owner keeps the stronger of two layers (R91). -/
theorem pickOwner_choose {b : Nat × Layer} {k : Nat} {l : Layer} (hlt : b.1 < k) :
    (pickOwner (some b) k (some l) = some b ∧ Outranks b (k, l)) ∨
      (pickOwner (some b) k (some l) = some (k, l) ∧ Outranks (k, l) b) := by
  unfold pickOwner beats Outranks
  dsimp only
  split
  · next h =>
    simp only [Bool.or_eq_true, decide_eq_true_eq, Bool.and_eq_true] at h
    exact .inr ⟨rfl, by omega⟩
  · next h =>
    simp only [Bool.or_eq_true, decide_eq_true_eq, Bool.and_eq_true] at h
    exact .inl ⟨rfl, by omega⟩

/-- What the search for the owner finds (R91). -/
theorem strongest_search (layers : Table (Option Layer)) :
    (∀ k, strongest layers = some k → k < 4 ∧ ∃ l, Table.read none layers k = some l ∧
      ∀ j m, j < 4 → Table.read none layers j = some m → (k, l) = (j, m) ∨ Outranks (k, l) (j, m)) ∧
    (strongest layers = none → ∀ k, k < 4 → Table.read none layers k = none) := by
  obtain ⟨hsome, hnone⟩ := foldl_pick_spec (candidate := Table.read none layers)
    (pick := fun best k => pickOwner best k (Table.read none layers k)) (better := Outranks) Outranks.trans
    (fun best k h => by rw [h]; rfl) (fun k a h => by rw [h]; rfl)
    (fun b k a h hlt => by rw [h]; exact pickOwner_choose hlt) slotNumbers none slotNumbers_pairwise nofun
  refine ⟨fun k hk => ?_, fun hn k hk => (hnone (Option.map_eq_none_iff.1 hn)).2 k (mem_slotNumbers.2 hk)⟩
  obtain ⟨r, hr, rfl⟩ := Option.map_eq_some_iff.1 hk
  obtain ⟨hmem, _, hall⟩ := hsome r hr
  obtain ⟨hin, hread⟩ := hmem.resolve_left nofun
  exact ⟨mem_slotNumbers.1 hin, r.2, hread, fun j m hj hjm => hall j (mem_slotNumbers.2 hj) m hjm⟩

/-- The owner is the slot of the strongest layer (R91). -/
theorem strongest_eq_some_iff (layers : Table (Option Layer)) (k : Nat) : strongest layers = some k ↔
    k < 4 ∧ ∃ l, Table.read none layers k = some l ∧
      ∀ j m, j < 4 → j ≠ k → Table.read none layers j = some m → Outranks (k, l) (j, m) := by
  obtain ⟨hsome, hnone⟩ := strongest_search layers
  constructor
  · intro h
    obtain ⟨hk, l, hl, hall⟩ := hsome k h
    exact ⟨hk, l, hl, fun j m hj hne hjm => (hall j m hj hjm).resolve_left fun he => hne (congrArg Prod.fst he).symm⟩
  · rintro ⟨hk, l, hl, hall⟩
    cases ho : strongest layers with
    | none => rw [hnone ho k hk] at hl; cases hl
    | some i =>
      obtain ⟨hi, m, hm, hbest⟩ := hsome i ho
      by_cases he : i = k
      · rw [he]
      · have hlost := hall i m hi he hm
        have hwon := (hbest k l hk hl).resolve_left fun h => he (congrArg Prod.fst h)
        unfold Outranks at hlost hwon
        omega

/-- A layer's value depends on no more than the live store and the input bank in use. -/
theorem State.layerValue_congr {s u : State} (live : u.mixer.live = s.mixer.live) (ingress : u.ingress = s.ingress)
    (z : Nat) (l : Layer) (x : Int) : u.layerValue z l x = s.layerValue z l x := by
  have hlook : ∀ i, u.liveLook i z = s.liveLook i z := by
    intro i
    have hbank : ∀ b, u.inputBank b = s.inputBank b := fun b => by cases b <;> simp [State.inputBank, ingress]
    unfold State.liveLook State.mapped State.stored
    rw [live, ingress, hbank]
  unfold State.layerValue
  congr 1
  unfold State.layerTarget
  split
  · rfl
  · rfl
  · exact hlook _

/-- A zone's values depend on no more than its owner, its owner's layer and master, its house look and its handover. -/
theorem State.zoneValue_congr {s u : State} {z : Nat} (owner : (u.zone z).owner = (s.zone z).owner)
    (house : (u.zone z).house = (s.zone z).house) (handover : (u.zone z).handover = (s.zone z).handover)
    (layers : ∀ k, (s.zone z).owner = some k → u.layer k z = s.layer k z) (live : u.mixer.live = s.mixer.live)
    (ingress : u.ingress = s.ingress)
    (masters : ∀ k, (s.zone z).owner = some k → ∀ x, u.masterOf k x = s.masterOf k x) (x : Int) :
    u.zoneValue z x = s.zoneValue z x := by
  have howner : u.ownerValue z x = s.ownerValue z x := by
    unfold State.ownerValue
    rw [owner, house]
    cases ho : (s.zone z).owner with
    | none => rfl
    | some k =>
      dsimp only
      rw [layers k ho]
      cases s.layer k z with
      | none => rfl
      | some l => simp only [State.layerValue_congr live ingress, masters k ho]
  unfold State.zoneValue
  rw [handover, howner]

theorem State.masterOf_congr {s u : State} (playback : u.playback = s.playback) (k : Nat) (x : Int) :
    u.masterOf k x = s.masterOf k x := by
  unfold State.masterOf State.slot
  rw [playback]

/-- A drop changes nothing but zones (R96). -/
theorem State.dropLayer_zones (s : State) (k z : Nat) (t : Int) :
    ∃ zones, s.dropLayer k t z = s.withMixer { s.mixer with zones := zones } := by
  unfold State.dropLayer
  dsimp only
  split
  · exact ⟨s.mixer.zones, rfl⟩
  · split <;> exact ⟨_, rfl⟩

/-- What a drop of a present layer leaves of its zone's owner and handover (R91, R92). -/
theorem State.dropLayer_zone {s : State} {k z : Nat} {l : Layer} (howned : (s.zone z).Owned)
    (hl : s.layer k z = some l) (t : Int) :
    ((s.dropLayer k t z).zone z).Owned ∧
    (((s.dropLayer k t z).zone z).owner = (s.zone z).owner →
      ((s.dropLayer k t z).zone z).handover = (s.zone z).handover) ∧
    (((s.dropLayer k t z).zone z).owner ≠ (s.zone z).owner → s.settings.handoverTime ≠ 0 →
      ((s.dropLayer k t z).zone z).handover = some ⟨s.zoneValue z t, t, s.settings.handoverTime⟩) ∧
    (((s.dropLayer k t z).zone z).owner ≠ (s.zone z).owner → s.settings.handoverTime = 0 →
      ((s.dropLayer k t z).zone z).handover = none) := by
  have hlayers := Table.wf_write none (s.zone z).layers k none howned.1
  have hread : Table.read none (s.zone z).layers k = some l := hl
  unfold State.dropLayer
  dsimp only
  rw [hread]
  dsimp only
  split
  · next he =>
    rw [State.zone_setZone, if_pos rfl]
    exact ⟨⟨hlayers, he.symm⟩, fun _ => rfl, fun hne => absurd rfl hne, fun hne => absurd rfl hne⟩
  · next hne =>
    rw [State.zone_setZone, if_pos rfl]
    exact ⟨⟨hlayers, rfl⟩, fun he => absurd he hne, fun _ hh => if_neg hh, fun _ hh => if_pos hh⟩

/-- Settles O36: a drop that leaves the owner leaves what the value is made of, and a handover begins at the value. -/
theorem dropIsContinuous : Obligations.DropIsContinuous := by
  refine ⟨fun layers k => strongest_eq_some_iff layers k, fun s k z l t hk howned hl => ?_⟩
  obtain ⟨hgone, hother, hzones, hhouse⟩ := s.dropLayer_effect k z t
  obtain ⟨howned', hkept, hmade, hbare⟩ := s.dropLayer_zone howned hl t
  obtain ⟨zones, hframe⟩ := s.dropLayer_zones k z t
  refine ⟨_, rfl, by rw [hframe]; rfl, by rw [hframe]; rfl, by rw [hframe]; rfl, hgone, hother, hzones, hhouse, howned', fun he => ?_,
    fun hne hh => ?_, fun hne hh => ?_⟩
  · have hhandover := hkept he
    refine ⟨hhandover, fun x => State.zoneValue_congr he hhouse hhandover (fun j hj => hother j ?_) (by rw [hframe]; rfl)
      (by simp) (fun k _ => State.masterOf_congr (by simp) k) x⟩
    rintro rfl
    have hstrong := howned'.2.symm.trans (he.trans hj)
    obtain ⟨_, m, hm, _⟩ := (strongest_eq_some_iff _ _).1 hstrong
    rw [show Table.read none _ j = none from hgone] at hm
    cases hm
  · have hhandover := hmade hne hh
    refine ⟨hhandover, ?_⟩
    conv_lhs => unfold State.zoneValue
    rw [hhandover]
    dsimp only
    rw [elapsed_self, blendLook_start _ hh]
  · have hhandover := hbare hne hh
    exact ⟨hhandover, fun x => by unfold State.zoneValue; rw [hhandover]⟩

end Sys2Proof.Machine
end

section
/-! SUPPORT. Cue execution (04, 05): what one cue does, that a run of cues ends with none due, and what the run makes of
a first cue. -/

namespace Sys2Proof.Machine

/-! ## The cue store during a run -/

theorem State.nextCue_eq_some_iff (s : State) (p : Playback) (c : CueRecord) :
    s.nextCue p = some c ↔ p.phase = .running ∧ s.showCue p.showNo p.nextCue = some c := by
  unfold State.nextCue
  cases p.phase <;> simp

/-- A cue of a READY show has an index below the show's cue count (R55). -/
theorem State.showCue_lt {s : State} {sh i : Nat} {c : CueRecord} (h : s.showCue sh i = some c) : i < s.cueCount sh := by
  unfold State.showCue at h
  unfold State.cueCount
  split at h
  · split at h
    · assumption
    · cases h
  · cases h

/-- What the cue store answers depends on the shows' states and the cues alone. -/
theorem State.showCue_congr {s t : State} (states : ∀ x, (t.showRecord x).state = (s.showRecord x).state)
    (cues : t.cueStore.cues = s.cueStore.cues) (sh i : Nat) :
    t.showCue sh i = s.showCue sh i ∧ t.cueCount sh = s.cueCount sh := by
  unfold State.showCue State.cueCount State.cue
  rw [states, cues]
  exact ⟨rfl, rfl⟩

@[simp] theorem State.cues_release (s : State) (k : Nat) : (s.release k).cueStore.cues = s.cueStore.cues := by
  unfold State.release
  split
  · rfl
  · simp [State.slotFreed, State.setShow]

@[simp] theorem State.showRecord_state_endSlot (s : State) (k : Nat) (p : Playback) (d : Int) (fade x : Nat) :
    ((s.endSlot k p d fade).showRecord x).state = (s.showRecord x).state := by
  unfold State.endSlot
  dsimp only
  split
  · rw [State.showState_release, State.showRecord_setSlot]
  · rfl

/-- No cue changes a show's state or a cue record (R68 to R72). -/
theorem State.executeCue_shows (s : State) (k : Nat) (p : Playback) (d : Int) (c : Cue) :
    (∀ x, ((s.executeCue k p d c).showRecord x).state = (s.showRecord x).state) ∧
      (s.executeCue k p d c).cueStore.cues = s.cueStore.cues := by
  cases c with
  | look | follow | release | hold => simp [State.executeCue, State.showRecord]
  | master => exact ⟨fun _ => rfl, rfl⟩
  | finish fade =>
    refine ⟨fun x => s.showRecord_state_endSlot k p d fade x, ?_⟩
    unfold State.executeCue State.endSlot
    dsimp only
    split <;> simp

/-! ## A cue's slot -/

/-- A hold that is over when it begins leaves the slot running, and any other leaves it held (R71, R73). -/
theorem State.holdSlot_eq (s : State) (k : Nat) (p : Playback) (d : Int) (limit : Nat) : s.holdSlot k p d limit =
    s.setSlot k (some (if limit ≠ 0 ∧ d + 1000 * limit ≤ s.instant then p.resumed d (d + 1000 * limit)
      else { p with phase := .holding d limit })) := by
  unfold State.holdSlot holdExpiry
  by_cases h0 : limit = 0
  · simp [h0]
  · rw [if_neg h0]
    dsimp only
    split
    · next h => rw [if_pos ⟨h0, h⟩]
    · next h => rw [if_neg fun hc => h hc.2]

/-- After a cue the slot is FREE, or has the cue as its last and no due instant moved back (R60, R68 to R74). -/
theorem State.executeCue_slot (s : State) (k : Nat) (p : Playback) (d : Int) (c : Cue) :
    (s.executeCue k p d c).slot k = none ∨ ∃ q, (s.executeCue k p d c).slot k = some q ∧ q.showNo = p.showNo ∧
      q.nextCue = p.nextCue ∧ q.runStart = p.runStart ∧ p.held ≤ q.held := by
  have hset : ∀ q, (s.setSlot k (some q)).slot k = some q := fun q => (State.slot_setSlot ..).trans (if_pos rfl)
  cases c with
  | look | follow | release =>
    refine .inr ⟨p, ?_, rfl, rfl, rfl, Int.le_refl _⟩
    simp only [State.executeCue, State.slot, State.cueZones_frame, State.releaseZones_frame]
    exact hset p
  | master => exact .inr ⟨_, hset _, rfl, rfl, rfl, Int.le_refl _⟩
  | hold limit =>
    right
    rw [show s.executeCue k p d (.hold limit) = _ from s.holdSlot_eq k p d limit]
    refine ⟨_, hset _, ?_⟩
    split
    · exact ⟨rfl, rfl, rfl, by simp only [Playback.resumed]; omega⟩
    · exact ⟨rfl, rfl, rfl, Int.le_refl _⟩
  | finish fade =>
    unfold State.executeCue State.endSlot
    dsimp only
    split
    · exact .inl (State.slot_release_self _ k)
    · exact .inr ⟨_, hset _, rfl, rfl, rfl, Int.le_refl _⟩

/-! ## A run of cues -/

/-- No cue of slot k is due (R60). -/
def State.CueIdle (s : State) (k : Nat) : Prop :=
  ∀ p c, s.slot k = some p → s.nextCue p = some c → s.instant < p.dueInstant c

theorem runCues_of_idle {s : State} {k : Nat} (h : s.CueIdle k) (n : Nat) (made : List Nat) :
    runCues n k made s = (s, made) := by
  cases n with
  | zero => rfl
  | succ n =>
    unfold runCues
    cases hs : s.slot k with
    | none => rfl
    | some p =>
      dsimp only
      cases hc : s.nextCue p with
      | none => rfl
      | some c => exact if_neg (Int.not_le.2 (h p c hs hc))

theorem runCues_of_due {s : State} {k : Nat} {p : Playback} {c : CueRecord} (hs : s.slot k = some p)
    (hc : s.nextCue p = some c) (hd : p.dueInstant c ≤ s.instant) (n : Nat) (made : List Nat) :
    runCues (n + 1) k made s = runCues n k (made ++ s.cueMakes k c.cue)
      (s.executeCue k { p with nextCue := p.nextCue + 1 } (p.dueInstant c) c.cue) := by
  conv_lhs => unfold runCues
  rw [hs]
  dsimp only
  rw [hc]
  exact if_pos hd

/-- A slot either has no cue due or one. -/
theorem State.cueIdle_or_due (s : State) (k : Nat) :
    s.CueIdle k ∨ ∃ p c, s.slot k = some p ∧ s.nextCue p = some c ∧ p.dueInstant c ≤ s.instant := by
  by_cases h : s.CueIdle k
  · exact .inl h
  · unfold State.CueIdle at h
    push Not at h
    exact .inr h

/-- n cues are as many as slot k can still execute. -/
def State.CuesLeft (s : State) (k n : Nat) : Prop := ∀ p, s.slot k = some p → s.cueCount p.showNo ≤ n + p.nextCue

theorem State.CuesLeft.pos {s : State} {k n : Nat} (h : s.CuesLeft k n) {p : Playback} {c : CueRecord}
    (hs : s.slot k = some p) (hc : s.nextCue p = some c) : ∃ m, n = m + 1 := by
  have hlt := State.showCue_lt ((s.nextCue_eq_some_iff p c).1 hc).2
  have := h p hs
  exact ⟨n - 1, by omega⟩

/-- After a cue there is one fewer. -/
theorem State.CuesLeft.next {s : State} {k n : Nat} (h : s.CuesLeft k (n + 1)) {p : Playback} (hs : s.slot k = some p)
    (d : Int) (c : Cue) : (s.executeCue k { p with nextCue := p.nextCue + 1 } d c).CuesLeft k n := by
  intro q hq
  obtain ⟨hstates, hcues⟩ := s.executeCue_shows k { p with nextCue := p.nextCue + 1 } d c
  obtain hn | ⟨q', hq', hshow, hnext, _⟩ := s.executeCue_slot k { p with nextCue := p.nextCue + 1 } d c
  · rw [hn] at hq; cases hq
  · obtain rfl := Option.some.inj (hq'.symm.trans hq)
    have := h p hs
    rw [(State.showCue_congr hstates hcues q'.showNo 0).2, hshow, hnext]
    dsimp only
    omega

/-- A run of as many cues as are left ends with none due. -/
theorem runCues_idle {n k : Nat} {s : State} (h : s.CuesLeft k n) (made : List Nat) :
    (runCues n k made s).1.CueIdle k := by
  induction n generalizing s made with
  | zero =>
    intro p c hs hc
    obtain ⟨m, hm⟩ := h.pos hs hc
    omega
  | succ n ih =>
    obtain hidle | ⟨p, c, hs, hc, hd⟩ := s.cueIdle_or_due k
    · rw [runCues_of_idle hidle]; exact hidle
    · rw [runCues_of_due hs hc hd]; exact ih (h.next hs _ _) _

/-- The length of a run does not matter once it is long enough. -/
theorem runCues_enough {n m k : Nat} {s : State} (hn : s.CuesLeft k n) (hm : s.CuesLeft k m) (made : List Nat) :
    runCues n k made s = runCues m k made s := by
  induction n generalizing s m made with
  | zero =>
    rw [runCues_of_idle (n := m) fun p c hs hc => ?_]
    · rfl
    · obtain ⟨_, h⟩ := hn.pos hs hc
      omega
  | succ n ih =>
    obtain hidle | ⟨p, c, hs, hc, hd⟩ := s.cueIdle_or_due k
    · rw [runCues_of_idle hidle, runCues_of_idle hidle]
    · obtain ⟨m, rfl⟩ := hm.pos hs hc
      rw [runCues_of_due hs hc hd, runCues_of_due hs hc hd]
      exact ih (hn.next hs _ _) (hm.next hs _ _) _

/-- What a run gathers comes after what was gathered before it. -/
theorem runCues_made (n k : Nat) (made : List Nat) (s : State) :
    runCues n k made s = ((runCues n k [] s).1, made ++ (runCues n k [] s).2) := by
  induction n generalizing s made with
  | zero => simp [runCues]
  | succ n ih =>
    obtain hidle | ⟨p, c, hs, hc, hd⟩ := s.cueIdle_or_due k
    · simp [runCues_of_idle hidle]
    · rw [runCues_of_due hs hc hd, runCues_of_due hs hc hd, ih, List.nil_append, ih (s.cueMakes k c.cue)]
      simp

/-- The run of slot k's due cues, and the zones in which it makes a handover (R68, R82). -/
def State.cueRun (s : State) (k : Nat) : State × List Nat :=
  match s.slot k with
  | none => (s, [])
  | some p => runCues (s.cueCount p.showNo) k [] s

theorem State.cueExecution_eq (s : State) (k : Nat) :
    s.cueExecution k = (s.cueRun k).1.settleHandovers (s.cueRun k).2 := by
  unfold State.cueExecution State.cueRun
  cases s.slot k <;> rfl

theorem State.cueRun_of_left {s : State} {k n : Nat} (h : s.CuesLeft k n) : s.cueRun k = runCues n k [] s := by
  unfold State.cueRun
  cases hs : s.slot k with
  | none => exact (runCues_of_idle (fun p c hp => by rw [hs] at hp; cases hp) n []).symm
  | some p =>
    refine runCues_enough (fun q hq => ?_) h []
    obtain rfl := Option.some.inj (hs.symm.trans hq)
    omega

theorem State.cueRun_idle (s : State) (k : Nat) : (s.cueRun k).1.CueIdle k := by
  unfold State.cueRun
  cases hs : s.slot k with
  | none => exact fun p c hp => by rw [hs] at hp; cases hp
  | some p =>
    refine runCues_idle (fun q hq => ?_) []
    obtain rfl := Option.some.inj (hs.symm.trans hq)
    omega

theorem State.cueRun_of_idle {s : State} {k : Nat} (h : s.CueIdle k) : s.cueRun k = (s, []) := by
  unfold State.cueRun
  cases s.slot k with
  | none => rfl
  | some p => exact runCues_of_idle h _ _

theorem State.cueExecution_of_idle {s : State} {k : Nat} (h : s.CueIdle k) : s.cueExecution k = s := by
  rw [State.cueExecution_eq, State.cueRun_of_idle h]; rfl

/-- A run of due cues is the effect of the first and then the run of the others (R68). -/
theorem State.cueRun_of_due {s : State} {k : Nat} {p : Playback} {c : CueRecord} (hs : s.slot k = some p)
    (hc : s.nextCue p = some c) (hd : p.dueInstant c ≤ s.instant) :
    s.cueRun k =
      (((s.executeCue k { p with nextCue := p.nextCue + 1 } (p.dueInstant c) c.cue).cueRun k).1,
        s.cueMakes k c.cue ++
          ((s.executeCue k { p with nextCue := p.nextCue + 1 } (p.dueInstant c) c.cue).cueRun k).2) := by
  have hleft : s.CuesLeft k (s.cueCount p.showNo) := fun q hq => by
    obtain rfl := Option.some.inj (hs.symm.trans hq)
    omega
  obtain ⟨n, hn⟩ := hleft.pos hs hc
  rw [hn] at hleft
  rw [State.cueRun_of_left hleft, State.cueRun_of_left (hleft.next hs _ _), runCues_of_due hs hc hd, runCues_made,
    List.nil_append]

/-- NEXT_CUE_INSTANT is the run of the slot's due cues, which stops at once when none is due (R60, R68). -/
theorem exec_nextCueInstant (s : State) (k : Nat) : exec (.nextCueInstant k) s = .next (s.cueExecution k) := by
  have hnone : (∀ p, s.slot k = some p → s.reached (s.nextCueInstant p) = false) → s.cueExecution k = s := fun h =>
    State.cueExecution_of_idle fun p c hs hc => by
      have := h p hs
      unfold State.reached State.nextCueInstant at this
      rw [hc] at this
      exact Int.not_le.1 (of_decide_eq_false this)
  change execNextCueInstant k s = _
  unfold execNextCueInstant
  refine congrArg Host.Outcome.next ?_
  cases hs : s.slot k with
  | none => exact (hnone fun p hp => by rw [hs] at hp; cases hp).symm
  | some p =>
    dsimp only
    split
    · rfl
    · next hr =>
      refine (hnone fun q hq => ?_).symm
      obtain rfl := Option.some.inj (hs.symm.trans hq)
      exact Bool.not_eq_true _ ▸ hr

/-! ## Resuming a held slot -/

/-- A resumed slot whose next cue is not due yet only runs (R74). -/
theorem State.resumeSlot_of_idle {s : State} {k : Nat} {p : Playback} {start r : Int}
    (h : ∀ c, s.showCue p.showNo p.nextCue = some c → s.instant < p.runStart + (p.held + (r - start)) + c.offset) :
    s.resumeSlot k p start r = s.setSlot k (some { p with phase := .running, held := p.held + (r - start) }) := by
  refine State.cueExecution_of_idle fun q c hq hc => ?_
  rw [State.slot_setSlot, if_pos rfl] at hq
  obtain rfl := Option.some.inj hq
  exact h c hc

theorem State.slot_setSlot_some (s : State) (k : Nat) (q : Option Playback) :
    (s.setSlot k q).slot k = q ∧ ∀ j, j ≠ k → (s.setSlot k q).slot j = s.slot j :=
  ⟨(State.slot_setSlot ..).trans (if_pos rfl), fun _ hj => (State.slot_setSlot ..).trans (if_neg hj)⟩

/-- Settles O30: both resume the slot, and the run of cues that follows has none to execute. -/
theorem goAndHoldExpiryResume : Obligations.GoAndHoldExpiryResume := by
  refine ⟨fun h k s ht => ⟨fun hk => ?_, fun hk hslot => ?_, fun p start limit hk hs hp => ?_⟩,
    fun s k p start limit hs hp hl hr => ?_⟩
  · exact congrArg Host.Outcome.next (State.request_refuse (owner := goAnswer k) ht (if_pos hk))
  · refine congrArg Host.Outcome.next (State.request_refuse (owner := goAnswer k) ht ?_)
    unfold goAnswer
    rw [if_neg (by omega), show s.atTake.slot k = s.slot k from rfl]
    obtain hn | ⟨p, hs, hp⟩ := hslot
    · rw [hn]
    · rw [hs]
      dsimp only
      split
      · next start limit hph => exact absurd hph (hp start limit)
      · rfl
  · have hanswer : goAnswer k s.atTake = ⟨.ok, .none, s.atTake.resumeSlot k p start s.instant, .nothing⟩ := by
      unfold goAnswer
      rw [if_neg (by omega), show s.atTake.slot k = some p from hs]
      dsimp only
      rw [hp]
      rfl
    refine ⟨(s.atTake.resumeSlot k p start s.instant).withMgmt _, State.next_request_answer ht hanswer (by simp) rfl, rfl,
      fun hidle => ?_⟩
    rw [State.resumeSlot_of_idle (s := s.atTake) hidle]
    exact s.atTake.slot_setSlot_some k _
  · have hexec : exec (.holdExpiry k) s = .next (s.resumeSlot k p start (start + 1000 * limit)) := by
      change execHoldExpiry k s = _
      unfold execHoldExpiry State.expireHold holdExpiry
      rw [hs]
      dsimp only
      rw [hp]
      dsimp only
      rw [if_neg hl]
      exact congrArg Host.Outcome.next (if_pos hr)
    have hheld : p.held + (start + 1000 * limit - start) = p.held + 1000 * limit := by omega
    refine ⟨_, hexec, by simp, by simp, by simp, fun hidle => ?_⟩
    rw [State.resumeSlot_of_idle (by rw [hheld]; exact hidle), hheld]
    exact s.slot_setSlot_some k _

end Sys2Proof.Machine
end

section
/-! SUPPORT. Cues that reach zones, zone by zone, and what the due cue of a slot does (05). -/

namespace Sys2Proof.Machine

/-! ## Zone by zone -/

/-- u has zone z of s and all that the zone's values are made of. -/
structure State.AlikeAt (s u : State) (z : Nat) : Prop where
  zone : u.zone z = s.zone z
  live : u.mixer.live = s.mixer.live
  bands : u.mixer.bands = s.mixer.bands
  ingress : u.ingress = s.ingress
  masters : ∀ k x, u.masterOf k x = s.masterOf k x
  time : u.time = s.time
  settings : u.settings = s.settings

theorem State.AlikeAt.layer {s u : State} {z : Nat} (h : s.AlikeAt u z) (k : Nat) : u.layer k z = s.layer k z := by
  unfold State.layer
  rw [h.zone]

theorem State.AlikeAt.zoneValue {s u : State} {z : Nat} (h : s.AlikeAt u z) (x : Int) :
    u.zoneValue z x = s.zoneValue z x :=
  State.zoneValue_congr (by rw [h.zone]) (by rw [h.zone]) (by rw [h.zone]) (fun k _ => h.layer k) h.live h.ingress
    (fun k _ => h.masters k) x

theorem State.AlikeAt.cueLayer {s u : State} {z : Nat} (h : s.AlikeAt u z) (k : Nat) (p : Playback) (d : Int)
    (mode : LayerMode) (fade : Nat) (curve : Curve) :
    u.cueLayer k p d mode fade curve z = s.cueLayer k p d mode fade curve z := by
  unfold State.cueLayer
  simp only [h.layer, h.zoneValue, State.layerValue_congr h.live h.ingress]

theorem State.AlikeAt.handoverAt {s u : State} {z : Nat} (h : s.AlikeAt u z) (d : Int) :
    u.handoverAt z d = s.handoverAt z d := by
  unfold State.handoverAt
  rw [h.zoneValue, h.settings]

theorem State.putLayer_zones (s : State) (k z : Nat) (l : Layer) :
    ∃ zones, s.putLayer k z l = s.withMixer { s.mixer with zones := zones } := by
  unfold State.putLayer
  dsimp only
  split
  · exact ⟨_, rfl⟩
  · split <;> exact ⟨_, rfl⟩

theorem State.zone_putLayer_other (s : State) (k z : Nat) (l : Layer) {y : Nat} (hy : y ≠ z) :
    (s.putLayer k z l).zone y = s.zone y := by
  unfold State.putLayer
  dsimp only
  split
  · rw [State.zone_setZone, if_neg hy]
  · split <;> rw [State.zone_setZone, if_neg hy]

/-- A replacement of the zones that leaves zone y is alike there. -/
theorem State.alikeAt_withZones {s u : State} {zones : Table Zone} (h : u = s.withMixer { s.mixer with zones := zones })
    {y : Nat} (zone : u.zone y = s.zone y) : s.AlikeAt u y := by
  refine ⟨zone, ?_, ?_, ?_, ?_, ?_, ?_⟩ <;> subst h
  · rfl
  · rfl
  · rfl
  · exact fun _ _ => rfl
  · rfl
  · rfl

/-- A change made zone by zone, each from no more than its own zone, is made in every zone as from the beginning. -/
theorem foldl_zone {f : State → Nat → State} (other : ∀ (s : State) z y, y ≠ z → s.AlikeAt (f s z) y)
    (own : ∀ (s u : State) z, s.AlikeAt u z → (f u z).zone z = (f s z).zone z) {zs : List Nat} (hzs : zs.Nodup) (s : State)
    (y : Nat) : (zs.foldl f s).zone y = if y ∈ zs then (f s y).zone y else s.zone y := by
  induction zs generalizing s with
  | nil => rfl
  | cons z zs ih =>
    obtain ⟨hz, hzs⟩ := List.nodup_cons.1 hzs
    rw [List.foldl_cons, ih hzs]
    by_cases hy : y = z
    · subst hy
      rw [if_neg hz, if_pos (List.mem_cons_self ..)]
    · simp only [List.mem_cons, hy, false_or]
      split
      · exact own s (f s z) y (other s z y hy)
      · exact (other s z y hy).zone

theorem zoneRange_nodup (first count : Nat) : (zoneRange first count).Nodup :=
  List.nodup_range.map fun _ _ h => Nat.add_left_cancel h

/-- A layer put into a zone leaves its zone as in any state alike there. -/
theorem State.AlikeAt.zone_putLayer {s u : State} {z : Nat} (h : s.AlikeAt u z) (k : Nat) (l : Layer) :
    (u.putLayer k z l).zone z = (s.putLayer k z l).zone z := by
  unfold State.putLayer
  dsimp only
  rw [h.zone]
  split
  · simp only [State.zone_setZone, if_true]
  · split <;> simp only [State.zone_setZone, if_true]

theorem State.AlikeAt.zone_dropLayer {s u : State} {z : Nat} (h : s.AlikeAt u z) (k : Nat) (d : Int) :
    (u.dropLayer k d z).zone z = (s.dropLayer k d z).zone z := by
  unfold State.dropLayer
  dsimp only
  rw [h.zone, h.handoverAt]
  split
  · exact h.zone
  · split <;> simp only [State.zone_setZone, if_true]

/-! ## LOOK, FOLLOW and RELEASE -/

/-- A LOOK or FOLLOW cue puts its layer into each zone of its range as it finds the zone (R93 to R95). -/
theorem State.zone_cueZones (s : State) (k : Nat) (p : Playback) (d : Int) (mode : LayerMode) (fade : Nat) (curve : Curve)
    (z n y : Nat) : (s.cueZones k p d mode fade curve z n).zone y =
      if y ∈ zoneRange z n then (s.putLayer k y (s.cueLayer k p d mode fade curve y)).zone y else s.zone y := by
  refine foldl_zone (f := fun s z => s.cueZone k p d mode fade curve z) (fun s z y hy => ?_) (fun s u z h => ?_)
    (zoneRange_nodup z n) s y
  · obtain ⟨zones, hzones⟩ := s.putLayer_zones k z (s.cueLayer k p d mode fade curve z)
    exact State.alikeAt_withZones hzones (s.zone_putLayer_other k z _ hy)
  · unfold State.cueZone
    rw [h.cueLayer, h.zone_putLayer]

/-- A RELEASE cue drops the slot's layer from each zone of its range as it finds the zone (R96). -/
theorem State.zone_releaseZones (s : State) (k : Nat) (d : Int) (z n y : Nat) : (s.releaseZones k d z n).zone y =
    if y ∈ zoneRange z n then (s.dropLayer k d y).zone y else s.zone y := by
  refine foldl_zone (f := fun s z => s.dropLayer k d z) (fun s z y hy => ?_) (fun s u z h => h.zone_dropLayer k d)
    (zoneRange_nodup z n) s y
  obtain ⟨zones, hzones⟩ := s.dropLayer_zones k z d
  exact State.alikeAt_withZones hzones ((s.dropLayer_effect k z d).2.2.1 y hy)

/-- What a layer put into a zone leaves of it: a new owner removes the handover (R91, R94). -/
theorem State.zone_putLayer (s : State) (k z : Nat) (l : Layer) :
    ((s.putLayer k z l).zone z).house = (s.zone z).house ∧
      ((s.putLayer k z l).zone z).handover =
        if ((s.putLayer k z l).zone z).owner = (s.zone z).owner then (s.zone z).handover else none := by
  have hcases : (∃ layers, (s.putLayer k z l).zone z = { s.zone z with layers := layers }) ∨
      ∃ layers owner, owner ≠ (s.zone z).owner ∧
        (s.putLayer k z l).zone z = { s.zone z with layers := layers, owner := owner, handover := none } := by
    unfold State.putLayer
    dsimp only
    split
    · exact .inl ⟨_, (State.zone_setZone ..).trans (if_pos rfl)⟩
    · split
      · exact .inl ⟨_, (State.zone_setZone ..).trans (if_pos rfl)⟩
      · next hne => exact .inr ⟨_, _, hne, (State.zone_setZone ..).trans (if_pos rfl)⟩
  obtain ⟨layers, hz⟩ | ⟨layers, owner, hne, hz⟩ := hcases
  · rw [hz]
    exact ⟨rfl, (if_pos rfl).symm⟩
  · rw [hz]
    exact ⟨rfl, (if_neg hne).symm⟩

theorem State.layer_of_zone {s u : State} {y z : Nat} (h : u.zone y = s.zone z) (j : Nat) : u.layer j y = s.layer j z := by
  unfold State.layer
  rw [h]

/-! ## Owners without a slot's layer -/

theorem strongest_eq_none_iff (layers : Table (Option Layer)) :
    strongest layers = none ↔ ∀ k, k < 4 → Table.read none layers k = none := by
  refine ⟨(strongest_search layers).2, fun h => ?_⟩
  by_contra hne
  obtain ⟨k, hk⟩ := Option.ne_none_iff_exists'.1 hne
  obtain ⟨hlt, l, hl, _⟩ := (strongest_eq_some_iff layers k).1 hk
  rw [h k hlt] at hl
  cases hl

/-- Without its layer a slot owns nothing. -/
theorem strongest_drop_ne (layers : Table (Option Layer)) (k : Nat) :
    strongest (Table.write none layers k none) ≠ some k := by
  intro h
  obtain ⟨_, l, hl, _⟩ := (strongest_eq_some_iff _ k).1 h
  rw [Table.read_write, if_pos rfl] at hl
  cases hl

/-- The drop of a layer that does not own leaves the owner (R91). -/
theorem strongest_drop {layers : Table (Option Layer)} {k : Nat} (h : strongest layers ≠ some k) :
    strongest (Table.write none layers k none) = strongest layers := by
  cases ho : strongest layers with
  | none =>
    rw [strongest_eq_none_iff] at ho ⊢
    intro j hj
    rw [Table.read_write]
    split
    · rfl
    · exact ho j hj
  | some i =>
    have hik : i ≠ k := fun he => h (he ▸ ho)
    obtain ⟨hi, l, hl, hbest⟩ := (strongest_eq_some_iff layers i).1 ho
    refine (strongest_eq_some_iff _ i).2 ⟨hi, l, by rw [Table.read_write, if_neg hik, hl], fun j m hj hne hm => ?_⟩
    rw [Table.read_write] at hm
    split at hm
    · cases hm
    · exact hbest j m hj hne hm

/-- A zone's owner has a layer in it. -/
theorem Zone.Owned.layer {s : State} {k z : Nat} (h : (s.zone z).Owned) (ho : (s.zone z).owner = some k) :
    ∃ l, s.layer k z = some l := by
  obtain ⟨_, l, hl, _⟩ := (strongest_eq_some_iff _ k).1 (h.2.symm.trans ho)
  exact ⟨l, hl⟩

/-- What a drop leaves of a zone: the handover of R92 when the slot owned it, and otherwise the owner and handover. -/
theorem State.zone_dropLayer {s : State} {z : Nat} (howned : (s.zone z).Owned) (k : Nat) (d : Int) :
    ((s.dropLayer k d z).zone z).Owned ∧
      ((s.zone z).owner ≠ some k → ((s.dropLayer k d z).zone z).owner = (s.zone z).owner ∧
        ((s.dropLayer k d z).zone z).handover = (s.zone z).handover) ∧
      ((s.zone z).owner = some k → ((s.dropLayer k d z).zone z).owner ≠ some k ∧
        ((s.dropLayer k d z).zone z).handover = s.handoverAt z d) := by
  cases hl : s.layer k z with
  | none =>
    have hsame : s.dropLayer k d z = s := by
      unfold State.dropLayer
      dsimp only
      rw [show Table.read none (s.zone z).layers k = none from hl]
    rw [hsame]
    refine ⟨howned, fun _ => ⟨rfl, rfl⟩, fun ho => ?_⟩
    obtain ⟨l, hl'⟩ := howned.layer ho
    rw [hl] at hl'
    cases hl'
  | some l =>
    have hlayers := Table.wf_write none (s.zone z).layers k none howned.1
    unfold State.dropLayer
    dsimp only
    rw [show Table.read none (s.zone z).layers k = some l from hl]
    dsimp only
    split
    · next he =>
      rw [State.zone_setZone, if_pos rfl]
      exact ⟨⟨hlayers, he.symm⟩, fun _ => ⟨rfl, rfl⟩, fun ho => absurd (he.trans ho) (strongest_drop_ne _ k)⟩
    · next hne =>
      rw [State.zone_setZone, if_pos rfl]
      exact ⟨⟨hlayers, rfl⟩, fun ho => absurd ((strongest_drop (howned.2 ▸ ho)).trans howned.2.symm) hne,
        fun _ => ⟨strongest_drop_ne _ k, rfl⟩⟩

/-! ## Handovers that have ended -/

/-- The handover of a zone once ended ones are removed (R82). -/
def State.settled (s : State) (r : Zone) : Zone :=
  { r with handover := r.handover.filter (fun g => decide (s.instant < g.start + g.duration)) }

theorem State.settleZone_eq (s : State) (z : Nat) :
    (∃ zones, s.settleZone z = s.withMixer { s.mixer with zones := zones }) ∧
      ∀ y, (s.settleZone z).zone y = if y = z then s.settled (s.zone z) else s.zone y := by
  have hkeep : (s.zone z).handover.filter (fun g => decide (s.instant < g.start + g.duration)) = (s.zone z).handover →
      ∀ y, s.zone y = if y = z then s.settled (s.zone z) else s.zone y := by
    intro h y
    unfold State.settled
    rw [h]
    split
    · next hy => rw [hy]
    · rfl
  unfold State.settleZone Handover.finish
  cases hh : (s.zone z).handover with
  | none => exact ⟨⟨s.mixer.zones, rfl⟩, hkeep (by rw [hh]; rfl)⟩
  | some h =>
    dsimp only
    split
    · next hend =>
      refine ⟨⟨_, rfl⟩, fun y => ?_⟩
      rw [State.zone_setZone]
      unfold State.settled
      rw [hh, show (some h).filter (fun g => decide (s.instant < g.start + g.duration)) = none from
        if_neg (by simpa using hend)]
    · next hend =>
      exact ⟨⟨s.mixer.zones, rfl⟩, hkeep (by rw [hh]; exact if_pos (by simpa using hend))⟩

theorem State.settled_idem (s : State) (r : Zone) : s.settled (s.settled r) = s.settled r := by
  unfold State.settled
  simp only [Option.filter_filter, Bool.and_self]

/-- Handovers that have ended are removed from the zones named, and nothing else changes (R82). -/
theorem State.settleHandovers_effect (s : State) (made : List Nat) :
    (∃ zones, s.settleHandovers made = s.withMixer { s.mixer with zones := zones }) ∧
      ∀ y, (s.settleHandovers made).zone y = if y ∈ made then s.settled (s.zone y) else s.zone y := by
  unfold State.settleHandovers
  induction made generalizing s with
  | nil => exact ⟨⟨s.mixer.zones, rfl⟩, fun y => by simp⟩
  | cons z zs ih =>
    obtain ⟨⟨first, hfirst⟩, hzone⟩ := s.settleZone_eq z
    obtain ⟨⟨rest, hrest⟩, hread⟩ := ih (s.settleZone z)
    have hsettled : (s.settleZone z).settled = s.settled := by rw [hfirst]; rfl
    rw [List.foldl_cons]
    refine ⟨⟨rest, by rw [hrest, hfirst]; rfl⟩, fun y => ?_⟩
    rw [hread, hsettled, hzone]
    by_cases hy : y = z
    · subst hy
      simp [State.settled_idem]
    · simp [hy]

/-! ## The zones in which a RELEASE makes a handover -/

theorem State.dropMakes_iff {s : State} {k y : Nat} (h : (s.zone y).Owned) :
    s.dropMakes k y = true ↔ (s.zone y).owner = some k ∧ s.settings.handoverTime ≠ 0 := by
  simp only [State.dropMakes, Bool.and_eq_true, decide_eq_true_eq]
  constructor
  · rintro ⟨⟨_, hne⟩, hh⟩
    refine ⟨?_, hh⟩
    by_contra ho
    exact hne ((strongest_drop (h.2 ▸ ho)).trans h.2.symm)
  · rintro ⟨ho, hh⟩
    obtain ⟨l, hl⟩ := h.layer ho
    exact ⟨⟨by rw [hl]; rfl, fun he => strongest_drop_ne _ k (he.trans ho)⟩, hh⟩

theorem State.mem_cueMakes {s : State} (h : s.ZonesOwned) (k z n y : Nat) : y ∈ s.cueMakes k (.release z n) ↔
    (z ≤ y ∧ y < z + n) ∧ (s.zone y).owner = some k ∧ s.settings.handoverTime ≠ 0 := by
  unfold State.cueMakes
  rw [List.mem_filter, mem_zoneRange, State.dropMakes_iff (h.zone y)]

/-! ## The due cue -/

@[simp] theorem State.slot_cueZones (s : State) (k : Nat) (p : Playback) (d : Int) (mode : LayerMode) (fade : Nat)
    (curve : Curve) (z n j : Nat) : (s.cueZones k p d mode fade curve z n).slot j = s.slot j := by
  simp only [State.slot, State.cueZones_frame]

/-- A slot that has advanced past a cue has its master still. -/
theorem State.alikeAt_setSlot {s : State} {k : Nat} {p q : Playback} (hs : s.slot k = some p)
    (hm : q.master = p.master) (y : Nat) : s.AlikeAt (s.setSlot k (some q)) y := by
  refine ⟨rfl, rfl, rfl, rfl, fun j x => ?_, rfl, rfl⟩
  unfold State.masterOf
  rw [State.slot_setSlot]
  by_cases hj : j = k
  · rw [if_pos hj, hj, hs]
    dsimp only
    rw [hm]
  · rw [if_neg hj]

/-- The layers and zones that a LOOK or FOLLOW cue of a slot leaves (R84, R91, R94, R95). -/
theorem State.cueZones_effect {s : State} (owned : s.ZonesOwned) {k : Nat} {p q : Playback} (hs : s.slot k = some p)
    (hm : q.master = p.master) (hprio : q.priority = p.priority) (hrun : q.runStart = p.runStart) (d : Int)
    (mode : LayerMode) (fade : Nat) (curve : Curve) (z n : Nat) :
    let t := (s.setSlot k (some q)).cueZones k q d mode fade curve z n
    (∀ y, z ≤ y → y < z + n → ∃ m, t.layer k y = some m ∧ m.mode = mode ∧ m.fadeStart = d ∧ m.fadeDuration = fade ∧
      m.curve = curve ∧
      (∀ m', s.layer k y = some m' → m.fadeFrom = s.layerValue y m' d ∧ m.priority = m'.priority ∧
        m.runStart = m'.runStart) ∧
      (s.layer k y = none → m.fadeFrom = s.zoneValue y d ∧ m.priority = p.priority ∧ m.runStart = p.runStart)) ∧
    (∀ y, z ≤ y → y < z + n → (t.zone y).Owned ∧ (t.zone y).house = (s.zone y).house ∧
      (∀ j, j ≠ k → t.layer j y = s.layer j y) ∧
      (t.zone y).handover = (if (t.zone y).owner = (s.zone y).owner then (s.zone y).handover else none)) ∧
    (∀ y, (y < z ∨ z + n ≤ y) → t.zone y = s.zone y) := by
  intro t
  have hin : ∀ y, z ≤ y → y < z + n → t.zone y = (s.putLayer k y (s.cueLayer k q d mode fade curve y)).zone y := by
    intro y hlo hhi
    have halike := State.alikeAt_setSlot hs hm y
    exact (State.zone_cueZones ..).trans ((if_pos (mem_zoneRange.2 ⟨hlo, hhi⟩)).trans
      (by rw [halike.cueLayer, halike.zone_putLayer]))
  refine ⟨fun y hlo hhi => ⟨s.cueLayer k q d mode fade curve y, ?_, ?_⟩, fun y hlo hhi => ?_, fun y hy => ?_⟩
  · rw [State.layer_of_zone (hin y hlo hhi), State.layer_putLayer, if_pos ⟨rfl, rfl⟩]
  · unfold State.cueLayer
    cases hl : s.layer k y with
    | none => exact ⟨rfl, rfl, rfl, rfl, nofun, fun _ => ⟨rfl, hprio, hrun⟩⟩
    | some m => exact ⟨rfl, rfl, rfl, rfl, fun m' hm' => by obtain rfl := Option.some.inj hm'; exact ⟨rfl, rfl, rfl⟩, nofun⟩
  · obtain ⟨hhouse, hhandover⟩ := s.zone_putLayer k y (s.cueLayer k q d mode fade curve y)
    refine ⟨?_, ?_, fun j hj => ?_, ?_⟩
    · rw [hin y hlo hhi]
      exact (owned.putLayer (s.cueLayer_rank k q d mode fade curve y)).zone y
    · rw [hin y hlo hhi, hhouse]
    · rw [State.layer_of_zone (hin y hlo hhi), State.layer_putLayer, if_neg fun h => hj h.2]
    · rw [hin y hlo hhi, hhandover]
  · exact (State.zone_cueZones ..).trans (if_neg fun hmem => by have := mem_zoneRange.1 hmem; omega)

/-- A cue leaves its slot idle when the next cue is not due (R60, R68). -/
theorem State.executeCue_idle {s : State} {k : Nat} {p : Playback}
    (hnext : ∀ c', s.showCue p.showNo p.nextCue = some c' → s.instant < p.runStart + p.held + c'.offset) (d : Int)
    (c : Cue) : (s.executeCue k p d c).CueIdle k := by
  intro q c' hq hc
  obtain ⟨hstates, hcues⟩ := s.executeCue_shows k p d c
  obtain hn | ⟨q', hq', hshow, hindex, hrun, hheld⟩ := s.executeCue_slot k p d c
  · rw [hn] at hq; cases hq
  · obtain rfl := Option.some.inj (hq'.symm.trans hq)
    obtain ⟨_, hc'⟩ := (State.nextCue_eq_some_iff ..).1 hc
    rw [(State.showCue_congr hstates hcues _ _).1, hshow, hindex] at hc'
    have := hnext c' hc'
    have hinstant : (s.executeCue k p d c).instant = s.instant := by simp [State.instant, State.now]
    unfold Playback.dueInstant
    rw [hinstant]
    omega

/-- The due cue with no cue due after it: its effect, and the handovers it made that have ended are removed (R68, R82). -/
theorem State.cueExecution_one {s : State} {k : Nat} {p : Playback} {c : CueRecord} (hs : s.slot k = some p)
    (hp : p.phase = .running) (hc : s.showCue p.showNo p.nextCue = some c) (hd : p.dueInstant c ≤ s.instant)
    (hnext : ∀ c', s.showCue p.showNo (p.nextCue + 1) = some c' → s.instant < p.runStart + p.held + c'.offset) :
    s.cueExecution k = (s.executeCue k { p with nextCue := p.nextCue + 1 } (p.dueInstant c) c.cue).settleHandovers
      (s.cueMakes k c.cue) := by
  rw [State.cueExecution_eq, State.cueRun_of_due hs ((State.nextCue_eq_some_iff ..).2 ⟨hp, hc⟩) hd,
    State.cueRun_of_idle (State.executeCue_idle (p := { p with nextCue := p.nextCue + 1 }) hnext _ _), List.append_nil]

/-- The layers and zones that a RELEASE cue of a slot leaves, once the handovers that have ended are removed (R82, R92,
R96). -/
theorem State.releaseZones_effect {s : State} (owned : s.ZonesOwned) {k : Nat} {p q : Playback} (hs : s.slot k = some p)
    (hm : q.master = p.master) {d : Int} (hd : d ≤ s.instant) (z n : Nat) :
    let t := ((s.setSlot k (some q)).releaseZones k d z n).settleHandovers (s.cueMakes k (.release z n))
    (∀ y, z ≤ y → y < z + n → t.layer k y = none) ∧ (∀ y, (y < z ∨ z + n ≤ y) → t.zone y = s.zone y) ∧
      ∀ y, z ≤ y → y < z + n →
        ((s.zone y).owner ≠ some k → (t.zone y).handover = (s.zone y).handover) ∧
        ((s.zone y).owner = some k → (t.zone y).handover =
          if d + s.settings.handoverTime ≤ s.instant then none
          else some ⟨s.zoneValue y d, d, s.settings.handoverTime⟩) := by
  intro t
  have hmade := State.mem_cueMakes owned k z n
  have hread : ∀ y, t.zone y = if y ∈ s.cueMakes k (.release z n)
      then s.settled (((s.setSlot k (some q)).releaseZones k d z n).zone y)
      else ((s.setSlot k (some q)).releaseZones k d z n).zone y := by
    intro y
    refine (State.settleHandovers_effect ..).2 y |>.trans ?_
    unfold State.settled
    simp [State.instant, State.now]
  have hin : ∀ y, z ≤ y → y < z + n →
      ((s.setSlot k (some q)).releaseZones k d z n).zone y = (s.dropLayer k d y).zone y := fun y hlo hhi =>
    (State.zone_releaseZones ..).trans ((if_pos (mem_zoneRange.2 ⟨hlo, hhi⟩)).trans
      ((State.alikeAt_setSlot hs hm y).zone_dropLayer k d))
  refine ⟨fun y hlo hhi => ?_, fun y hy => ?_, fun y hlo hhi => ?_⟩
  · have hgone : Table.read none ((s.dropLayer k d y).zone y).layers k = none := (s.dropLayer_effect k y d).1
    unfold State.layer
    rw [hread, hin y hlo hhi]
    split <;> exact hgone
  · rw [hread, if_neg fun hmem => by have := ((hmade y).1 hmem).1; omega]
    exact (State.zone_releaseZones ..).trans (if_neg fun hmem => by have := mem_zoneRange.1 hmem; omega)
  · obtain ⟨_, hkept, hdropped⟩ := State.zone_dropLayer (owned.zone y) k d
    refine ⟨fun ho => ?_, fun ho => ?_⟩
    · rw [hread, if_neg fun hmem => ho ((hmade y).1 hmem).2.1, hin y hlo hhi, (hkept ho).2]
    · obtain ⟨_, hhandover⟩ := hdropped ho
      by_cases hh : s.settings.handoverTime = 0
      · rw [hread, if_neg fun hmem => ((hmade y).1 hmem).2.2 hh, hin y hlo hhi, hhandover, if_pos (by omega)]
        exact if_pos hh
      · rw [hread, if_pos ((hmade y).2 ⟨⟨hlo, hhi⟩, ho, hh⟩), hin y hlo hhi]
        unfold State.settled
        dsimp only
        rw [hhandover, show s.handoverAt y d = some ⟨s.zoneValue y d, d, s.settings.handoverTime⟩ from if_neg hh]
        by_cases hend : d + s.settings.handoverTime ≤ s.instant
        · rw [if_pos hend]
          exact if_neg (by simpa using hend)
        · rw [if_neg hend]
          exact if_pos (by simpa using hend)

theorem followSubstate_eq (x : SourceState) : followSubstate x = if x = .lost then .fallen else .tracking := by
  cases x <;> rfl

/-- A run's first RELEASE: its ended handovers are removed at the end, with those of the other cues (R68, R82). -/
theorem State.cueExecution_release {s : State} {k : Nat} {p : Playback} {c : CueRecord} (hs : s.slot k = some p)
    (hc : s.nextCue p = some c) (hd : p.dueInstant c ≤ s.instant) :
    let made := s.cueMakes k c.cue
    let v := (s.executeCue k { p with nextCue := p.nextCue + 1 } (p.dueInstant c) c.cue).cueExecution k
    s.cueExecution k = v.withMixer (s.cueExecution k).mixer ∧ (s.cueExecution k).mixer.live = v.mixer.live ∧
      (s.cueExecution k).mixer.bands = v.mixer.bands ∧
      ∀ y, (s.cueExecution k).zone y = if y ∈ made then s.settled (v.zone y) else v.zone y := by
  intro made v
  set u := s.executeCue k { p with nextCue := p.nextCue + 1 } (p.dueInstant c) c.cue with hu
  have hrun : s.cueExecution k = (u.cueRun k).1.settleHandovers (made ++ (u.cueRun k).2) := by
    rw [State.cueExecution_eq, State.cueRun_of_due hs hc hd]
  have hv : v = (u.cueRun k).1.settleHandovers (u.cueRun k).2 := u.cueExecution_eq k
  have hsettled : (u.cueRun k).1.settled = s.settled := by
    have htime : (u.cueRun k).1.time = s.time := by
      unfold State.cueRun
      split <;> simp [hu]
    unfold State.settled State.instant State.now
    rw [htime]
  obtain ⟨⟨zones, hzones⟩, hread⟩ := (u.cueRun k).1.settleHandovers_effect (made ++ (u.cueRun k).2)
  obtain ⟨⟨zones', hzones'⟩, hread'⟩ := (u.cueRun k).1.settleHandovers_effect (u.cueRun k).2
  rw [← hrun] at hzones hread
  rw [← hv] at hzones' hread'
  rw [hsettled] at hread hread'
  refine ⟨?_, by rw [hzones, hzones']; rfl, by rw [hzones, hzones']; rfl, fun y => ?_⟩
  · rw [hzones, hzones']; rfl
  · rw [hread, hread']
    by_cases hm : y ∈ made <;> by_cases hr : y ∈ (u.cueRun k).2 <;> simp [hm, hr, State.settled_idem]

/-- Settles O32: a run of cues is the effect of the first and then the run of the others, and it ends with none due. -/
theorem dueCueTakesEffect : Obligations.DueCueTakesEffect := by
  refine ⟨fun s k p c d owned hs hp hc hd hdue hnext => ?_, fun s t k p i hexec hs hi => ?_,
    fun s k p c d hs hp hc hd hdue hne => ?_, fun s k p c d z n owned hs hp hc hd hdue hcue => ?_⟩
  · have hdi : p.dueInstant c = d := hd.symm
    have hone := State.cueExecution_one hs hp hc (hdi.le.trans hdue) hnext
    rw [hdi] at hone
    have hset : ∀ q, (s.setSlot k (some q)).slot k = some q := fun q => (s.slot_setSlot_some k _).1
    refine ⟨_, exec_nextCueInstant s k, by simp, by simp, by simp, fun z n l fade curve hcue => ?_,
      fun z n b src policy fade curve hcue => ?_, fun z n hcue => ?_, fun level fade hcue => ?_, fun limit hcue hl => ?_,
      fun limit hcue hl hr => ?_, fun fade hcue hf => ?_, fun fade hcue hf => ?_⟩
    all_goals rw [hcue] at hone; rw [hone]
    · refine ⟨?_, State.cueZones_effect (q := { p with nextCue := p.nextCue + 1 }) owned hs rfl rfl rfl d (.look l) fade curve z n⟩
      exact (State.slot_cueZones ..).trans (hset _)
    · rw [← followSubstate_eq]
      refine ⟨?_, State.cueZones_effect (q := { p with nextCue := p.nextCue + 1 }) owned hs rfl rfl rfl d
        (.follow src policy b fade (followSubstate (s.source src).state)) fade curve z n⟩
      exact (State.slot_cueZones ..).trans (hset _)
    · refine ⟨?_, State.releaseZones_effect (q := { p with nextCue := p.nextCue + 1 }) owned hs rfl hdue z n⟩
      simp only [State.slot, State.settleHandovers_frame, State.executeCue, State.releaseZones_frame]
      exact hset _
    · exact ⟨hset _, fun _ => rfl⟩
    · rw [show s.executeCue k _ d (.hold limit) = _ from s.holdSlot_eq k _ d limit, if_neg (by omega)]
      exact hset _
    · rw [show s.executeCue k _ d (.hold limit) = _ from s.holdSlot_eq k _ d limit, if_pos ⟨hl, hr⟩]
      refine (hset _).trans ?_
      unfold Playback.resumed
      rw [hp, show p.held + (d + 1000 * (limit : Int) - d) = p.held + 1000 * limit by omega]
    · rw [show s.executeCue k _ d (.finish fade) = _ from if_neg (by omega)]
      exact hset _
    · rw [show s.executeCue k _ d (.finish fade) = _ from if_pos hf]
      exact State.slot_release_self _ k
  · obtain rfl : s.cueExecution k = t := Host.Outcome.next.inj ((exec_nextCueInstant s k).symm.trans hexec)
    obtain ⟨⟨zones, hzones⟩, _⟩ := (s.cueRun k).1.settleHandovers_effect (s.cueRun k).2
    rw [State.cueExecution_eq, hzones] at hs hi ⊢
    obtain ⟨c, hc, rfl⟩ := Option.map_eq_some_iff.1 hi
    exact s.cueRun_idle k p c hs hc
  · have hdi : p.dueInstant c = d := hd.symm
    rw [exec_nextCueInstant, exec_nextCueInstant, State.cueExecution_eq, State.cueExecution_eq,
      State.cueRun_of_due hs ((State.nextCue_eq_some_iff ..).2 ⟨hp, hc⟩) (hdi.le.trans hdue),
      hdi]
    have hmakes : s.cueMakes k c.cue = [] := by
      cases hcue : c.cue with
      | release z n => exact absurd hcue (hne z n)
      | _ => rfl
    rw [hmakes, List.nil_append]
  · have hdi : p.dueInstant c = d := hd.symm
    obtain ⟨hframe, hlive, hbands, hzone⟩ :=
      State.cueExecution_release hs ((State.nextCue_eq_some_iff ..).2 ⟨hp, hc⟩) (hdi.le.trans hdue)
    rw [hdi] at hframe hlive hbands hzone
    have hmade := State.mem_cueMakes owned k z n
    rw [hcue] at hzone ⊢
    rw [hcue] at hframe hlive hbands
    refine ⟨_, _, exec_nextCueInstant _ k, exec_nextCueInstant s k, hframe, hlive, hbands, fun y hlo hhi ho hh => ?_,
      fun y hy => ?_⟩
    · exact (hzone y).trans (if_pos ((hmade y).2 ⟨⟨hlo, hhi⟩, ho, hh⟩))
    · refine (hzone y).trans (if_neg fun hmem => ?_)
      obtain ⟨hrange, ho, hh⟩ := (hmade y).1 hmem
      obtain h | h | h | h := hy
      · omega
      · omega
      · exact h ho
      · exact hh h

end Sys2Proof.Machine
end

section
/-! SUPPORT. The release of a slot, and the requests and instants that end one (04). -/

namespace Sys2Proof.Machine

/-! ## What a release leaves -/

/-- The release of a slot drops its layer from each zone as it finds the zone (R96). -/
theorem State.zone_dropLayers (s : State) (k y : Nat) :
    (s.dropLayers k).zone y = if y < 240 then (s.dropLayer k s.now y).zone y else s.zone y := by
  have hfold := foldl_zone (f := fun s z => s.dropLayer k s.now z) (fun s z y hy => by
    obtain ⟨zones, hzones⟩ := s.dropLayer_zones k z s.now
    exact State.alikeAt_withZones hzones ((s.dropLayer_effect k z s.now).2.2.1 y hy)) (fun s u z h => by
      have hnow : u.now = s.now := congrArg TimeUnit.runClock h.time
      rw [hnow]
      exact h.zone_dropLayer k s.now) (zs := zoneNumbers) List.nodup_range s y
  simp only [show y ∈ zoneNumbers ↔ y < 240 from List.mem_range] at hfold
  exact hfold

theorem State.dropLayers_zones (s : State) (k : Nat) :
    ∃ zones, s.dropLayers k = s.withMixer { s.mixer with zones := zones } := by
  unfold State.dropLayers
  induction zoneNumbers generalizing s with
  | nil => exact ⟨s.mixer.zones, rfl⟩
  | cons z zs ih =>
    obtain ⟨zones, hz⟩ := s.dropLayer_zones k z s.now
    obtain ⟨zones', hzs⟩ := ih (s.dropLayer k s.now z)
    exact ⟨zones', hzs.trans (by rw [hz]; rfl)⟩

theorem State.release_eq {s : State} {k : Nat} {p : Playback} (hs : s.slot k = some p) :
    s.release k = (((s.dropLayers k).setSlot k none).slotFreed p.showNo).allFreeEvent := by
  unfold State.release
  rw [hs]

theorem State.zone_release {s : State} {k : Nat} {p : Playback} (hs : s.slot k = some p) (y : Nat) :
    (s.release k).zone y = (s.dropLayers k).zone y := by
  unfold State.zone
  rw [State.release_eq hs]
  simp

theorem State.mixer_release {s : State} {k : Nat} {p : Playback} (hs : s.slot k = some p) :
    ∃ zones, (s.release k).mixer = { s.mixer with zones := zones } := by
  obtain ⟨zones, hz⟩ := s.dropLayers_zones k
  refine ⟨zones, ?_⟩
  rw [State.release_eq hs]
  simp [hz]

/-- The layers of the slot leave every zone, and no other (R75, R96). -/
theorem State.layer_release {s : State} {k : Nat} {p : Playback} (hs : s.slot k = some p) (j y : Nat) :
    (s.release k).layer j y = if y < 240 ∧ j = k then none else s.layer j y :=
  (State.layer_of_zone (State.zone_release hs y) j).trans (s.layer_dropLayers k j y)

theorem State.house_release {s : State} {k : Nat} {p : Playback} (hs : s.slot k = some p) (y : Nat) :
    ((s.release k).zone y).house = (s.zone y).house := by
  rw [State.zone_release hs, State.zone_dropLayers]
  split
  · exact (s.dropLayer_effect k y s.now).2.2.2
  · rfl

/-- A zone that the slot owned hands over, and every other keeps its owner and handover (R92, R96). -/
theorem State.handover_release {s : State} {k : Nat} {p : Playback} (hs : s.slot k = some p) {y : Nat} (hy : y < 240)
    (howned : (s.zone y).Owned) : ((s.release k).zone y).Owned ∧
      ((s.zone y).owner ≠ some k → ((s.release k).zone y).owner = (s.zone y).owner ∧
        ((s.release k).zone y).handover = (s.zone y).handover) ∧
      ((s.zone y).owner = some k → ((s.release k).zone y).owner ≠ some k ∧
        ((s.release k).zone y).handover = s.handoverAt y s.now) := by
  rw [State.zone_release hs, State.zone_dropLayers, if_pos hy]
  exact State.zone_dropLayer howned k s.now

theorem State.showRecord_release {s : State} {k : Nat} {p : Playback} (hs : s.slot k = some p) (x : Nat) :
    (s.release k).showRecord x =
      if x = p.showNo then { s.showRecord x with playing := (s.showRecord x).playing - 1 } else s.showRecord x := by
  rw [State.release_eq hs, State.showRecord_allFreeEvent, State.showRecord_slotFreed, State.showRecord_setSlot,
    State.showRecord_setSlot, State.showRecord_dropLayers, State.showRecord_dropLayers]
  split
  · next h => rw [h]
  · rfl

theorem State.allFree_iff (s : State) : s.allFree = true ↔ ∀ j, j < 4 → s.slot j = none := by
  simp only [State.allFree, List.all_eq_true, mem_slotNumbers, Option.isNone_iff_eq_none]

/-- The release of the last slot starts the rest timer (R39, R75). -/
theorem State.calendar_release {s : State} {k : Nat} {p : Playback} (hs : s.slot k = some p) :
    ((∀ j, j < 4 → j ≠ k → s.slot j = none) → (s.release k).calendar =
      { s.calendar with restTimer := some (s.now + 1000 * s.settings.restDelay) }) ∧
    ((∃ j, j < 4 ∧ j ≠ k ∧ s.slot j ≠ none) → (s.release k).calendar = s.calendar) := by
  have hfree : (((s.dropLayers k).setSlot k none).slotFreed p.showNo).allFree = true ↔
      ∀ j, j < 4 → j ≠ k → s.slot j = none := by
    rw [State.allFree_iff]
    refine forall_congr' fun j => forall_congr' fun _ => ?_
    rw [State.slot_slotFreed, State.slot_setSlot, State.slot_dropLayers]
    by_cases hj : j = k <;> simp [hj]
  rw [State.release_eq hs]
  unfold State.allFreeEvent
  constructor
  · intro h
    rw [if_pos (hfree.2 h)]
    simp [State.now, State.settings]
  · rintro ⟨j, hj, hne, hused⟩
    rw [if_neg fun hall => hused (hfree.1 hall j hj hne)]
    simp

/-- Settles O33: both instants release the slot. -/
theorem releaseFreesSlot : Obligations.ReleaseFreesSlot := by
  intro s c k p hs hc
  have hexec : exec c s = .next (s.release k) := by
    obtain ⟨rfl, r, hp, hr⟩ | ⟨rfl, hp, e, he, hr⟩ := hc
    · change execReleaseInstant k s = _
      unfold execReleaseInstant Phase.releaseInstant
      rw [hs]
      dsimp only
      rw [hp]
      exact congrArg Host.Outcome.next (if_pos (decide_eq_true hr))
    · have hwatched : p.watchedEnd = some e := by
        unfold Playback.watchedEnd
        split
        · next r hph => exact absurd hph (hp r)
        · exact he
      change execEndInstant k s = _
      unfold execEndInstant
      rw [hs]
      dsimp only
      rw [hwatched]
      exact congrArg Host.Outcome.next (if_pos (decide_eq_true hr))
  obtain ⟨hlast, hothers⟩ := State.calendar_release hs
  refine ⟨_, hexec, s.slot_release_self k, fun j hj => s.slot_release hj, fun z hz => ⟨?_, fun j hj => ?_⟩,
    State.house_release hs, (State.showRecord_release hs _).trans (if_pos rfl),
    fun x hx => (State.showRecord_release hs x).trans (if_neg hx), hlast, hothers, by simp⟩
  · exact (State.layer_release hs k z).trans (if_pos ⟨hz, rfl⟩)
  · exact (State.layer_release hs j z).trans (if_neg fun h => hj h.2)

/-! ## Stopping and fading -/

theorem State.endSlot_of_later {s : State} {k : Nat} {p : Playback} {d : Int} {fade : Nat} (h : s.instant < d + fade) :
    s.endSlot k p d fade = s.setSlot k (some (p.ended d fade)) := if_neg (Int.not_le.2 h)

/-- What STOP_PLAYBACK leaves of a slot that it releases, at once or as it was ENDING (R77). -/
theorem State.stopSlot_of_release {s : State} {k fade : Nat} {p : Playback} (h : fade = 0 ∨ ∃ r, p.phase = .ending r) :
    (s.stopSlot k p fade).slot k = none ∧ (∀ j, j ≠ k → (s.stopSlot k p fade).slot j = s.slot j) := by
  have hcases : s.stopSlot k p fade = s.release k ∨ ∃ q, s.stopSlot k p fade = (s.setSlot k q).release k := by
    unfold State.stopSlot
    split
    · next hp =>
      obtain rfl | ⟨r, hr⟩ := h
      · exact .inr ⟨_, if_pos (by simp)⟩
      · rw [hp] at hr; cases hr
    · next start limit hp =>
      obtain rfl | ⟨r, hr⟩ := h
      · exact .inr ⟨_, if_pos (by simp)⟩
      · rw [hp] at hr; cases hr
    · exact .inl rfl
  obtain he | ⟨q, he⟩ := hcases
  · rw [he]
    exact ⟨s.slot_release_self k, fun j hj => s.slot_release hj⟩
  · rw [he]
    refine ⟨State.slot_release_self _ k, fun j hj => ?_⟩
    rw [State.slot_release _ hj, State.slot_setSlot, if_neg hj]

theorem stopPlaybackAnswer_of_slot {s : State} {k fade : Nat} {p : Playback} (hk : k ≤ 3) (hs : s.slot k = some p) :
    stopPlaybackAnswer k fade s.atTake =
      ⟨if 600000 < fade then .adjusted else .ok, .none, s.atTake.stopSlot k p (min fade 600000), .nothing⟩ := by
  unfold stopPlaybackAnswer
  rw [if_neg (by omega), show s.atTake.slot k = some p from hs, clamp_zero, clamps_zero]
  simp only [State.answerClamped, okOrAdjusted, decide_eq_true_eq]

/-- Settles O31: a fade that takes time leaves the slot ENDING, and any other stop releases it. -/
theorem stopAndMasterFade : Obligations.StopAndMasterFade := by
  refine ⟨fun h k level fade p s ht hk hs => ?_, fun h k fade p s ht hk hs hf held hph => ?_,
    fun h k fade p s ht hk hs hrel => ?_, fun h k level fade s hk hs => ⟨fun ht => ?_, fun ht => ?_⟩⟩
  · have hanswer : setMasterAnswer k level fade s.atTake =
        ⟨if 4096 < level ∨ 600000 < fade then .adjusted else .ok, .none,
          s.atTake.setSlot k (some (p.fadeMaster s.instant (min level 4096) (min fade 600000))), .nothing⟩ := by
      unfold setMasterAnswer
      rw [if_neg (by omega), show s.atTake.slot k = some p from hs, clamp_zero, clamp_zero, clamps_zero, clamps_zero]
      simp only [State.answerClamped, okOrAdjusted, Bool.or_eq_true, decide_eq_true_eq]
      rfl
    exact State.next_request_answer ht hanswer rfl rfl
  · refine State.next_request_answer ht (stopPlaybackAnswer_of_slot hk hs) (by unfold State.stopSlot; split <;> simp) ?_
    have hlater : s.atTake.instant < s.atTake.instant + ((min fade 600000 : Nat) : Int) := by omega
    unfold State.stopSlot
    obtain ⟨hp, rfl⟩ | ⟨start, limit, hp, rfl⟩ := hph
    · rw [hp]
      dsimp only
      rw [State.endSlot_of_later hlater]
      rfl
    · rw [hp]
      dsimp only
      rw [State.endSlot_of_later hlater]
      rfl
  · have hrel' : min fade 600000 = 0 ∨ ∃ r, p.phase = .ending r := hrel.imp_left (by omega)
    obtain ⟨hgone, hothers⟩ := State.stopSlot_of_release (s := s.atTake) (k := k) hrel'
    exact ⟨(s.atTake.stopSlot k p (min fade 600000)).withMgmt _,
      State.next_request_answer ht (stopPlaybackAnswer_of_slot hk hs) (by unfold State.stopSlot; split <;> simp) rfl,
      hgone, hothers, rfl⟩
  · refine congrArg Host.Outcome.next (State.request_refuse (owner := setMasterAnswer k level fade) ht ?_)
    unfold setMasterAnswer
    rw [if_neg (by omega), show s.atTake.slot k = none from hs]
  · refine congrArg Host.Outcome.next (State.request_refuse (owner := stopPlaybackAnswer k fade) ht ?_)
    unfold stopPlaybackAnswer
    rw [if_neg (by omega), show s.atTake.slot k = none from hs]

end Sys2Proof.Machine
end

section
/-! SUPPORT. Lanes lane by lane: what entering a state, waking and resting leave of each lane and of its waiting frame
(08). -/

namespace Sys2Proof.Machine

/-! ## What a lane's operations depend on -/

/-- The lane controller but for its lanes, its waiting frames and the two statuses. -/
def LaneController.registers (x : LaneController) : LaneController :=
  { x with lanes := [], waiting := [], switch := .idle, guardStatus := .disabled }

theorem LaneController.registers_eq {x y : LaneController} (h : y.registers = x.registers) :
    y = { x with lanes := y.lanes, waiting := y.waiting, switch := y.switch, guardStatus := y.guardStatus } := by
  cases x; cases y
  simp only [LaneController.registers, LaneController.mk.injEq] at h ⊢
  simpa using h

/-- u has lane l and its waiting frame as s has them, and all else that an operation of the lane looks at. -/
structure State.AlikeLane (s u : State) (l : Nat) : Prop where
  lane : u.lane l = s.lane l
  waiting : u.waitingFrame l = s.waitingFrame l
  registers : u.lanes.registers = s.lanes.registers
  time : u.time = s.time
  mgmt : u.mgmt = s.mgmt

theorem State.AlikeLane.refl (s : State) (l : Nat) : s.AlikeLane s l := ⟨rfl, rfl, rfl, rfl, rfl⟩

theorem State.AlikeLane.trans {s u v : State} {l : Nat} (h : s.AlikeLane u l) (h' : u.AlikeLane v l) : s.AlikeLane v l :=
  ⟨h'.lane.trans h.lane, h'.waiting.trans h.waiting, h'.registers.trans h.registers, h'.time.trans h.time,
    h'.mgmt.trans h.mgmt⟩

theorem State.adopted_congr {s u : State} (h : u.lanes.registers = s.lanes.registers) (r : Lane) :
    u.adopted r = s.adopted r := by
  have hselected : u.lanes.selected = s.lanes.selected := congrArg (fun x => x.selected) h
  have hrequested : u.lanes.requestedGuard = s.lanes.requestedGuard := congrArg (fun x => x.requestedGuard) h
  unfold State.adopted
  rw [hselected, hrequested]

theorem State.rangeNames_congr {s u : State} (h : u.lanes.registers = s.lanes.registers) (l : Nat) :
    u.rangeNames l = s.rangeNames l := by
  have hguards : u.lanes.guards = s.lanes.guards := congrArg (fun x => x.guards) h
  unfold State.rangeNames State.guardRange
  rw [hguards]

theorem State.AlikeLane.guarded {s u : State} {l : Nat} (h : s.AlikeLane u l) : u.guarded l = s.guarded l := by
  have hrequested : u.lanes.requestedGuard = s.lanes.requestedGuard := congrArg (fun x => x.requestedGuard) h.registers
  unfold State.guarded
  rw [State.rangeNames_congr h.registers, h.lane, hrequested]

/-- A change made lane by lane, each from no more than its own lane, is made of every lane as from the beginning. -/
theorem foldl_lane {f : State → Nat → State} (other : ∀ (s : State) l j, j ≠ l → s.AlikeLane (f s l) j)
    (own : ∀ (s u : State) l, s.AlikeLane u l →
      (f u l).lane l = (f s l).lane l ∧ (f u l).waitingFrame l = (f s l).waitingFrame l)
    {ls : List Nat} (hls : ls.Nodup) (s : State) (j : Nat) :
    (j ∈ ls → (ls.foldl f s).lane j = (f s j).lane j ∧ (ls.foldl f s).waitingFrame j = (f s j).waitingFrame j) ∧
      (j ∉ ls → s.AlikeLane (ls.foldl f s) j) := by
  induction ls generalizing s with
  | nil => exact ⟨nofun, fun _ => .refl s j⟩
  | cons l ls ih =>
    obtain ⟨hl, hls⟩ := List.nodup_cons.1 hls
    obtain ⟨hin, hout⟩ := ih hls (f s l)
    rw [List.foldl_cons]
    refine ⟨fun hj => ?_, fun hj => ?_⟩
    · by_cases he : j = l
      · subst he
        exact ⟨(hout hl).lane, (hout hl).waiting⟩
      · obtain ⟨hlane, hwaiting⟩ := hin ((List.mem_cons.1 hj).resolve_left he)
        obtain ⟨hlane', hwaiting'⟩ := own s (f s l) j (other s l j he)
        exact ⟨hlane.trans hlane', hwaiting.trans hwaiting'⟩
    · exact (other s l j fun he => hj (he ▸ List.mem_cons_self ..)).trans (hout fun h => hj (List.mem_cons_of_mem _ h))

/-- A change of no block but the lane controller. -/
theorem State.eq_withLanes {s u : State} (h : u.time = s.time ∧ u.calendar = s.calendar ∧ u.cueStore = s.cueStore ∧
    u.playback = s.playback ∧ u.mixer = s.mixer ∧ u.ingress = s.ingress ∧ u.mgmt = s.mgmt ∧ u.faults = s.faults ∧
    u.image = s.image ∧ u.pending = s.pending ∧ u.freeCount = s.freeCount) : u = s.withLanes u.lanes := by
  cases u
  simp only at h
  obtain ⟨rfl, rfl, rfl, rfl, rfl, rfl, rfl, rfl, rfl, rfl, rfl⟩ := h
  rfl

/-! ## Placing a frame -/

/-- The age a frame placed for lane l gets: now, or that of the frame it replaces (R151). -/
def State.placedAge (s : State) (l : Nat) : Nat := (s.waitingFrame l).elim s.now Waiting.age

/-- The late count of lane l once a frame is placed: a LANE_LEVELS that replaces one counts (R151). -/
def State.placedLate (s : State) (l : Nat) (f : FixtureFrame) : Nat :=
  if (s.waitingFrame l).any (fun w => w.frame.isLevels) && f.isLevels then satInc 65535 (s.lane l).late else (s.lane l).late

theorem State.placeFrame_lane (s : State) (l : Nat) (f : FixtureFrame) (j : Nat) :
    (s.placeFrame l f).lane j = if j = l then { s.lane l with late := s.placedLate l f } else s.lane j := by
  unfold State.placeFrame State.placedLate
  cases s.waitingFrame l with
  | none =>
    rw [State.lane_setWaiting]
    split
    · next h => rw [h]; rfl
    · rfl
  | some w =>
    simp only [Option.any_some]
    split
    · rw [State.lane_setLane, State.lane_setWaiting]
    · rw [State.lane_setWaiting]
      split
      · next h => rw [h]
      · rfl

theorem State.placeFrame_waiting (s : State) (l : Nat) (f : FixtureFrame) (j : Nat) :
    (s.placeFrame l f).waitingFrame j = if j = l then some ⟨s.placedAge l, f⟩ else s.waitingFrame j := by
  unfold State.placeFrame State.placedAge
  cases s.waitingFrame l with
  | none => exact State.waitingFrame_setWaiting ..
  | some w =>
    dsimp only
    split
    · rw [State.waitingFrame_setLane, State.waitingFrame_setWaiting]; rfl
    · exact State.waitingFrame_setWaiting ..

@[simp] theorem State.placeFrame_registers (s : State) (l : Nat) (f : FixtureFrame) :
    (s.placeFrame l f).lanes.registers = s.lanes.registers ∧
      (s.placeFrame l f).lanes.switch = s.lanes.switch ∧ (s.placeFrame l f).lanes.guardStatus = s.lanes.guardStatus := by
  unfold State.placeFrame
  split
  · exact ⟨rfl, rfl, rfl⟩
  · dsimp only; split <;> exact ⟨rfl, rfl, rfl⟩

@[simp] theorem State.settleLanes_registers (s : State) : s.settleLanes.lanes.registers = s.lanes.registers := by
  classical
  rw [State.settleLanes_statuses]; rfl

/-! ## Entering a state -/

/-- A lane that begins a new setup attempt (R143, R145). -/
def State.attempting (s : State) (r : Lane) (cold : Bool) : Lane :=
  { s.adopted r with
    state := .setup, cold := cold, setupSequence := (r.setupSequence + 1) % 16, retriesLeft := s.settings.retryLimit
    receiptTimer := none, periodTimer := none }

/-- The LANE_SETUP of the attempt that lane l begins (R145). -/
def State.attemptFrame (s : State) (l : Nat) (r : Lane) : FixtureFrame :=
  .setup s.settings.nodeAddress l ((r.setupSequence + 1) % 16) r.config.channelCount r.config.period

/-- A lane that has gone dark (R143). -/
def State.darkened (s : State) (r : Lane) (st : LaneState) : Lane :=
  { s.adopted r with state := st, receiptTimer := none, periodTimer := none }

theorem State.toDark_lane (s : State) (l : Nat) (st : LaneState) (j : Nat) :
    (s.toDark l st).lane j = (if j = l then s.darkened (s.lane l) st else s.lane j) ∧
      (s.toDark l st).waitingFrame j = (if j = l then none else s.waitingFrame j) := s.toDark_effect l j st

@[simp] theorem State.toDark_registers (s : State) (l : Nat) (st : LaneState) :
    (s.toDark l st).lanes.registers = s.lanes.registers := (State.settleLanes_registers _).trans rfl

theorem State.toSetup_eq (s : State) (l : Nat) (cold : Bool) : s.toSetup l cold =
    ((s.setLane l (s.attempting (s.lane l) cold)).placeFrame l (s.attemptFrame l (s.lane l))).settleLanes := by
  have hread : (s.setLane l (s.attempting (s.lane l) cold)).lane l = s.attempting (s.lane l) cold :=
    (State.lane_setLane ..).trans (if_pos rfl)
  have hframe : (s.setLane l (s.attempting (s.lane l) cold)).setupFrame l = s.attemptFrame l (s.lane l) := by
    unfold State.setupFrame
    rw [hread]
    rfl
  change ((s.setLane l (s.attempting (s.lane l) cold)).placeFrame l
    ((s.setLane l (s.attempting (s.lane l) cold)).setupFrame l)).settleLanes = _
  rw [hframe]

/-- A lane that enters SETUP begins an attempt, and its LANE_SETUP waits; no other lane changes (R143, R145, R151). -/
theorem State.toSetup_lane (s : State) (l : Nat) (cold : Bool) (j : Nat) :
    (s.toSetup l cold).lane j = (if j = l then s.attempting (s.lane l) cold else s.lane j) ∧
      (s.toSetup l cold).waitingFrame j =
        (if j = l then some ⟨s.placedAge l, s.attemptFrame l (s.lane l)⟩ else s.waitingFrame j) := by
  rw [State.toSetup_eq, State.lane_settleLanes, State.waitingFrame_settleLanes, State.placeFrame_waiting,
    State.placeFrame_lane]
  refine ⟨?_, rfl⟩
  have hlate : ∀ t : State, t.placedLate l (s.attemptFrame l (s.lane l)) = (t.lane l).late := fun t => by
    simp [State.placedLate, State.attemptFrame, FixtureFrame.isLevels]
  rw [hlate, State.lane_setLane, State.lane_setLane, if_pos rfl]
  split <;> rfl

@[simp] theorem State.toSetup_registers (s : State) (l : Nat) (cold : Bool) :
    (s.toSetup l cold).lanes.registers = s.lanes.registers := by
  rw [State.toSetup_eq, State.settleLanes_registers, (State.placeFrame_registers ..).1]
  rfl

theorem State.alikeLane_toDark (s : State) {l j : Nat} (st : LaneState) (h : j ≠ l) : s.AlikeLane (s.toDark l st) j :=
  ⟨(s.toDark_lane l st j).1.trans (if_neg h), (s.toDark_lane l st j).2.trans (if_neg h), s.toDark_registers l st, by simp,
    by simp⟩

theorem State.alikeLane_toSetup (s : State) {l j : Nat} (cold : Bool) (h : j ≠ l) : s.AlikeLane (s.toSetup l cold) j :=
  ⟨(s.toSetup_lane l cold j).1.trans (if_neg h), (s.toSetup_lane l cold j).2.trans (if_neg h), s.toSetup_registers l cold,
    by simp, by simp⟩

theorem State.AlikeLane.toDark {s u : State} {l : Nat} (h : s.AlikeLane u l) (st : LaneState) :
    (u.toDark l st).lane l = (s.toDark l st).lane l ∧ (u.toDark l st).waitingFrame l = (s.toDark l st).waitingFrame l := by
  rw [(u.toDark_lane l st l).1, (u.toDark_lane l st l).2, (s.toDark_lane l st l).1, (s.toDark_lane l st l).2]
  simp only [if_true, State.darkened, State.adopted_congr h.registers, h.lane, and_self]

theorem State.AlikeLane.toSetup {s u : State} {l : Nat} (h : s.AlikeLane u l) (cold : Bool) :
    (u.toSetup l cold).lane l = (s.toSetup l cold).lane l ∧
      (u.toSetup l cold).waitingFrame l = (s.toSetup l cold).waitingFrame l := by
  rw [(u.toSetup_lane l cold l).1, (u.toSetup_lane l cold l).2, (s.toSetup_lane l cold l).1, (s.toSetup_lane l cold l).2]
  have hsettings : u.settings = s.settings := congrArg ManagementUnit.settings h.mgmt
  have hnow : u.now = s.now := congrArg TimeUnit.runClock h.time
  simp only [if_true, State.attempting, State.attemptFrame, State.placedAge, State.adopted_congr h.registers, h.lane,
    h.waiting, hsettings, hnow, and_self]

/-! ## Waking and resting each lane of a list -/

/-- A choice by lane between an operation and none, made lane by lane. -/
theorem foldl_lane_ite {test : State → Nat → Bool} {f : State → Nat → State}
    (htest : ∀ (s u : State) l, s.AlikeLane u l → test u l = test s l)
    (other : ∀ (s : State) l j, j ≠ l → s.AlikeLane (f s l) j)
    (own : ∀ (s u : State) l, s.AlikeLane u l →
      (f u l).lane l = (f s l).lane l ∧ (f u l).waitingFrame l = (f s l).waitingFrame l)
    {ls : List Nat} (hls : ls.Nodup) (s : State) (j : Nat) :
    ((j ∈ ls ∧ test s j = true) → (ls.foldl (fun s l => if test s l then f s l else s) s).lane j = (f s j).lane j ∧
      (ls.foldl (fun s l => if test s l then f s l else s) s).waitingFrame j = (f s j).waitingFrame j) ∧
    (¬ (j ∈ ls ∧ test s j = true) → s.AlikeLane (ls.foldl (fun s l => if test s l then f s l else s) s) j) := by
  have hother : ∀ (s : State) l j, j ≠ l → s.AlikeLane (if test s l then f s l else s) j := fun s l j hj => by
    split
    · exact other s l j hj
    · exact .refl s j
  have hown : ∀ (s u : State) l, s.AlikeLane u l →
      (if test u l then f u l else u).lane l = (if test s l then f s l else s).lane l ∧
        (if test u l then f u l else u).waitingFrame l = (if test s l then f s l else s).waitingFrame l :=
    fun s u l h => by
      rw [htest s u l h]
      split
      · exact own s u l h
      · exact ⟨h.lane, h.waiting⟩
  obtain ⟨hin, hout⟩ := foldl_lane hother hown hls s j
  refine ⟨fun ⟨hj, ht⟩ => ?_, fun hn => ?_⟩
  · have := hin hj
    rwa [if_pos ht] at this
  · by_cases hj : j ∈ ls
    · have hkept := hin hj
      rw [if_neg fun ht => hn ⟨hj, ht⟩] at hkept
      have hregisters : ∀ (ls : List Nat) (u : State),
          (ls.foldl (fun s l => if test s l then f s l else s) u).lanes.registers = u.lanes.registers ∧
            (ls.foldl (fun s l => if test s l then f s l else s) u).time = u.time ∧
            (ls.foldl (fun s l => if test s l then f s l else s) u).mgmt = u.mgmt := by
        intro ls
        induction ls with
        | nil => exact fun u => ⟨rfl, rfl, rfl⟩
        | cons l ls ih =>
          intro u
          have h1 := hother u l (l + 1) (by omega)
          obtain ⟨hr, ht, hm⟩ := ih (if test u l then f u l else u)
          exact ⟨hr.trans h1.registers, ht.trans h1.time, hm.trans h1.mgmt⟩
      obtain ⟨hr, ht, hm⟩ := hregisters ls s
      exact ⟨hkept.1, hkept.2, hr, ht, hm⟩
    · exact hout hj

theorem laneNumbers_nodup : laneNumbers.Nodup := List.nodup_range

theorem mem_laneNumbers {l : Nat} : l ∈ laneNumbers ↔ l < 24 := List.mem_range

/-- Each lane of a list that is in REST is woken, and no other lane changes (R154). -/
theorem State.wakeIfResting_lane (s : State) {ls : List Nat} (hls : ls.Nodup) (j : Nat) :
    ((j ∈ ls ∧ (s.lane j).state = .rest) → (s.wakeIfResting ls).lane j = s.attempting (s.lane j) true ∧
      (s.wakeIfResting ls).waitingFrame j = some ⟨s.placedAge j, s.attemptFrame j (s.lane j)⟩) ∧
    (¬ (j ∈ ls ∧ (s.lane j).state = .rest) → s.AlikeLane (s.wakeIfResting ls) j) := by
  obtain ⟨hin, hout⟩ := foldl_lane_ite (test := fun s l => decide ((s.lane l).state = .rest))
    (f := fun s l => s.toSetup l true) (fun s u l h => by rw [h.lane]) (fun s l j hj => s.alikeLane_toSetup true hj)
    (fun s u l h => h.toSetup true) hls s j
  simp only [decide_eq_true_eq] at hin hout
  refine ⟨fun hj => ?_, hout⟩
  obtain ⟨hlane, hwaiting⟩ := hin hj
  exact ⟨hlane.trans ((s.toSetup_lane j true j).1.trans (if_pos rfl)),
    hwaiting.trans ((s.toSetup_lane j true j).2.trans (if_pos rfl))⟩

/-- Each lane of a list that is in REST or FAULTED is woken, and no other lane changes (R154). -/
theorem State.wakeEach_lane (s : State) {ls : List Nat} (hls : ls.Nodup) (j : Nat) :
    ((j ∈ ls ∧ (s.lane j).wakeable = true) → (s.wakeEach ls).lane j = s.attempting (s.lane j) true ∧
      (s.wakeEach ls).waitingFrame j = some ⟨s.placedAge j, s.attemptFrame j (s.lane j)⟩) ∧
    (¬ (j ∈ ls ∧ (s.lane j).wakeable = true) → s.AlikeLane (s.wakeEach ls) j) := by
  obtain ⟨hin, hout⟩ := foldl_lane_ite (test := fun s l => (s.lane l).wakeable)
    (f := fun s l => s.toSetup l true) (fun s u l h => by rw [h.lane]) (fun s l j hj => s.alikeLane_toSetup true hj)
    (fun s u l h => h.toSetup true) hls s j
  refine ⟨fun hj => ?_, hout⟩
  obtain ⟨hlane, hwaiting⟩ := hin hj
  exact ⟨hlane.trans ((s.toSetup_lane j true j).1.trans (if_pos rfl)),
    hwaiting.trans ((s.toSetup_lane j true j).2.trans (if_pos rfl))⟩

/-- Each active lane of a list that is not guarded goes to REST, and no other lane changes (R153). -/
theorem State.restEach_lane (s : State) {ls : List Nat} (hls : ls.Nodup) (j : Nat) :
    ((j ∈ ls ∧ ((s.lane j).active && !s.guarded j) = true) → (s.restEach ls).lane j = s.darkened (s.lane j) .rest ∧
      (s.restEach ls).waitingFrame j = none) ∧
    (¬ (j ∈ ls ∧ ((s.lane j).active && !s.guarded j) = true) → s.AlikeLane (s.restEach ls) j) := by
  obtain ⟨hin, hout⟩ := foldl_lane_ite (test := fun s l => (s.lane l).active && !s.guarded l)
    (f := fun s l => s.toDark l .rest) (fun s u l h => by rw [h.lane, h.guarded])
    (fun s l j hj => s.alikeLane_toDark .rest hj) (fun s u l h => h.toDark .rest) hls s j
  refine ⟨fun hj => ?_, hout⟩
  obtain ⟨hlane, hwaiting⟩ := hin hj
  exact ⟨hlane.trans ((s.toDark_lane j .rest j).1.trans (if_pos rfl)),
    hwaiting.trans ((s.toDark_lane j .rest j).2.trans (if_pos rfl))⟩

/-- Every lane in REST is woken: the wake timer and a playback start (R154). -/
theorem State.wakesResting_wakeResting (s : State) : s.WakesResting s.wakeResting := by
  intro l hl
  obtain ⟨hwoken, hkept⟩ := s.wakeIfResting_lane laneNumbers_nodup l
  refine ⟨fun hr => ?_, fun hr => ?_⟩
  · obtain ⟨hlane, hwaiting⟩ := hwoken ⟨mem_laneNumbers.2 hl, hr⟩
    exact ⟨hlane, _, hwaiting⟩
  · have halike := hkept fun h => hr h.2
    exact ⟨halike.lane, halike.waiting⟩

/-- Settles O24: the timers wake and rest each lane by its own state. -/
theorem laneTimersWakeAndRest : Obligations.LaneTimersWakeAndRest := by
  refine ⟨fun s e he hd => ?_, fun s e he hd => ⟨fun hn => ?_, fun hfree hnear => ?_⟩⟩
  · have hexec : exec .wakeTimerExpiry s = .next (s.withCalendar { s.calendar with wakeTimer := none }).wakeResting := by
      change execWakeTimerExpiry s = _
      unfold execWakeTimerExpiry
      rw [he]
      exact congrArg Host.Outcome.next (if_pos (decide_eq_true hd))
    exact ⟨_, hexec, State.eq_withLanes (State.wakeResting_frame _), State.wakesResting_wakeResting
      (s.withCalendar { s.calendar with wakeTimer := none })⟩
  · have hexec : exec .restTimerExpiry s = .next (if (s.allFree && s.noStartNear) = true then
        (s.withCalendar { s.calendar with restTimer := none }).restEach s.autoRestLanes
        else s.withCalendar { s.calendar with restTimer := none }) := by
      change execRestTimerExpiry s = _
      unfold execRestTimerExpiry
      rw [he]
      exact congrArg Host.Outcome.next (if_pos (decide_eq_true hd))
    rw [hexec, if_neg]
    obtain h | h := hn <;> simp [h]
  · have hexec : exec .restTimerExpiry s = .next
        ((s.withCalendar { s.calendar with restTimer := none }).restEach s.autoRestLanes) := by
      change execRestTimerExpiry s = _
      unfold execRestTimerExpiry
      rw [he]
      refine congrArg Host.Outcome.next ((if_pos (decide_eq_true hd)).trans (if_pos ?_))
      rw [Bool.and_eq_true]
      exact ⟨hfree, hnear⟩
    refine ⟨_, hexec, State.eq_withLanes (State.restEach_frame _ _), fun l hl => ?_⟩
    obtain ⟨hrest, hkept⟩ := (s.withCalendar { s.calendar with restTimer := none }).restEach_lane
      (laneNumbers_nodup.filter fun l => (s.lane l).config.autoRest) l
    have hcond : (l ∈ s.autoRestLanes ∧ ((s.lane l).active && !s.guarded l) = true) ↔
        ((s.lane l).config.autoRest && (s.lane l).active && !s.guarded l) = true := by
      simp only [State.autoRestLanes, List.mem_filter, mem_laneNumbers, Bool.and_eq_true, hl, true_and, and_assoc]
    refine ⟨fun h => hrest (hcond.2 h), fun h => ?_⟩
    have halike := hkept fun hc => by rw [hcond.1 hc] at h; cases h
    exact ⟨halike.lane, halike.waiting⟩

/-! ## Requests of lanes -/

theorem mem_lanesOf {m l : Nat} : l ∈ lanesOf m ↔ l < 24 ∧ m.testBit l = true := by
  rw [lanesOf, List.mem_filter, mem_laneNumbers]

theorem lanesOf_nodup (m : Nat) : (lanesOf m).Nodup := laneNumbers_nodup.filter _

theorem testBit_lt {m l : Nat} (hm : m < 16777216) (h : m.testBit l = true) : l < 24 := by
  by_contra hl
  rw [Nat.testBit_lt_two_pow (hm.trans_le (Nat.pow_le_pow_right (show 0 < 2 by decide) (Nat.not_lt.1 hl)))] at h
  cases h

theorem filter_lanesOf (m : Nat) (p : Nat → Bool) :
    (lanesOf m).filter p = (List.range 24).filter fun l => m.testBit l && p l := by
  unfold lanesOf laneNumbers
  rw [List.filter_filter]
  exact List.filter_congr fun l _ => Bool.and_comm _ _

/-- Settles O45: the lanes named are rested or woken one by one, each by its own state. -/
theorem restAndWakeRequests : Obligations.RestAndWakeRequests := by
  have hrange : ∀ m, m < 16777216 → lanesInRange m = true := fun m hm => decide_eq_true hm
  have hout : ∀ m, 16777216 ≤ m → lanesInRange m = false := fun m hm => decide_eq_false (Nat.not_lt.2 hm)
  refine fun h m s => ⟨fun ht hm => ?_, fun ht hm => ?_, fun ht hm => ?_, fun ht hm => ?_⟩
  · refine congrArg Host.Outcome.next (State.request_refuse (owner := restLanesAnswer m) ht ?_)
    unfold restLanesAnswer
    rw [hout m hm]
    rfl
  · refine congrArg Host.Outcome.next (State.request_refuse (owner := wakeLanesAnswer m) ht ?_)
    unfold wakeLanesAnswer
    rw [hout m hm]
    rfl
  · have hanswer : restLanesAnswer m s.atTake = ⟨.ok, .laneList ((List.range 24).filter fun l =>
        m.testBit l && ((s.lane l).active && s.guarded l)), s.atTake.restEach (lanesOf m), .nothing⟩ := by
      unfold restLanesAnswer State.keptLanes
      rw [hrange m hm, ← filter_lanesOf]
      rfl
    refine ⟨(s.atTake.restEach (lanesOf m)).withMgmt _, State.next_request_answer ht hanswer (by simp) rfl, ?_,
      fun l hl => ?_, fun l hl => ?_⟩
    · have hlanes := State.eq_withLanes (s.atTake.restEach_frame (lanesOf m))
      conv_lhs => rw [hlanes]
      rfl
    · rw [Bool.and_eq_true] at hl
      exact (s.atTake.restEach_lane (lanesOf_nodup m) l).1 ⟨mem_lanesOf.2 ⟨testBit_lt hm hl.1, hl.1⟩, hl.2⟩
    · have halike := (s.atTake.restEach_lane (lanesOf_nodup m) l).2 fun hc => by
        have : (m.testBit l && ((s.lane l).active && !s.guarded l)) = true :=
          Bool.and_eq_true _ _ ▸ ⟨(mem_lanesOf.1 hc.1).2, hc.2⟩
        rw [hl] at this
        cases this
      exact ⟨halike.lane, halike.waiting⟩
  · have hanswer : wakeLanesAnswer m s.atTake = ⟨.ok, .laneList ((List.range 24).filter fun l =>
        m.testBit l && ((s.lane l).state = .rest || (s.lane l).state = .faulted)), s.atTake.wakeEach (lanesOf m),
          .nothing⟩ := by
      unfold wakeLanesAnswer
      rw [hrange m hm, filter_lanesOf]
      rfl
    refine ⟨(s.atTake.wakeEach (lanesOf m)).withMgmt _, State.next_request_answer ht hanswer (by simp) rfl, ?_,
      fun l hl hst => ?_, fun l hl => ?_⟩
    · have hlanes := State.eq_withLanes (s.atTake.wakeEach_frame (lanesOf m))
      conv_lhs => rw [hlanes]
      rfl
    · obtain ⟨hlane, hwaiting⟩ := (s.atTake.wakeEach_lane (lanesOf_nodup m) l).1
        ⟨mem_lanesOf.2 ⟨testBit_lt hm hl, hl⟩, by
          rw [Lane.wakeable, Bool.or_eq_true, decide_eq_true_eq, decide_eq_true_eq]; exact hst⟩
      exact ⟨hlane, _, hwaiting⟩
    · have halike := (s.atTake.wakeEach_lane (lanesOf_nodup m) l).2 fun hc => by
        have hbit := (mem_lanesOf.1 hc.1).2
        have hst := hc.2
        rw [Lane.wakeable, Bool.or_eq_true, decide_eq_true_eq, decide_eq_true_eq] at hst
        obtain h | ⟨hr, hf⟩ := hl
        · rw [h] at hbit; cases hbit
        · exact hst.elim hr hf
      exact ⟨halike.lane, halike.waiting⟩

end Sys2Proof.Machine
end

section
/-! SUPPORT. The lane and guard requests, receipts and the receipt timer (08). -/

namespace Sys2Proof.Machine

/-! ## Configuring a lane -/

theorem State.lane_withMgmt (s : State) (x : ManagementUnit) (l : Nat) : (s.withMgmt x).lane l = s.lane l := rfl

theorem State.waitingFrame_withMgmt (s : State) (x : ManagementUnit) (l : Nat) :
    (s.withMgmt x).waitingFrame l = s.waitingFrame l := rfl

theorem State.alikeLane_setConfig (s : State) (l : Nat) (c : LaneConfig) {j : Nat} (h : j ≠ l) :
    s.AlikeLane (s.setConfig l c) j := ⟨(State.lane_setLane ..).trans (if_neg h), rfl, rfl, rfl, rfl⟩

theorem State.lane_setConfig (s : State) (l : Nat) (c : LaneConfig) :
    (s.setConfig l c).lane l = { s.lane l with config := c } := (State.lane_setLane ..).trans (if_pos rfl)

/-- WRITE_LANE replaces the configuration, and may then send the lane dark or begin an attempt (R144). -/
theorem State.configureLane_cases (s : State) (l : Nat) (c : LaneConfig) : s.configureLane l c = s.setConfig l c ∨
    (∃ st, s.configureLane l c = (s.setConfig l c).toDark l st) ∨
    ∃ cold, s.configureLane l c = (s.setConfig l c).toSetup l cold := by
  unfold State.configureLane
  dsimp only
  split
  case h_5 | h_6 | h_7 =>
    split
    · exact .inr (.inr ⟨_, rfl⟩)
    · exact .inl rfl
  case h_2 | h_3 => exact .inl rfl
  case h_1 | h_8 => exact .inr (.inl ⟨_, rfl⟩)
  case h_4 => exact .inr (.inr ⟨_, rfl⟩)

theorem State.alikeLane_configureLane (s : State) (l : Nat) (c : LaneConfig) {j : Nat} (h : j ≠ l) :
    s.AlikeLane (s.configureLane l c) j := by
  have hconfig := s.alikeLane_setConfig l c h
  obtain he | ⟨st, he⟩ | ⟨cold, he⟩ := s.configureLane_cases l c
  · rw [he]; exact hconfig
  · rw [he]; exact hconfig.trans ((s.setConfig l c).alikeLane_toDark st h)
  · rw [he]; exact hconfig.trans ((s.setConfig l c).alikeLane_toSetup cold h)

theorem State.darkened_setConfig (s : State) (l : Nat) (c : LaneConfig) (st : LaneState) :
    ((s.setConfig l c).toDark l st).lane l = s.darkened { s.lane l with config := c } st ∧
      ((s.setConfig l c).toDark l st).waitingFrame l = none := by
  obtain ⟨hlane, hwaiting⟩ := (s.setConfig l c).toDark_lane l st l
  rw [if_pos rfl] at hlane hwaiting
  rw [State.lane_setConfig] at hlane
  exact ⟨hlane, hwaiting⟩

theorem State.attempting_setConfig (s : State) (l : Nat) (c : LaneConfig) (cold : Bool) :
    ((s.setConfig l c).toSetup l cold).lane l = s.attempting { s.lane l with config := c } cold ∧
      ∃ age, ((s.setConfig l c).toSetup l cold).waitingFrame l =
        some ⟨age, s.attemptFrame l { s.lane l with config := c }⟩ := by
  obtain ⟨hlane, hwaiting⟩ := (s.setConfig l c).toSetup_lane l cold l
  rw [if_pos rfl] at hlane hwaiting
  rw [State.lane_setConfig] at hlane hwaiting
  exact ⟨hlane, _, hwaiting⟩

theorem clamp_eq {lo hi : Nat} (h : lo ≤ hi) (n : Nat) : clamp lo hi n = max lo (min n hi) := by
  unfold clamp
  split
  · omega
  · split <;> omega

/-- What WRITE_LANE leaves of the lane in each row of R144's table. -/
theorem State.configureLane_self (s : State) (l : Nat) (c : LaneConfig) :
    ((s.lane l).state = .off → c.configured = true → s.configureLane l c = (s.setConfig l c).toDark l .rest) ∧
    ((s.lane l).state ≠ .off → c.configured = false → s.configureLane l c = (s.setConfig l c).toDark l .off) ∧
    ((s.lane l).state = .off → c.configured = false → s.configureLane l c = s.setConfig l c) ∧
    ((s.lane l).state = .rest → c.configured = true → s.configureLane l c = s.setConfig l c) ∧
    ((s.lane l).state = .faulted → c.configured = true → s.configureLane l c = (s.setConfig l c).toSetup l true) ∧
    ((s.lane l).active = true → c.configured = true → s.configureLane l c =
      if c.channelCount ≠ (s.lane l).config.channelCount ∨ c.period ≠ (s.lane l).config.period then
        (s.setConfig l c).toSetup l (s.lane l).cold else s.setConfig l c) := by
  unfold State.configureLane
  refine ⟨fun hst hc => by simp only [hst, hc], fun hst hc => ?_, fun hst hc => by simp only [hst, hc],
    fun hst hc => by simp only [hst, hc], fun hst hc => by simp only [hst, hc], fun hst hc => ?_⟩
  · simp only [hc]
  · simp only [Lane.active, Bool.or_eq_true, decide_eq_true_eq] at hst
    obtain (hst | hst) | hst := hst <;> simp only [hst, hc]

/-- Settles O44: each row of R144's table is one operation on the lane. -/
theorem writeLaneActsByState : Obligations.WriteLaneActsByState := by
  refine fun h l f s ht => ⟨fun hbad => ?_, fun on exempt rest c hl hon hexempt hrest hlo hhi hc => ?_⟩
  · refine congrArg Host.Outcome.next (State.request_refuse (owner := writeLaneAnswer l f) ht ?_)
    unfold writeLaneAnswer
    by_cases hl : 23 < l
    · exact if_pos hl
    · have hnone : laneConfigOf f = none := by
        unfold laneConfigOf
        split
        · next hon hexempt hrest =>
          obtain hb | hb | hb | hb | hb | hb := hbad
          · exact absurd hb hl
          · rw [hon] at hb; cases hb
          · rw [hexempt] at hb; cases hb
          · rw [hrest] at hb; cases hb
          · exact if_neg (by omega)
          · exact if_neg (by omega)
        · rfl
      rw [if_neg hl, hnone]
  · have hconfig : laneConfigOf f = some c := by
      unfold laneConfigOf
      rw [hon, hexempt, hrest, hc]
      dsimp only
      rw [if_pos ⟨hlo, hhi⟩, clamp_eq (by decide), clamp_zero]
    have hanswer : writeLaneAnswer l f s.atTake =
        ⟨if f.period < 10 ∨ 250 < f.period ∨ 255 < f.warmUp then .adjusted else .ok, .none,
          s.atTake.configureLane l c, .nothing⟩ := by
      unfold writeLaneAnswer
      rw [if_neg (by omega), hconfig]
      simp [State.answerClamped, okOrAdjusted, laneClamped, clamps, or_assoc]
    have hcon : c.configured = on := by rw [hc]
    obtain ⟨hoffOn, hdark, hoffOff, hrestOn, hfaulted, hactive⟩ := s.atTake.configureLane_self l c
    refine ⟨(s.atTake.configureLane l c).withMgmt _, State.next_request_answer ht hanswer (by simp) rfl, ?_,
      fun j hj => ?_, fun hst ho => ?_, fun hst ho => ?_, fun hst ho => ?_, fun hst ho => ?_, fun hst ho hn hp => ?_,
      fun cold ho hst => ?_⟩
    · have hlanes := State.eq_withLanes (s.atTake.configureLane_frame l c)
      conv_lhs => rw [hlanes]
      rfl
    · have halike := s.atTake.alikeLane_configureLane l c hj
      rw [State.lane_withMgmt, State.waitingFrame_withMgmt]
      exact ⟨halike.lane, halike.waiting⟩
    · rw [hoffOn hst (hcon.trans ho), State.lane_withMgmt, State.waitingFrame_withMgmt]
      exact s.atTake.darkened_setConfig l c .rest
    · rw [hdark hst (hcon.trans ho), State.lane_withMgmt, State.waitingFrame_withMgmt]
      exact s.atTake.darkened_setConfig l c .off
    · rw [hoffOff hst (hcon.trans ho), State.lane_withMgmt]
      exact s.atTake.lane_setConfig l c
    · rw [hrestOn hst (hcon.trans ho), State.lane_withMgmt]
      exact s.atTake.lane_setConfig l c
    · rw [hactive hst (hcon.trans ho), if_neg (fun h => h.elim (fun h => h hn) fun h => h hp), State.lane_withMgmt, State.waitingFrame_withMgmt]
      exact ⟨s.atTake.lane_setConfig l c, rfl⟩
    · obtain ⟨hst, rfl⟩ | ⟨hst, rfl, hch⟩ := hst
      · rw [hfaulted hst (hcon.trans ho), State.lane_withMgmt, State.waitingFrame_withMgmt]
        exact s.atTake.attempting_setConfig l c true
      · rw [hactive hst (hcon.trans ho), if_pos (show c.channelCount ≠ (s.atTake.lane l).config.channelCount ∨ c.period ≠ (s.atTake.lane l).config.period
          from hch), State.lane_withMgmt, State.waitingFrame_withMgmt]
        exact s.atTake.attempting_setConfig l c (s.lane l).cold

/-! ## Guards -/

theorem State.guardRange_of_write {s t : State} {i : Nat} {g : Guard}
    (h : t.lanes.guards = Table.write .blank s.lanes.guards i g) (j : Nat) :
    t.guardRange j = if j = i then g else s.guardRange j := by
  unfold State.guardRange
  rw [h]
  exact Table.read_write ..

/-- Whatever settles the statuses, the guard status tells SETTLING exactly while some lane has not adopted. -/
def State.GuardTold (s : State) : Prop :=
  ((∀ l, l < 24 → (s.lane l).guardInUse = s.lanes.requestedGuard) →
      s.lanes.guardStatus = if s.lanes.requestedGuard then .enabled else .disabled) ∧
    ((∃ l, l < 24 ∧ (s.lane l).guardInUse ≠ s.lanes.requestedGuard) → s.lanes.guardStatus = .settling)

theorem State.guardTold_settleLanes {s : State} (h : (∃ l, l < 24 ∧ (s.lane l).guardInUse ≠ s.lanes.requestedGuard) →
    s.lanes.guardStatus = .settling) : s.settleLanes.GuardTold := by
  classical
  obtain ⟨_, hrequested⟩ := s.settleLanes_kept
  unfold State.GuardTold
  simp only [State.lane_settleLanes, hrequested]
  rw [State.settleLanes_statuses]
  simp only [State.withLanes_lanes, LaneController.withStatuses, mem_laneNumbers]
  refine ⟨fun hall => if_pos hall, fun hn => ?_⟩
  rw [if_neg fun hall => by obtain ⟨l, hl, hne⟩ := hn; exact hne (hall l hl)]
  exact h hn

/-- A request of the guard state: every lane that does not compose adopts, and the status settles or not (R160). -/
theorem State.requestGuard_effect (s : State) (on : Bool) :
    (s.requestGuard on).lanes.registers = { s.lanes.registers with requestedGuard := on } ∧
      (∀ j, j < 24 → (s.requestGuard on).lane j = if (s.lane j).composing then s.lane j
        else { s.lane j with bank := s.lanes.selected, guardInUse := on }) ∧
      (s.requestGuard on).GuardTold := by
  obtain ⟨records, hfold, hread⟩ := State.foldl_adoptLane_effect laneNumbers
    (s.withLanes { s.lanes with requestedGuard := on, guardStatus := .settling })
  unfold State.requestGuard State.adoptIdle
  refine ⟨?_, fun j hj => ?_, State.guardTold_settleLanes fun _ => ?_⟩
  · rw [State.settleLanes_registers, hfold]
    rfl
  · rw [State.lane_settleLanes, hfold]
    refine (hread j).trans ?_
    have hmem : j ∈ laneNumbers := mem_laneNumbers.2 hj
    change (if j ∈ laneNumbers ∧ (s.lane j).composing = false then _ else s.lane j) = _
    cases hc : (s.lane j).composing
    · rw [if_pos ⟨hmem, rfl⟩]; rfl
    · rw [if_neg (by simp)]; rfl
  · rw [hfold]; rfl

/-- The waking of a lane in REST leaves it adopted as it was, and so the status as it was. -/
theorem State.GuardTold.wakeLane {s : State} (h : s.GuardTold)
    (hrest : ∀ l, l < 24 → (s.lane l).state = .rest → (s.lane l).guardInUse = s.lanes.requestedGuard) (j : Nat) :
    (s.wakeLane j).GuardTold ∧ (∀ l, l < 24 → ((s.wakeLane j).lane l).state = .rest →
      ((s.wakeLane j).lane l).guardInUse = (s.wakeLane j).lanes.requestedGuard) := by
  unfold State.wakeLane
  split
  · next hst =>
    have hrequested : (s.toSetup j true).lanes.requestedGuard = s.lanes.requestedGuard :=
      congrArg (fun x => x.requestedGuard) (s.toSetup_registers j true)
    have hguard : ∀ l, ((s.toSetup j true).lane l).guardInUse ≠ s.lanes.requestedGuard → l < 24 →
        (s.lane l).guardInUse ≠ s.lanes.requestedGuard := by
      intro l hne hl
      rw [(s.toSetup_lane j true l).1] at hne
      split at hne
      · exact absurd rfl hne
      · exact hne
    refine ⟨?_, fun l hl hr => ?_⟩
    · rw [State.toSetup_eq]
      refine State.guardTold_settleLanes fun ⟨l, hl, hne⟩ => ?_
      rw [(State.placeFrame_registers ..).2.2]
      refine h.2 ⟨l, hl, hguard l ?_ hl⟩
      rw [State.toSetup_eq, State.lane_settleLanes]
      have hrequested' := congrArg (fun x => x.requestedGuard)
        (State.placeFrame_registers (s.setLane j (s.attempting (s.lane j) true)) j (s.attemptFrame j (s.lane j))).1
      exact fun he => hne (he.trans hrequested'.symm)
    · rw [hrequested]
      by_contra hne
      refine hguard l hne hl (hrest l hl ?_)
      rw [(s.toSetup_lane j true l).1] at hr
      split at hr
      · cases hr
      · exact hr
  · exact ⟨h, hrest⟩

theorem State.GuardTold.wakeIfResting {s : State} (h : s.GuardTold)
    (hrest : ∀ l, l < 24 → (s.lane l).state = .rest → (s.lane l).guardInUse = s.lanes.requestedGuard) (ls : List Nat) :
    (s.wakeIfResting ls).GuardTold := by
  unfold State.wakeIfResting
  induction ls generalizing s with
  | nil => exact h
  | cons j ls ih =>
    obtain ⟨h', hrest'⟩ := h.wakeLane hrest j
    exact ih h' hrest'

theorem State.wakeIfResting_registers (s : State) (ls : List Nat) :
    (s.wakeIfResting ls).lanes.registers = s.lanes.registers := by
  unfold State.wakeIfResting
  induction ls generalizing s with
  | nil => rfl
  | cons j ls ih =>
    refine (ih (s.wakeLane j)).trans ?_
    unfold State.wakeLane
    split
    · exact s.toSetup_registers j true
    · rfl

/-- What an accepted SET_GUARD_ENABLE leaves (R160). -/
def State.guardEnabled (s : State) (on : Bool) : State :=
  if on then (s.requestGuard on).wakeGuarded else s.requestGuard on

theorem LaneController.of_registers {x y : LaneController} {on : Bool}
    (h : y.registers = { x.registers with requestedGuard := on }) :
    y.requestedGuard = on ∧ y.guards = x.guards ∧ y.selected = x.selected :=
  ⟨congrArg (fun x => x.requestedGuard) h, congrArg (fun x => x.guards) h, congrArg (fun x => x.selected) h⟩

theorem State.composing_of_rest {r : Lane} (h : r.state = .rest) : r.composing = false := by
  simp [Lane.composing, h]

/-- The lanes after an accepted SET_GUARD_ENABLE (R154, R160). -/
theorem State.guardEnabled_effect (s : State) (on : Bool) :
    s.guardEnabled on = s.withLanes (s.guardEnabled on).lanes ∧
      (s.guardEnabled on).lanes.registers = { s.lanes.registers with requestedGuard := on } ∧
      (∀ j, j < 24 → (s.guardEnabled on).lane j =
        if (s.lane j).composing then s.lane j
        else if on = true ∧ (s.lane j).state = .rest ∧ s.rangeNames j = true then
          { s.lane j with
            bank := s.lanes.selected, guardInUse := true, state := .setup, cold := true
            setupSequence := ((s.lane j).setupSequence + 1) % 16, retriesLeft := s.settings.retryLimit
            receiptTimer := none, periodTimer := none }
        else { s.lane j with bank := s.lanes.selected, guardInUse := on }) ∧
      (s.guardEnabled on).GuardTold := by
  obtain ⟨hregisters, hlane, htold⟩ := s.requestGuard_effect on
  obtain ⟨hrequested, hguards, hselected⟩ := LaneController.of_registers hregisters
  unfold State.guardEnabled State.wakeGuarded
  cases on with
  | false =>
    rw [if_neg Bool.false_ne_true]
    refine ⟨State.eq_withLanes (s.requestGuard_frame false), hregisters, fun j hj => (hlane j hj).trans ?_, htold⟩
    simp
  | true =>
    rw [if_pos rfl]
    have hnames : ∀ j, (s.requestGuard true).rangeNames j = s.rangeNames j := fun j => by
      unfold State.rangeNames State.guardRange
      rw [hguards]
    have hstate : ∀ j, j < 24 → ((s.requestGuard true).lane j).state = (s.lane j).state := fun j hj => by
      rw [hlane j hj]
      split <;> rfl
    have hrest : ∀ l, l < 24 → ((s.requestGuard true).lane l).state = .rest →
        ((s.requestGuard true).lane l).guardInUse = (s.requestGuard true).lanes.requestedGuard := fun l hl hr => by
      rw [hlane l hl, State.composing_of_rest ((hstate l hl).symm.trans hr), hrequested]
      rfl
    refine ⟨State.eq_withLanes (by simp), (State.wakeIfResting_registers _ _).trans hregisters,
      fun j hj => ?_, htold.wakeIfResting hrest _⟩
    obtain ⟨hwoken, hkept⟩ := (s.requestGuard true).wakeIfResting_lane
      (laneNumbers_nodup.filter (s.requestGuard true).rangeNames) j
    have hcond : (j ∈ laneNumbers.filter (s.requestGuard true).rangeNames ∧
        ((s.requestGuard true).lane j).state = .rest) ↔ (s.lane j).state = .rest ∧ s.rangeNames j = true := by
      rw [List.mem_filter, mem_laneNumbers, hnames, hstate j hj]
      exact ⟨fun ⟨⟨_, hn⟩, hr⟩ => ⟨hr, hn⟩, fun ⟨hr, hn⟩ => ⟨⟨hj, hn⟩, hr⟩⟩
    by_cases hw : (s.lane j).state = .rest ∧ s.rangeNames j = true
    · rw [(hwoken (hcond.2 hw)).1, hlane j hj, State.composing_of_rest hw.1, if_neg Bool.false_ne_true,
        if_neg Bool.false_ne_true, if_pos ⟨rfl, hw⟩]
      unfold State.attempting State.adopted
      rw [hrequested, hselected, show (s.requestGuard true).settings = s.settings by simp [State.settings]]
    · rw [(hkept (mt hcond.1 hw)).lane, hlane j hj]
      exact if_congr Iff.rfl rfl (if_neg fun h => hw h.2).symm

/-- Settles O49: lanes adopt at the request, the wakes keep the guard status true of them. -/
theorem guardRequests : Obligations.GuardRequests := by
  refine ⟨fun h i l a b v s ht => ⟨fun hout => ?_, fun hi hl ha hb hst => ?_, fun hi hl ha hb hst => ?_⟩,
    fun h on s ht => ⟨fun hst => ?_, fun hst => ?_⟩⟩
  · exact congrArg Host.Outcome.next (State.request_refuse (owner := writeGuardAnswer i l a b v) ht (if_pos hout))
  · refine congrArg Host.Outcome.next (State.request_refuse (owner := writeGuardAnswer i l a b v) ht ?_)
    unfold writeGuardAnswer
    rw [if_neg (by omega)]
    exact if_pos hst
  · have hanswer : writeGuardAnswer i l a b v s.atTake = ⟨if 4095 < v then .adjusted else .ok, .none,
        s.atTake.withLanes { s.lanes with guards := Table.write .blank s.lanes.guards i ⟨l, a, b, min v 4095⟩ },
        .nothing⟩ := by
      unfold writeGuardAnswer
      rw [if_neg (by omega), if_neg (fun hne => hne hst), clamp_zero, clamps_zero]
      simp only [State.answerClamped, okOrAdjusted, decide_eq_true_eq]
      rfl
    exact ⟨(s.withLanes { s.lanes with guards := Table.write .blank s.lanes.guards i ⟨l, a, b, min v 4095⟩ }).withMgmt _,
      State.next_request_answer ht hanswer rfl rfl, rfl, (State.guardRange_of_write (s := s) rfl i).trans (if_pos rfl),
      fun j hj => (State.guardRange_of_write (s := s) rfl j).trans (if_neg hj)⟩
  · exact congrArg Host.Outcome.next (State.request_refuse (owner := setGuardEnableAnswer (some on)) ht (if_pos hst))
  · have hanswer : setGuardEnableAnswer (some on) s.atTake =
        ⟨.ok, .none, s.atTake.guardEnabled on, .nothing⟩ := by
      unfold setGuardEnableAnswer
      dsimp only
      rw [if_neg (show ¬ s.atTake.lanes.guardStatus = .settling from hst)]
      unfold State.guardEnabled
      cases on
      · rw [if_neg Bool.false_ne_true, if_neg Bool.false_ne_true]; rfl
      · rw [if_pos rfl, if_pos rfl]; rfl
    obtain ⟨hframe, hregisters, hlane, htold⟩ := s.atTake.guardEnabled_effect on
    obtain ⟨hrequested, hguards, hselected⟩ := LaneController.of_registers hregisters
    have hguard : ∀ l, l < 24 → (((s.atTake.guardEnabled on).lane l).guardInUse = on ↔
        ((s.lane l).composing = true → (s.lane l).guardInUse = on)) := fun l hl => by
      rw [hlane l hl]
      change (if (s.lane l).composing then s.lane l else _).guardInUse = on ↔ _
      cases hc : (s.lane l).composing
      · simp only [Bool.false_eq_true, if_false, false_implies, iff_true]
        split
        · next h => exact h.1.symm
        · rfl
      · simp
    refine ⟨(s.atTake.guardEnabled on).withMgmt _, State.next_request_answer ht hanswer (by rw [hframe]; rfl) rfl, ?_,
      hrequested, hguards, hselected, fun l hl hc => ?_,
      fun l hl hc => ⟨fun hw => ?_, fun hw => ?_⟩, fun hall => ?_, fun ⟨l, hl, hc, hne⟩ => ?_⟩
    · conv_lhs => rw [hframe]
      rfl
    · exact (hlane l hl).trans (if_pos hc)
    · exact (hlane l hl).trans ((if_neg (by rw [show (s.atTake.lane l).composing = false from hc]; decide)).trans (if_pos hw))
    · refine (hlane l hl).trans ((if_neg (by rw [show (s.atTake.lane l).composing = false from hc]; decide)).trans
        (if_neg fun ⟨ho, hr, hn⟩ => ?_))
      obtain h | h | h := hw
      · rw [ho] at h; cases h
      · exact h hr
      · rw [show s.rangeNames l = true from hn] at h; cases h
    · have hstatus := htold.1
      rw [hrequested] at hstatus
      exact hstatus fun l hl => (hguard l hl).2 (hall l hl)
    · have hstatus := htold.2
      rw [hrequested] at hstatus
      exact hstatus ⟨l, hl, fun he => hne ((hguard l hl).1 he hc)⟩

end Sys2Proof.Machine
end

section
/-! SUPPORT. Receipts, the receipt timer and the period event of a lane (06, 08). -/

namespace Sys2Proof.Machine

/-! ## Recorded faults -/

/-- A recorded fault stands in the record that the search finds (R183, R184). -/
theorem State.faultRecord_recordFault {s : State} {k : FaultKind} {i : Nat} (ho : s.faults.overflow = false)
    (hf : s.freeFaultRecord = some i) : (s.recordFault k).faultRecord i = some ⟨k, s.now, s.towerTime⟩ := by
  obtain ⟨h, _⟩ | ⟨_, j, hj, alert, h⟩ | ⟨_, hn, _⟩ := s.recordFault_cases k
  · rw [ho] at h; cases h
  · obtain rfl := Option.some.inj (hf.symm.trans hj)
    unfold State.faultRecord
    rw [h]
    exact (Table.read_write none s.faults.records i i (some ⟨k, s.now, s.towerTime⟩)).trans (if_pos rfl)
  · rw [hf] at hn; cases hn

theorem State.freeFaultRecord_congr {s t : State} (h : t.faults = s.faults) : t.freeFaultRecord = s.freeFaultRecord := by
  unfold State.freeFaultRecord State.faultRecord
  rw [h]

/-- A lane that is faulted goes dark, and the fault is recorded (R143, R147, R148). -/
theorem State.faultLane_effect (s : State) (l : Nat) (k : FaultKind) :
    (s.faultLane l k).lane l = s.darkened (s.lane l) .faulted ∧ (s.faultLane l k).waitingFrame l = none ∧
      (∀ j, j ≠ l → (s.faultLane l k).lane j = s.lane j) ∧
      ∀ i, s.faults.overflow = false → s.freeFaultRecord = some i →
        (s.faultLane l k).faultRecord i = some ⟨k, s.now, s.towerTime⟩ := by
  have hlanes : (s.faultLane l k).lanes = (s.toDark l .faulted).lanes := by simp [State.faultLane]
  have hlane : ∀ j, (s.faultLane l k).lane j = (s.toDark l .faulted).lane j := fun j => by
    unfold State.lane
    rw [hlanes]
  have hwaiting : (s.faultLane l k).waitingFrame l = (s.toDark l .faulted).waitingFrame l := by
    unfold State.waitingFrame
    rw [hlanes]
  have hfaults : (s.toDark l .faulted).faults = s.faults := by simp
  refine ⟨(hlane l).trans ((s.toDark_lane l _ l).1.trans (if_pos rfl)),
    hwaiting.trans ((s.toDark_lane l _ l).2.trans (if_pos rfl)),
    fun j hj => (hlane j).trans ((s.toDark_lane l _ j).1.trans (if_neg hj)), fun i ho hf => ?_⟩
  have hrecord := State.faultRecord_recordFault (s := s.toDark l .faulted) (k := k) (i := i) (by rw [hfaults]; exact ho)
    ((State.freeFaultRecord_congr hfaults).trans hf)
  rw [State.now, State.towerTime, (s.toDark_frame l .faulted).1] at hrecord
  exact hrecord

/-! ## Receipts -/

theorem receiptFields_of_good {l q v : Octet} (hl : l.toNat ≤ 23) {accept : Bool}
    (hv : verdictOf v.toNat = some accept) : receiptFields [l, q, v] = some (l.toNat, q.toNat, accept) := by
  unfold receiptFields
  dsimp only
  rw [hv]
  exact if_pos hl

theorem receiptFields_of_bad {p : List Octet} (h : p.length ≠ 3 ∨ ∃ l q v : Octet, p = [l, q, v] ∧
    (23 < l.toNat ∨ (v.toNat ≠ 1 ∧ v.toNat ≠ 2))) : receiptFields p = none := by
  unfold receiptFields
  split
  · next l q v =>
    obtain hlen | ⟨l', q', v', he, hbad⟩ := h
    · exact absurd rfl hlen
    · simp only [List.cons.injEq, and_true] at he
      obtain ⟨rfl, rfl, rfl⟩ := he
      split
      · next accept hv =>
        refine if_neg fun hl => ?_
        obtain hbad | ⟨h1, h2⟩ := hbad
        · omega
        · unfold verdictOf at hv
          split at hv
          · next h => exact h1 h
          · next h => exact h2 h
          · cases hv
      · rfl
  · rfl

theorem exec_receiptArrival_of_receipt {os : List Octet} {s : State} {f : Frame} {l q v : Octet} {accept : Bool}
    (hf : parseFrame os = some f) (hlen : os.length ≤ 820) (hcls : f.cls = 0x13) (hp : f.payload = [l, q, v])
    (hl : l.toNat ≤ 23) (hv : verdictOf v.toNat = some accept) :
    exec (.receiptArrival os) s = .next (s.takeReceipt l.toNat q.toNat accept) := by
  change Host.Outcome.next (s.fixtureArrive os) = _
  unfold State.fixtureArrive
  rw [hf]
  dsimp only
  rw [if_neg (by omega), if_neg (fun h => h hcls), hp, receiptFields_of_good hl hv]

theorem State.takeReceipt_of_current {s : State} {l q : Nat} {accept : Bool} (hst : (s.lane l).state = .setup)
    (hq : q = (s.lane l).setupSequence) : s.takeReceipt l q accept = s.currentReceipt l accept := if_pos ⟨hst, hq⟩

/-- An accepted lane composes from now on (R148). -/
theorem State.toComposing_effect (s : State) (l : Nat) :
    s.toComposing l = s.withLanes (s.toComposing l).lanes ∧ (s.toComposing l).waitingFrame l = none ∧
      (∀ j, j ≠ l → (s.toComposing l).lane j = s.lane j ∧ (s.toComposing l).waitingFrame j = s.waitingFrame j) ∧
      (s.toComposing l).lane l =
        if (s.lane l).cold = true ∧ 0 < (s.lane l).config.warmUp then
          { s.lane l with
            state := .warmup, frameNumber := 0, receiptTimer := none, periodTimer := some s.now
            warmUpRemaining := (s.lane l).config.warmUp }
        else
          { s.lane l with
            state := .emitting, cold := false, frameNumber := 0, receiptTimer := none, periodTimer := some s.now } := by
  refine ⟨rfl, ?_, fun j hj => ⟨?_, ?_⟩, ?_⟩
  · exact (State.waitingFrame_setWaiting ..).trans (if_pos rfl)
  · exact (State.lane_setWaiting ..).trans ((State.lane_setLane ..).trans (if_neg hj))
  · exact (State.waitingFrame_setWaiting ..).trans (if_neg hj)
  · refine (State.lane_setWaiting ..).trans ((State.lane_setLane ..).trans (if_pos rfl) |>.trans ?_)
    exact if_congr (by simp) rfl rfl

/-- A lane that sends its attempt again (R147). -/
def retrying (r : Lane) : Lane := { r with receiptTimer := none, retriesLeft := r.retriesLeft - 1 }

/-- A receipt timer that expires with a retry left places the attempt's LANE_SETUP again (R147, R151). -/
theorem State.receiptExpired_of_retry {s : State} {l : Nat} (h : 0 < (s.lane l).retriesLeft) :
    s.receiptExpired l = (s.setLane l (retrying (s.lane l))).placeFrame l (.setup s.settings.nodeAddress l
      (s.lane l).setupSequence (s.lane l).config.channelCount (s.lane l).config.period) := by
  have hread : (s.setLane l (retrying (s.lane l))).lane l = retrying (s.lane l) :=
    (State.lane_setLane ..).trans (if_pos rfl)
  have hframe : (s.setLane l (retrying (s.lane l))).setupFrame l = .setup s.settings.nodeAddress l
      (s.lane l).setupSequence (s.lane l).config.channelCount (s.lane l).config.period := by
    unfold State.setupFrame
    rw [hread]
    rfl
  rw [← hframe]
  exact if_pos h

theorem exec_receiptTimerExpiry_of_due {s : State} {l e : Nat} (he : (s.lane l).receiptTimer = some e) (hd : e ≤ s.now) :
    exec (.receiptTimerExpiry l) s = .next (s.receiptExpired l) := by
  change execReceiptTimerExpiry l s = _
  unfold execReceiptTimerExpiry
  rw [he]
  exact congrArg Host.Outcome.next (if_pos (decide_eq_true hd))

/-- Settles O46: the checks of an arriving receipt in order, and the two ends of an attempt that gets none. -/
theorem receiptsEndSetup : Obligations.ReceiptsEndSetup := by
  refine ⟨fun os s => ⟨fun hbad => ?_, fun f hf hlen => ⟨fun hcls => ?_, fun hcls hbad => ?_,
    fun l q v hcls hp hl hv => ⟨fun hstale => ?_, fun hst hq hv1 => ?_, fun hst hq hv2 => ?_⟩⟩⟩,
    fun s l e he hd => ⟨fun hr => ?_, fun hr => ?_⟩⟩
  · change Host.Outcome.next (s.fixtureArrive os) = _
    unfold State.fixtureArrive
    split
    · rfl
    · next f hf =>
      obtain hn | hlen := hbad
      · rw [hf] at hn; cases hn
      · exact congrArg Host.Outcome.next (if_pos hlen)
  · change Host.Outcome.next (s.fixtureArrive os) = _
    unfold State.fixtureArrive
    rw [hf]
    dsimp only
    rw [if_neg (by omega)]
    exact congrArg Host.Outcome.next (if_pos hcls)
  · change Host.Outcome.next (s.fixtureArrive os) = _
    unfold State.fixtureArrive
    rw [hf]
    dsimp only
    rw [if_neg (by omega), if_neg (fun h => h hcls), receiptFields_of_bad hbad]
  · obtain ⟨accept, haccept⟩ : ∃ accept, verdictOf v.toNat = some accept := by
      obtain h | h := hv <;> rw [h] <;> exact ⟨_, rfl⟩
    rw [exec_receiptArrival_of_receipt hf hlen hcls hp hl haccept]
    exact congrArg Host.Outcome.next (if_neg fun h => hstale.elim (fun hs => hs h.1) fun hs => hs h.2)
  · have hexec := exec_receiptArrival_of_receipt (s := s) hf hlen hcls hp hl (show verdictOf v.toNat = some true by rw [hv1]; rfl)
    rw [State.takeReceipt_of_current hst hq] at hexec
    exact ⟨_, hexec, s.toComposing_effect l.toNat⟩
  · have hexec := exec_receiptArrival_of_receipt (s := s) hf hlen hcls hp hl (show verdictOf v.toNat = some false by rw [hv2]; rfl)
    rw [State.takeReceipt_of_current hst hq] at hexec
    obtain ⟨hself, hwaiting, hothers, hfault⟩ := s.faultLane_effect l.toNat (.laneRejected l.toNat)
    exact ⟨_, hexec, congrArg Lane.state hself, hwaiting, hothers, hfault⟩
  · have hexec := exec_receiptTimerExpiry_of_due he hd
    rw [State.receiptExpired_of_retry hr] at hexec
    refine ⟨_, hexec, State.eq_withLanes (by simp), ?_, fun j hj => ⟨?_, ?_⟩,
      (s.setLane l (retrying (s.lane l))).placedAge l, ?_⟩
    · refine (State.placeFrame_lane ..).trans ((if_pos rfl).trans ?_)
      simp [State.placedLate, FixtureFrame.isLevels, State.lane_setLane, retrying]
    · exact (State.placeFrame_lane ..).trans ((if_neg hj).trans ((State.lane_setLane ..).trans (if_neg hj)))
    · exact (State.placeFrame_waiting ..).trans (if_neg hj)
    · exact (State.placeFrame_waiting ..).trans (if_pos rfl)
  · have hexec := exec_receiptTimerExpiry_of_due he hd
    rw [show s.receiptExpired l = s.faultLane l (.noReceipt l) from if_neg (by omega)] at hexec
    exact ⟨_, hexec, s.faultLane_effect l (.noReceipt l)⟩

end Sys2Proof.Machine
end

section
/-! SUPPORT. The period event of a lane: adoption, then the frame channel by channel (06, 08). -/

namespace Sys2Proof.Machine

/-! ## Settling -/

/-- Settling, status by status: each settles when every lane has adopted, and stays otherwise (R158, R160). -/
theorem State.settleLanes_each (s : State) :
    ((∀ j, j < 24 → (s.lane j).bank = s.lanes.selected) → s.settleLanes.lanes.switch = .idle) ∧
    ((∃ j, j < 24 ∧ (s.lane j).bank ≠ s.lanes.selected) → s.settleLanes.lanes.switch = s.lanes.switch) ∧
    ((∀ j, j < 24 → (s.lane j).guardInUse = s.lanes.requestedGuard) →
      s.settleLanes.lanes.guardStatus = if s.lanes.requestedGuard then .enabled else .disabled) ∧
    ((∃ j, j < 24 ∧ (s.lane j).guardInUse ≠ s.lanes.requestedGuard) →
      s.settleLanes.lanes.guardStatus = s.lanes.guardStatus) := by
  classical
  rw [State.settleLanes_statuses]
  simp only [State.withLanes_lanes, LaneController.withStatuses, mem_laneNumbers]
  exact ⟨fun h => if_pos h, fun ⟨j, hj, hne⟩ => if_neg fun h => hne (h j hj), fun h => if_pos h,
    fun ⟨j, hj, hne⟩ => if_neg fun h => hne (h j hj)⟩

/-! ## Guarded channels -/

/-- Guard range i of s holds channel c of lane l (R159). -/
def State.Holds (s : State) (i l c : Nat) : Prop :=
  (s.guardRange i).lane = l ∧ (s.guardRange i).first ≤ c ∧ c ≤ (s.guardRange i).last

theorem guardNumbers_eq_range : guardNumbers = List.range 8 := rfl

/-- A range that holds a channel is enabled (R159). -/
theorem State.holds_iff (s : State) (i l c : Nat) : ((s.guardRange i).enabled && decide ((s.guardRange i).lane = l) &&
    decide ((s.guardRange i).first ≤ c) && decide (c ≤ (s.guardRange i).last)) = true ↔ s.Holds i l c := by
  simp only [Guard.enabled, Bool.and_eq_true, decide_eq_true_eq, State.Holds]
  exact ⟨fun ⟨⟨⟨_, hl⟩, hf⟩, hc⟩ => ⟨hl, hf, hc⟩, fun ⟨hl, hf, hc⟩ => ⟨⟨⟨hf.trans hc, hl⟩, hf⟩, hc⟩⟩

theorem State.guardValue_of_first {s : State} {i l c : Nat} (hi : i < 8) (h : s.Holds i l c)
    (hfirst : ∀ j, j < i → ¬ s.Holds j l c) : s.guardValue l c = some (s.guardRange i).held := by
  unfold State.guardValue
  rw [guardNumbers_eq_range, List.find?_range_eq_some.2 ⟨(s.holds_iff i l c).2 h, List.mem_range.2 hi, fun j hj => ?_⟩]
  · rfl
  · rw [Bool.not_eq_true']
    exact Bool.eq_false_iff.2 (mt (s.holds_iff j l c).1 (hfirst j hj))

theorem State.guardValue_eq_none_iff (s : State) (l c : Nat) :
    s.guardValue l c = none ↔ ∀ i, i < 8 → ¬ s.Holds i l c := by
  unfold State.guardValue
  rw [Option.map_eq_none_iff, guardNumbers_eq_range, List.find?_range_eq_none]
  refine forall₂_congr fun i _ => ?_
  rw [Bool.not_eq_true', Bool.eq_false_iff, ne_eq, s.holds_iff i l c]

theorem State.unguarded_iff (s : State) (l c : Nat) :
    s.Unguarded l c ↔ (if s.lanes.requestedGuard then s.guardValue l c else none) = none := by
  unfold State.Unguarded
  cases s.lanes.requestedGuard
  · simp
  · simp only [if_true, s.guardValue_eq_none_iff, Bool.true_eq_false, false_or]
    rfl

/-! ## Patched channels -/

theorem OutputEntry.covers_iff (e : OutputEntry) (l c : Nat) : (e.present && decide (e.lane = l) &&
    decide (e.firstChannel ≤ c) && decide (c < e.firstChannel + 3 * e.zoneCount)) = true ↔ e.Covers l c := by
  simp only [Bool.and_eq_true, decide_eq_true_eq, OutputEntry.Covers, and_assoc]

/-- The entry of the bank in use that the search finds for a channel covers it (R116). -/
theorem State.patchEntry_of_some {s : State} {l c : Nat} {e : OutputEntry} (h : s.patchEntry l c = some e) :
    ∃ p ∈ s.outputBank (s.lane l).bank, p.2 = e ∧ e.Covers l c := by
  obtain ⟨p, hp, rfl⟩ := Option.map_eq_some_iff.1 h
  have hcovers := List.find?_some hp
  exact ⟨p, List.mem_of_find?_eq_some hp, rfl, (p.2.covers_iff l c).1 hcovers⟩

theorem State.patchEntry_of_none {s : State} {l c : Nat} (h : ∀ p ∈ s.outputBank (s.lane l).bank, ¬ p.2.Covers l c) :
    s.patchEntry l c = none := by
  by_contra hne
  obtain ⟨e, he⟩ := Option.ne_none_iff_exists'.1 hne
  obtain ⟨p, hp, rfl, hcovers⟩ := State.patchEntry_of_some he
  exact h p hp hcovers

/-- The only entry that covers a channel is found for it. -/
theorem State.patchEntry_of_only {s : State} {l c : Nat} {p : Nat × OutputEntry}
    (hp : p ∈ s.outputBank (s.lane l).bank) (hcovers : p.2.Covers l c)
    (only : ∀ q ∈ s.outputBank (s.lane l).bank, q ≠ p → ¬ q.2.Covers l c) : s.patchEntry l c = some p.2 := by
  cases h : s.patchEntry l c with
  | none =>
    have hnone := List.find?_eq_none.1 (Option.map_eq_none_iff.1 h) p hp
    exact absurd ((p.2.covers_iff l c).2 hcovers) hnone
  | some e =>
    obtain ⟨q, hq, rfl, hqc⟩ := State.patchEntry_of_some h
    by_cases he : q = p
    · rw [he]
    · exact absurd hqc (only q hq he)

/-! ## The frame and the lane that composes it -/

/-- The levels of the frame that lane l composes (R116, R149). -/
def State.composedLevels (s : State) (l : Nat) : List Nat :=
  (s.channels l).map fun c => if (s.lane l).state = .warmup then (s.guardStep l c).getD 0 else s.channelLevel l c

/-- Lane l once it has composed a frame, but for its late count (R109, R149, R150). -/
def State.composedLane (s : State) (l : Nat) : Lane :=
  if (s.lane l).state = .warmup then warmUpStep (s.afterFrame (s.lane l))
  else clipStep (s.frameClips l) (s.afterFrame (s.lane l))

theorem State.composeFrame_eq (s : State) (l : Nat) : s.composeFrame l = (s.setLane l (s.composedLane l)).placeFrame l
    (.levels s.settings.nodeAddress l (s.lane l).frameNumber (s.composedLevels l)) := by
  unfold State.composeFrame State.composedLane State.composedLevels State.warmUpLevels State.emittedLevels
  dsimp only
  split
  · rfl
  · rfl

/-- What composing leaves of the lane whatever its state (R149, R150). -/
theorem State.composedLane_kept (s : State) (l : Nat) :
    (s.composedLane l).frameNumber = ((s.lane l).frameNumber + 1) % 256 ∧
      (s.composedLane l).periodTimer = some (s.now + (s.lane l).config.period) ∧
      (s.composedLane l).bank = (s.lane l).bank ∧ (s.composedLane l).guardInUse = (s.lane l).guardInUse ∧
      (s.composedLane l).config = (s.lane l).config ∧ (s.composedLane l).emitted = (s.lane l).emitted ∧
      (s.composedLane l).late = (s.lane l).late := by
  unfold State.composedLane warmUpStep clipStep
  split <;> split <;> exact ⟨rfl, rfl, rfl, rfl, rfl, rfl, rfl⟩

theorem State.composedLane_of_warmup {s : State} {l : Nat} (h : (s.lane l).state = .warmup) :
    (s.composedLane l).clipFlag = (s.lane l).clipFlag ∧ (s.composedLane l).clipCount = (s.lane l).clipCount ∧
      (s.composedLane l).state = (if (s.lane l).warmUpRemaining ≤ 1 then .emitting else .warmup) ∧
      (s.composedLane l).warmUpRemaining = (s.lane l).warmUpRemaining - 1 ∧
      (s.composedLane l).cold = (if (s.lane l).warmUpRemaining ≤ 1 then false else (s.lane l).cold) := by
  have hstep : s.composedLane l = warmUpStep (s.afterFrame (s.lane l)) := if_pos h
  rw [hstep]
  unfold warmUpStep
  by_cases hlast : (s.lane l).warmUpRemaining ≤ 1
  · rw [if_pos (show (s.afterFrame (s.lane l)).warmUpRemaining ≤ 1 from hlast), if_pos hlast, if_pos hlast]
    exact ⟨rfl, rfl, rfl, by dsimp only; omega, rfl⟩
  · rw [if_neg (show ¬ (s.afterFrame (s.lane l)).warmUpRemaining ≤ 1 from hlast), if_neg hlast, if_neg hlast]
    exact ⟨rfl, rfl, h, rfl, rfl⟩

theorem State.composedLane_of_emitting {s : State} {l : Nat} (h : (s.lane l).state = .emitting) :
    (s.composedLane l).state = .emitting ∧ (s.composedLane l).cold = (s.lane l).cold ∧
      (s.frameClips l = false → (s.composedLane l).clipFlag = (s.lane l).clipFlag ∧
        (s.composedLane l).clipCount = (s.lane l).clipCount) ∧
      (s.frameClips l = true → (s.composedLane l).clipFlag = true ∧
        (s.composedLane l).clipCount = satInc 65535 (s.lane l).clipCount) := by
  have hstep : s.composedLane l = clipStep (s.frameClips l) (s.afterFrame (s.lane l)) :=
    if_neg (by rw [h]; decide)
  rw [hstep]
  unfold clipStep
  cases s.frameClips l
  · exact ⟨h, rfl, fun _ => ⟨rfl, rfl⟩, nofun⟩
  · exact ⟨h, rfl, nofun, fun _ => ⟨rfl, rfl⟩⟩

theorem State.composedLevels_length (s : State) (l : Nat) : (s.composedLevels l).length = (s.lane l).config.channelCount := by
  simp [State.composedLevels, State.channels]

theorem State.composedLevels_at {s : State} {l c : Nat} (hc : c < (s.lane l).config.channelCount) :
    (s.composedLevels l)[c]? =
      some (if (s.lane l).state = .warmup then (s.guardStep l c).getD 0 else s.channelLevel l c) := by
  unfold State.composedLevels State.channels
  rw [List.getElem?_map, List.getElem?_range hc]
  rfl

/-- A frame clips when the value of one of its patched channels under no guard is above 4095 (R108, R109). -/
theorem State.frameClips_iff (s : State) (l : Nat) : s.frameClips l = true ↔
    ∃ c e, c < (s.lane l).config.channelCount ∧ s.guardStep l c = none ∧ s.patchEntry l c = some e ∧
      4095 < s.gainedAt e c := by
  unfold State.frameClips State.channels State.channelClips
  rw [List.any_eq_true]
  constructor
  · rintro ⟨c, hc, hclips⟩
    split at hclips
    · cases hclips
    · next hg =>
      split at hclips
      · cases hclips
      · next e he => exact ⟨c, e, List.mem_range.1 hc, hg, he, of_decide_eq_true hclips⟩
  · rintro ⟨c, e, hc, hg, he, hgain⟩
    refine ⟨c, List.mem_range.2 hc, ?_⟩
    rw [hg]
    dsimp only
    rw [he]
    exact decide_eq_true hgain

/-! ## The period event -/

/-- The part once lane l has adopted, before it composes (R158, R160). -/
def State.adoptedAt (s : State) (l : Nat) : State := (s.setLane l (s.adopted (s.lane l))).settleLanes

/-- The adoption of a lane changes that lane and the two statuses (R158, R160). -/
theorem State.adoptedAt_effect (s : State) (l : Nat) :
    (s.adoptedAt l = s.withLanes (s.adoptedAt l).lanes) ∧ (s.adoptedAt l).lane l = s.adopted (s.lane l) ∧
      (∀ j, j ≠ l → (s.adoptedAt l).lane j = s.lane j) ∧ (∀ j, (s.adoptedAt l).waitingFrame j = s.waitingFrame j) ∧
      (s.adoptedAt l).lanes.registers = s.lanes.registers := by
  unfold State.adoptedAt
  refine ⟨State.eq_withLanes (by simp), ?_, fun j hj => ?_, fun j => ?_, ?_⟩
  · rw [State.lane_settleLanes, State.lane_setLane, if_pos rfl]
  · rw [State.lane_settleLanes, State.lane_setLane, if_neg hj]
  · rw [State.waitingFrame_settleLanes, State.waitingFrame_setLane]
  · rw [State.settleLanes_registers]; rfl

/-- The statuses after the adoption of a lane tell of the others (R158, R160). -/
theorem State.adoptedAt_statuses (s : State) (l : Nat) :
    ((∀ j, j < 24 → j ≠ l → (s.lane j).bank = s.lanes.selected) → (s.adoptedAt l).lanes.switch = .idle) ∧
    ((∃ j, j < 24 ∧ j ≠ l ∧ (s.lane j).bank ≠ s.lanes.selected) → (s.adoptedAt l).lanes.switch = s.lanes.switch) ∧
    ((∀ j, j < 24 → j ≠ l → (s.lane j).guardInUse = s.lanes.requestedGuard) →
      (s.adoptedAt l).lanes.guardStatus = if s.lanes.requestedGuard then .enabled else .disabled) ∧
    ((∃ j, j < 24 ∧ j ≠ l ∧ (s.lane j).guardInUse ≠ s.lanes.requestedGuard) →
      (s.adoptedAt l).lanes.guardStatus = s.lanes.guardStatus) := by
  obtain ⟨hidle, hswitch, hsettled, hguard⟩ := (s.setLane l (s.adopted (s.lane l))).settleLanes_each
  simp only [State.lane_setLane] at hidle hswitch hsettled hguard
  refine ⟨fun h => hidle fun j hj => ?_, fun ⟨j, hj, hne, h⟩ => hswitch ⟨j, hj, by rw [if_neg hne]; exact h⟩,
    fun h => hsettled fun j hj => ?_, fun ⟨j, hj, hne, h⟩ => hguard ⟨j, hj, by rw [if_neg hne]; exact h⟩⟩
  · split
    · rfl
    · next hne => exact h j hj hne
  · split
    · rfl
    · next hne => exact h j hj hne

theorem exec_periodEvent_of_due {s : State} {l e : Nat} (hst : (s.lane l).state = .warmup ∨ (s.lane l).state = .emitting)
    (he : (s.lane l).periodTimer = some e) (hd : e ≤ s.now) :
    exec (.periodEvent l) s = .next ((s.adoptedAt l).composeFrame l) := by
  have hcomposing : (s.lane l).composing = true := by
    unfold Lane.composing
    rw [Bool.or_eq_true, decide_eq_true_eq, decide_eq_true_eq]
    exact hst
  change execPeriodEvent l s = _
  unfold execPeriodEvent
  rw [he, hcomposing]
  exact congrArg Host.Outcome.next (if_pos (decide_eq_true hd))

/-- What the channels of an adopted lane depend on is as before its adoption. -/
theorem State.adoptedAt_channels (s : State) (l c : Nat) :
    (s.adoptedAt l).outputBank ((s.adoptedAt l).lane l).bank = s.outputBank s.lanes.selected ∧
      (s.adoptedAt l).guardStep l c = (if s.lanes.requestedGuard then s.guardValue l c else none) ∧
      (∀ e, (s.adoptedAt l).gainedAt e c = s.gainedAt e c) ∧ (∀ e, (s.adoptedAt l).channelValue e c = s.channelValue e c) ∧
      (∀ v, (s.adoptedAt l).capped l v = if (s.lane l).config.curfewExempt then v else min v s.ceilingInForce) := by
  obtain ⟨hframe, hlane, _, _, hregisters⟩ := s.adoptedAt_effect l
  have hbank0 : (s.adoptedAt l).lanes.bank0 = s.lanes.bank0 := congrArg (fun x => x.bank0) hregisters
  have hbank1 : (s.adoptedAt l).lanes.bank1 = s.lanes.bank1 := congrArg (fun x => x.bank1) hregisters
  have hguards : (s.adoptedAt l).lanes.guards = s.lanes.guards := congrArg (fun x => x.guards) hregisters
  refine ⟨?_, ?_, fun e => ?_, fun e => ?_, fun v => ?_⟩
  · rw [hlane]
    change (s.adoptedAt l).outputBank s.lanes.selected = _
    unfold State.outputBank
    rw [hbank0, hbank1]
  · unfold State.guardStep State.guardValue State.guardRange
    rw [hlane, hguards]
    rfl
  · rw [hframe]; rfl
  · rw [hframe]; rfl
  · unfold State.capped
    rw [hlane, hframe]
    rfl

/-- The late count and the age that the frame of a composing lane leaves (R151). -/
theorem State.placed_levels (s : State) (l : Nat) (c : Lane) (node lane number : Nat) (levels : List Nat) :
    (s.waitingFrame l = none → (s.setLane l c).placedAge l = s.now ∧
      (s.setLane l c).placedLate l (.levels node lane number levels) = c.late) ∧
    (∀ w, s.waitingFrame l = some w → (s.setLane l c).placedAge l = w.age ∧
      (s.setLane l c).placedLate l (.levels node lane number levels) =
        if w.frame.isLevels then satInc 65535 c.late else c.late) := by
  have hlane : (s.setLane l c).lane l = c := (State.lane_setLane ..).trans (if_pos rfl)
  unfold State.placedAge State.placedLate
  rw [hlane, State.waitingFrame_setLane]
  refine ⟨fun h => ?_, fun w h => ?_⟩
  · rw [h]; exact ⟨rfl, rfl⟩
  · rw [h]
    refine ⟨rfl, ?_⟩
    rw [Option.any_some, show FixtureFrame.isLevels (.levels node lane number levels) = true from rfl, Bool.and_true]

/-! ## The levels of the frame -/

/-- An adopted lane emits the held value of the first range that holds a channel (R116, R159). -/
theorem State.level_of_guarded {s : State} {l c i : Nat} (hc : c < (s.lane l).config.channelCount)
    (hon : s.lanes.requestedGuard = true) (hi : i < 8) (h : s.Holds i l c) (hfirst : ∀ j, j < i → ¬ s.Holds j l c) :
    ((s.adoptedAt l).composedLevels l)[c]? = some (s.guardRange i).held := by
  obtain ⟨_, hlane, _⟩ := s.adoptedAt_effect l
  obtain ⟨_, hguard, _⟩ := s.adoptedAt_channels l c
  rw [hon, if_pos rfl, State.guardValue_of_first hi h hfirst] at hguard
  rw [State.composedLevels_at (by rw [hlane]; exact hc)]
  unfold State.channelLevel
  rw [hguard]
  exact congrArg some (ite_self _)

/-- The level of a channel under no guard (R116, R149). -/
theorem State.level_of_unguarded {s : State} {l c : Nat} (hc : c < (s.lane l).config.channelCount)
    (h : s.Unguarded l c) :
    ((s.lane l).state = .warmup → ((s.adoptedAt l).composedLevels l)[c]? = some 0) ∧
    ((s.lane l).state = .emitting → (∀ p ∈ s.outputBank s.lanes.selected, ¬ p.2.Covers l c) →
      ((s.adoptedAt l).composedLevels l)[c]? = some 0) ∧
    (∀ p, (s.lane l).state = .emitting → p ∈ s.outputBank s.lanes.selected → p.2.Covers l c →
      (∀ q ∈ s.outputBank s.lanes.selected, q ≠ p → ¬ q.2.Covers l c) →
      ((s.adoptedAt l).composedLevels l)[c]? =
        some (if (s.lane l).config.curfewExempt then outputLevel (s.channelValue p.2 c) p.2.gain
          else min (outputLevel (s.channelValue p.2 c) p.2.gain) s.ceilingInForce)) := by
  obtain ⟨_, hlane, _⟩ := s.adoptedAt_effect l
  obtain ⟨hbank, hguard, _, hvalue, hcapped⟩ := s.adoptedAt_channels l c
  rw [(s.unguarded_iff l c).1 h] at hguard
  have hstate : ((s.adoptedAt l).lane l).state = (s.lane l).state := by rw [hlane]; rfl
  rw [State.composedLevels_at (by rw [hlane]; exact hc), hstate]
  unfold State.channelLevel
  rw [hguard]
  refine ⟨fun hw => by rw [if_pos hw]; rfl, fun he hnone => ?_, fun p he hp hcovers honly => ?_⟩
  · rw [State.patchEntry_of_none (by rw [hbank]; exact hnone), he]
    rfl
  · rw [State.patchEntry_of_only (by rw [hbank]; exact hp) hcovers (by rw [hbank]; exact honly), he]
    dsimp only
    rw [hvalue, hcapped, if_neg (by decide)]

/-- The frame of an adopted lane clips by its patched channels under no guard (R108, R109). -/
theorem State.adoptedAt_clips (s : State) (l : Nat) :
    ((∀ c p, c < (s.lane l).config.channelCount → s.Unguarded l c → p ∈ s.outputBank s.lanes.selected →
        p.2.Covers l c → s.gainedAt p.2 c ≤ 4095) → (s.adoptedAt l).frameClips l = false) ∧
    (∀ c p, c < (s.lane l).config.channelCount → s.Unguarded l c → p ∈ s.outputBank s.lanes.selected →
      p.2.Covers l c → (∀ q ∈ s.outputBank s.lanes.selected, q ≠ p → ¬ q.2.Covers l c) → 4095 < s.gainedAt p.2 c →
      (s.adoptedAt l).frameClips l = true) := by
  obtain ⟨_, hlane, _⟩ := s.adoptedAt_effect l
  refine ⟨fun h => ?_, fun c p hc hu hp hcovers honly hgain => ?_⟩
  · rw [Bool.eq_false_iff]
    intro hclips
    obtain ⟨c, e, hc, hg, he, hgain⟩ := ((s.adoptedAt l).frameClips_iff l).1 hclips
    obtain ⟨hbank, hguard, hgained, _⟩ := s.adoptedAt_channels l c
    obtain ⟨p, hp, rfl, hcovers⟩ := State.patchEntry_of_some he
    rw [hbank] at hp
    rw [hlane] at hc
    have := h c p hc ((s.unguarded_iff l c).2 (hguard.symm.trans hg)) hp hcovers
    rw [hgained] at hgain
    omega
  · obtain ⟨hbank, hguard, hgained, _⟩ := s.adoptedAt_channels l c
    refine ((s.adoptedAt l).frameClips_iff l).2 ⟨c, p.2, by rw [hlane]; exact hc,
      hguard.trans ((s.unguarded_iff l c).1 hu), ?_, by rw [hgained]; exact hgain⟩
    exact State.patchEntry_of_only (by rw [hbank]; exact hp) hcovers (by rw [hbank]; exact honly)

theorem State.setLane_registers (s : State) (l : Nat) (r : Lane) :
    (s.setLane l r).lanes.registers = s.lanes.registers ∧ (s.setLane l r).lanes.switch = s.lanes.switch ∧
      (s.setLane l r).lanes.guardStatus = s.lanes.guardStatus := ⟨rfl, rfl, rfl⟩

/-- A lane's frame leaves the lane composed and the frame waiting, and nothing else but a status can differ from the
state before its adoption (R149 to R151). -/
theorem State.composeFrame_adopted (s : State) (l : Nat) : ∃ t age late, (s.adoptedAt l).composeFrame l = t ∧
    t = s.withLanes t.lanes ∧ t.lanes.registers = s.lanes.registers ∧
    (∀ j, j ≠ l → t.lane j = s.lane j ∧ t.waitingFrame j = s.waitingFrame j) ∧
    t.waitingFrame l = some ⟨age, .levels s.settings.nodeAddress l (s.lane l).frameNumber
      ((s.adoptedAt l).composedLevels l)⟩ ∧
    t.lane l = { (s.adoptedAt l).composedLane l with late := late } ∧
    t.lanes.switch = (s.adoptedAt l).lanes.switch ∧ t.lanes.guardStatus = (s.adoptedAt l).lanes.guardStatus ∧
    (s.waitingFrame l = none → age = s.now ∧ late = (s.lane l).late) ∧
    (∀ w, s.waitingFrame l = some w → age = w.age ∧
      late = if w.frame.isLevels then satInc 65535 (s.lane l).late else (s.lane l).late) := by
  obtain ⟨hframe, hlane, hothers, hwaiting, hregisters⟩ := s.adoptedAt_effect l
  have hnow : (s.adoptedAt l).now = s.now := by rw [hframe]; rfl
  have hnode : (s.adoptedAt l).settings = s.settings := by rw [hframe]; rfl
  have hnumber : ((s.adoptedAt l).lane l).frameNumber = (s.lane l).frameNumber := by rw [hlane]; rfl
  have hlate : ((s.adoptedAt l).lane l).late = (s.lane l).late := by rw [hlane]; rfl
  obtain ⟨hfresh, hreplaced⟩ := (s.adoptedAt l).placed_levels l ((s.adoptedAt l).composedLane l) s.settings.nodeAddress l
    (s.lane l).frameNumber ((s.adoptedAt l).composedLevels l)
  rw [hwaiting, ((s.adoptedAt l).composedLane_kept l).2.2.2.2.2.2, hlate] at hfresh hreplaced
  rw [hnow] at hfresh
  obtain ⟨hset, hsetSwitch, hsetStatus⟩ := (s.adoptedAt l).setLane_registers l ((s.adoptedAt l).composedLane l)
  obtain ⟨hplaced, hplacedSwitch, hplacedStatus⟩ := ((s.adoptedAt l).setLane l ((s.adoptedAt l).composedLane l)).placeFrame_registers l
    (.levels s.settings.nodeAddress l (s.lane l).frameNumber ((s.adoptedAt l).composedLevels l))
  refine ⟨_, _, _, (State.composeFrame_eq ..).trans (by rw [hnode, hnumber]), State.eq_withLanes (by simp [State.adoptedAt]),
    hplaced.trans (hset.trans hregisters), fun j hj => ⟨?_, ?_⟩, ?_, ?_, hplacedSwitch.trans hsetSwitch,
    hplacedStatus.trans hsetStatus, hfresh, hreplaced⟩
  · rw [State.placeFrame_lane, if_neg hj, State.lane_setLane, if_neg hj, hothers j hj]
  · rw [State.placeFrame_waiting, if_neg hj, State.waitingFrame_setLane, hwaiting]
  · rw [State.placeFrame_waiting, if_pos rfl]
  · rw [State.placeFrame_lane, if_pos rfl, State.lane_setLane, if_pos rfl]

/-- Settles O47: the lane adopts, and each channel of its frame is found as R116 says. -/
theorem periodEventComposesFrame : Obligations.PeriodEventComposesFrame := by
  intro s l e r hst he hd hr
  subst hr
  obtain ⟨hframe, hlane, -⟩ := s.adoptedAt_effect l
  obtain ⟨hidle, hswitch, hsettled, hguard⟩ := s.adoptedAt_statuses l
  obtain ⟨hunclipped, hclipped⟩ := s.adoptedAt_clips l
  obtain ⟨t, age, late, ht, htframe, hregisters, hothers, htwaiting, htlane, htswitch, htstatus, hfresh, hreplaced⟩ :=
    s.composeFrame_adopted l
  have hexec := exec_periodEvent_of_due hst he hd
  rw [ht] at hexec
  have hnow : (s.adoptedAt l).now = s.now := by rw [hframe]; rfl
  obtain ⟨hnumber, hperiod, hbank, huse, hconfig, hemitted, -⟩ := (s.adoptedAt l).composedLane_kept l
  have hwarm := State.composedLane_of_warmup (s := s.adoptedAt l) (l := l)
  have hemit := State.composedLane_of_emitting (s := s.adoptedAt l) (l := l)
  have hlength := (s.adoptedAt l).composedLevels_length l
  rw [hlane] at hnumber hperiod hbank huse hconfig hemitted hwarm hemit hlength
  rw [hnow] at hperiod
  have hcovers : ∀ (q : Nat × OutputEntry) c, (q.2.present = true → q.2.lane = l →
      (c < q.2.firstChannel ∨ q.2.firstChannel + 3 * q.2.zoneCount ≤ c)) → ¬ q.2.Covers l c :=
    fun q c h ⟨hp, hl, hlo, hhi⟩ => by have := h hp hl; omega
  have hguarded := fun c i => State.level_of_guarded (s := s) (l := l) (c := c) (i := i)
  have hunguarded := fun c => State.level_of_unguarded (s := s) (l := l) (c := c)
  generalize (s.adoptedAt l).composedLevels l = levels at *
  generalize (s.adoptedAt l).composedLane l = composed at *
  refine ⟨t, levels, hexec, htframe, hothers, ⟨age, htwaiting⟩, fun hw => ?_, fun w hw => ?_, ?_⟩
  · rw [htwaiting, htlane]
    exact ⟨congrArg some (hfresh hw).1, (hfresh hw).2⟩
  · rw [htwaiting, htlane]
    exact ⟨congrArg some (hreplaced w hw).1, (hreplaced w hw).2⟩
  rw [htlane]
  refine ⟨fun hrw => ?_, fun hre hall => ?_, fun c p hre hc hu hp hcov honly hgain => ?_, hnumber, hperiod, hbank, huse,
    hconfig, hemitted, fun hrw => ?_, fun hre => ?_, LaneController.registers_eq hregisters,
    fun h => htswitch.trans (hidle h), fun h => htswitch.trans (hswitch h), fun h => htstatus.trans (hsettled h),
    fun h => htstatus.trans (hguard h), hlength, fun c i hc hon hi hl hlo hhi hfirst => ?_,
    fun c hc hu => ⟨fun hrw => ?_, fun hre hnone => ?_, fun p v hre hp hpresent hl hlo hhi honly hv => ?_⟩⟩
  · exact ⟨(hwarm hrw).1, (hwarm hrw).2.1⟩
  · exact (hemit hre).2.2.1 (hunclipped hall)
  · exact (hemit hre).2.2.2 (hclipped c p hc hu hp hcov honly hgain)
  · exact (hwarm hrw).2.2
  · exact ⟨(hemit hre).1, (hemit hre).2.1⟩
  · exact hguarded c i hc hon hi ⟨hl, hlo, hhi⟩ hfirst
  · exact (hunguarded c hc hu).1 hrw
  · exact (hunguarded c hc hu).2.1 hre fun p hp => hcovers p c (hnone p hp)
  · rw [(hunguarded c hc hu).2.2 p hre hp ⟨hpresent, hl, hlo, hhi⟩ fun q hq hne => hcovers q c (honly q hq hne), hv]
    rfl

end Sys2Proof.Machine
end

section
/-! SUPPORT. A request is carried out with a place reserved for its reply: cues, releases and wakes take of the management
unit no more than the settings, so that they are the same there as without the request (09). -/

namespace Sys2Proof.Machine

/-- A fold whose passes take no more of the management unit than the settings takes no more either. -/
theorem foldl_withMgmt {β : Type} {f : State → β → State}
    (pass : ∀ (s : State) b (x : ManagementUnit), x.settings = s.settings → f (s.withMgmt x) b = (f s b).withMgmt x)
    (settings : ∀ (s : State) b, (f s b).settings = s.settings) (l : List β) (s : State) {x : ManagementUnit}
    (hx : x.settings = s.settings) : l.foldl f (s.withMgmt x) = (l.foldl f s).withMgmt x := by
  induction l generalizing s with
  | nil => rfl
  | cons b l ih =>
    rw [List.foldl_cons, List.foldl_cons, pass s b x hx]
    exact ih (f s b) (hx.trans (settings s b).symm)

/-! ## Zones -/

theorem State.putLayer_withMgmt (s : State) (k z : Nat) (l : Layer) (x : ManagementUnit) :
    (s.withMgmt x).putLayer k z l = (s.putLayer k z l).withMgmt x := by
  have hzone : (s.withMgmt x).zone z = s.zone z := rfl
  unfold State.putLayer
  rw [hzone]
  dsimp only
  cases Table.read none (s.zone z).layers k with
  | some _ => rfl
  | none => dsimp only; split <;> rfl

theorem State.cueZones_withMgmt (s : State) (k : Nat) (p : Playback) (d : Int) (mode : LayerMode) (fade : Nat)
    (curve : Curve) (z n : Nat) {x : ManagementUnit} (hx : x.settings = s.settings) :
    (s.withMgmt x).cueZones k p d mode fade curve z n = (s.cueZones k p d mode fade curve z n).withMgmt x :=
  foldl_withMgmt (fun s z x _ => s.putLayer_withMgmt k z (s.cueLayer k p d mode fade curve z) x)
    (fun s z => by simp [State.settings]) _ s hx

theorem State.dropLayer_withMgmt (s : State) (k : Nat) (d : Int) (z : Nat) {x : ManagementUnit}
    (hx : x.settings = s.settings) : (s.withMgmt x).dropLayer k d z = (s.dropLayer k d z).withMgmt x := by
  have hzone : (s.withMgmt x).zone z = s.zone z := rfl
  have hhandover : (s.withMgmt x).handoverAt z d = s.handoverAt z d := by
    unfold State.handoverAt
    rw [show (s.withMgmt x).settings = s.settings from hx]
    rfl
  unfold State.dropLayer
  rw [hzone, hhandover]
  dsimp only
  cases Table.read none (s.zone z).layers k with
  | none => rfl
  | some _ => dsimp only; split <;> rfl

theorem State.releaseZones_withMgmt (s : State) (k : Nat) (d : Int) (z n : Nat) {x : ManagementUnit}
    (hx : x.settings = s.settings) : (s.withMgmt x).releaseZones k d z n = (s.releaseZones k d z n).withMgmt x :=
  foldl_withMgmt (fun s z _ hx => s.dropLayer_withMgmt k d z hx) (fun s z => by simp [State.settings]) _ s hx

theorem State.dropLayers_withMgmt (s : State) (k : Nat) {x : ManagementUnit} (hx : x.settings = s.settings) :
    (s.withMgmt x).dropLayers k = (s.dropLayers k).withMgmt x :=
  foldl_withMgmt (f := fun s z => s.dropLayer k s.now z) (fun s z _ hx => s.dropLayer_withMgmt k s.now z hx)
    (fun s z => by simp [State.settings]) _ s hx

theorem State.settleHandovers_withMgmt (s : State) (made : List Nat) {x : ManagementUnit} (hx : x.settings = s.settings) :
    (s.withMgmt x).settleHandovers made = (s.settleHandovers made).withMgmt x := by
  refine foldl_withMgmt (fun s z x _ => ?_) (fun s z => by simp [State.settings]) _ s hx
  have hzone : (s.withMgmt x).zone z = s.zone z := rfl
  have hinstant : (s.withMgmt x).instant = s.instant := rfl
  unfold State.settleZone
  rw [hzone, hinstant]
  cases (s.zone z).handover with
  | none => rfl
  | some h => dsimp only; split <;> rfl

/-! ## Slots -/

theorem State.release_withMgmt (s : State) (k : Nat) {x : ManagementUnit} (hx : x.settings = s.settings) :
    (s.withMgmt x).release k = (s.release k).withMgmt x := by
  have hslot : (s.withMgmt x).slot k = s.slot k := rfl
  have hfree : ∀ u : State, x.settings = u.settings → (u.withMgmt x).allFreeEvent = u.allFreeEvent.withMgmt x := by
    intro u hu
    have hall : (u.withMgmt x).allFree = u.allFree := rfl
    unfold State.allFreeEvent
    rw [hall, show (u.withMgmt x).settings = u.settings from hu]
    split <;> rfl
  have hdropped : x.settings = (s.dropLayers k).settings := by simpa [State.settings] using hx
  unfold State.release
  rw [hslot, State.dropLayers_withMgmt s k hx]
  generalize s.dropLayers k = u at hdropped
  cases s.slot k with
  | none => rfl
  | some p => exact hfree ((u.setSlot k none).slotFreed p.showNo) hdropped

theorem State.executeCue_withMgmt (s : State) (k : Nat) (p : Playback) (d : Int) (c : Cue) {x : ManagementUnit}
    (hx : x.settings = s.settings) : (s.withMgmt x).executeCue k p d c = (s.executeCue k p d c).withMgmt x := by
  cases c with
  | look z n l fade curve => exact (s.setSlot k (some p)).cueZones_withMgmt k p d (.look l) fade curve z n hx
  | follow z n fallback src policy fade curve =>
    exact (s.setSlot k (some p)).cueZones_withMgmt k p d
      (.follow src policy fallback fade (followSubstate (s.source src).state)) fade curve z n hx
  | release z n => exact (s.setSlot k (some p)).releaseZones_withMgmt k d z n hx
  | master target fade => rfl
  | hold limit => exact ((s.withMgmt x).holdSlot_eq k p d limit).trans (congrArg (State.withMgmt · x) (s.holdSlot_eq k p d limit)).symm
  | finish fade =>
    have hended : (s.withMgmt x).setSlot k (some (p.ended d fade)) = (s.setSlot k (some (p.ended d fade))).withMgmt x := rfl
    have hinstant : (s.withMgmt x).instant = s.instant := rfl
    unfold State.executeCue State.endSlot
    dsimp only
    rw [hended, hinstant]
    split
    · exact State.release_withMgmt _ k hx
    · rfl

theorem runCues_withMgmt (n k : Nat) (made : List Nat) (s : State) {x : ManagementUnit} (hx : x.settings = s.settings) :
    runCues n k made (s.withMgmt x) = ((runCues n k made s).1.withMgmt x, (runCues n k made s).2) := by
  induction n generalizing s made with
  | zero => rfl
  | succ n ih =>
    obtain hidle | ⟨p, c, hs, hc, hd⟩ := s.cueIdle_or_due k
    · rw [runCues_of_idle hidle, runCues_of_idle (s := s.withMgmt x) hidle]
    · have hmakes : (s.withMgmt x).cueMakes k c.cue = s.cueMakes k c.cue := by
        unfold State.cueMakes State.dropMakes
        rw [show (s.withMgmt x).settings = s.settings from hx]
        rfl
      rw [runCues_of_due hs hc hd, runCues_of_due (s := s.withMgmt x) hs hc hd, hmakes, State.executeCue_withMgmt s k _ _ _ hx]
      exact ih _ _ (by simpa [State.settings] using hx)

theorem State.cueExecution_withMgmt (s : State) (k : Nat) {x : ManagementUnit} (hx : x.settings = s.settings) :
    (s.withMgmt x).cueExecution k = (s.cueExecution k).withMgmt x := by
  have hslot : (s.withMgmt x).slot k = s.slot k := rfl
  unfold State.cueExecution
  rw [hslot]
  cases s.slot k with
  | none => rfl
  | some p =>
    have hcount : (s.withMgmt x).cueCount p.showNo = s.cueCount p.showNo := rfl
    dsimp only
    rw [hcount, runCues_withMgmt _ k [] s hx]
    exact State.settleHandovers_withMgmt _ _ (by simpa [State.settings] using hx)

/-! ## Lanes -/

theorem State.settleLanes_withMgmt (s : State) (x : ManagementUnit) :
    (s.withMgmt x).settleLanes = s.settleLanes.withMgmt x := by
  classical
  rw [State.settleLanes_statuses, State.settleLanes_statuses]
  rfl

theorem State.placeFrame_withMgmt (s : State) (l : Nat) (f : FixtureFrame) (x : ManagementUnit) :
    (s.withMgmt x).placeFrame l f = (s.placeFrame l f).withMgmt x := by
  have hwaiting : (s.withMgmt x).waitingFrame l = s.waitingFrame l := rfl
  unfold State.placeFrame
  rw [hwaiting]
  cases s.waitingFrame l with
  | none => rfl
  | some w => dsimp only; split <;> rfl

theorem State.toSetup_withMgmt (s : State) (l : Nat) (cold : Bool) {x : ManagementUnit} (hx : x.settings = s.settings) :
    (s.withMgmt x).toSetup l cold = (s.toSetup l cold).withMgmt x := by
  have hattempt : (s.withMgmt x).attempting ((s.withMgmt x).lane l) cold = s.attempting (s.lane l) cold := by
    unfold State.attempting
    rw [show (s.withMgmt x).settings = s.settings from hx]
    rfl
  have hframe : (s.withMgmt x).attemptFrame l ((s.withMgmt x).lane l) = s.attemptFrame l (s.lane l) := by
    unfold State.attemptFrame
    rw [show (s.withMgmt x).settings = s.settings from hx]
    rfl
  rw [State.toSetup_eq, State.toSetup_eq, hattempt, hframe, ← State.settleLanes_withMgmt, ← State.placeFrame_withMgmt]
  rfl

theorem State.wakeResting_withMgmt (s : State) {x : ManagementUnit} (hx : x.settings = s.settings) :
    (s.withMgmt x).wakeResting = s.wakeResting.withMgmt x := by
  refine foldl_withMgmt (fun s l x hx => ?_) (fun s l => by simp [State.settings]) _ s hx
  have hlane : (s.withMgmt x).lane l = s.lane l := rfl
  unfold State.wakeLane
  rw [hlane]
  split
  · exact s.toSetup_withMgmt l true hx
  · rfl

end Sys2Proof.Machine
end

section
/-! SUPPORT. The choice of a slot, and what a start leaves before its first cue (04). -/

namespace Sys2Proof.Machine

/-! ## The choice of a slot -/

/-- Of two slots, the first is the better victim: lower priority, then earlier run start, then lower number (R64). -/
def BetterVictim (b a : Nat × Playback) : Prop :=
  b.2.priority < a.2.priority ∨ (b.2.priority = a.2.priority ∧
    (b.2.runStart < a.2.runStart ∨ (b.2.runStart = a.2.runStart ∧ b.1 < a.1)))

theorem BetterVictim.trans {a b c : Nat × Playback} (h : BetterVictim a b) (h' : BetterVictim b c) : BetterVictim a c := by
  unfold BetterVictim at *
  omega

/-- The slot that a start of a priority may preempt (R64). -/
def State.preemptible (s : State) (priority k : Nat) : Option Playback :=
  (s.slot k).filter fun p => decide (p.priority < priority)

theorem State.preemptible_eq_some_iff (s : State) (priority k : Nat) (p : Playback) :
    s.preemptible priority k = some p ↔ s.slot k = some p ∧ p.priority < priority := by
  rw [State.preemptible, Option.filter_eq_some_iff, decide_eq_true_eq]

theorem State.preemptible_eq_none_iff (s : State) (priority k : Nat) :
    s.preemptible priority k = none ↔ ∀ p, s.slot k = some p → priority ≤ p.priority := by
  rw [State.preemptible, Option.filter_eq_none_iff]
  simp only [decide_eq_true_eq, Nat.not_lt]

theorem weaker_spec {b : Nat × Playback} {k : Nat} {p : Playback} (hlt : b.1 < k) :
    (weaker b (k, p) = b ∧ BetterVictim b (k, p)) ∨ (weaker b (k, p) = (k, p) ∧ BetterVictim (k, p) b) := by
  unfold weaker BetterVictim
  split
  · next h => exact .inr ⟨rfl, by omega⟩
  · next h => exact .inl ⟨rfl, by dsimp only at h ⊢; omega⟩

/-- The search for the victim finds the best of the slots it may preempt (R64). -/
theorem State.victim_spec (s : State) (priority : Nat) :
    (∀ r, s.victim priority = some r → r.1 < 4 ∧ s.preemptible priority r.1 = some r.2 ∧
      ∀ j q, j < 4 → s.preemptible priority j = some q → r = (j, q) ∨ BetterVictim r (j, q)) ∧
    (s.victim priority = none → ∀ j, j < 4 → s.preemptible priority j = none) := by
  have hskip : ∀ best k, s.preemptible priority k = none → s.betterVictim priority best k = best := by
    intro best k h
    unfold State.betterVictim
    cases hs : s.slot k with
    | none => rfl
    | some p =>
      have hp := Nat.not_lt.2 ((s.preemptible_eq_none_iff priority k).1 h p hs)
      cases best with
      | none => exact if_neg hp
      | some b => exact if_neg hp
  have hfirst : ∀ k p, s.preemptible priority k = some p → s.betterVictim priority none k = some (k, p) := by
    intro k p h
    obtain ⟨hs, hp⟩ := (s.preemptible_eq_some_iff priority k p).1 h
    unfold State.betterVictim
    rw [hs]
    exact if_pos hp
  have hchoose : ∀ b k p, s.preemptible priority k = some p → b.1 < k →
      (s.betterVictim priority (some b) k = some b ∧ BetterVictim b (k, p)) ∨
        (s.betterVictim priority (some b) k = some (k, p) ∧ BetterVictim (k, p) b) := by
    intro b k p h hlt
    obtain ⟨hs, hp⟩ := (s.preemptible_eq_some_iff priority k p).1 h
    have hpick : s.betterVictim priority (some b) k = some (weaker b (k, p)) := by
      unfold State.betterVictim
      rw [hs]
      exact if_pos hp
    rw [hpick]
    exact (weaker_spec hlt).imp (fun h => ⟨congrArg some h.1, h.2⟩) fun h => ⟨congrArg some h.1, h.2⟩
  obtain ⟨hsome, hnone⟩ := foldl_pick_spec (better := BetterVictim) BetterVictim.trans hskip hfirst hchoose slotNumbers none
    slotNumbers_pairwise nofun
  refine ⟨fun r hr => ?_, fun hn j hj => (hnone hn).2 j (mem_slotNumbers.2 hj)⟩
  obtain ⟨hmem, _, hall⟩ := hsome r hr
  obtain ⟨hin, hread⟩ := hmem.resolve_left nofun
  exact ⟨mem_slotNumbers.1 hin, hread, fun j q hj hq => hall j (mem_slotNumbers.2 hj) q hq⟩

theorem slotNumbers_eq_range : slotNumbers = List.range 4 := rfl

theorem State.freeSlot_eq_some_iff (s : State) (k : Nat) :
    s.freeSlot = some k ↔ k < 4 ∧ s.slot k = none ∧ ∀ j, j < k → s.slot j ≠ none := by
  unfold State.freeSlot
  rw [slotNumbers_eq_range, List.find?_range_eq_some]
  simp only [Option.isNone_iff_eq_none, List.mem_range, Bool.not_eq_true', Option.isNone_eq_false_iff,
    Option.isSome_iff_ne_none]
  exact ⟨fun ⟨hn, hk, hall⟩ => ⟨hk, hn, hall⟩, fun ⟨hk, hn, hall⟩ => ⟨hn, hk, hall⟩⟩

theorem State.freeSlot_eq_none_iff (s : State) : s.freeSlot = none ↔ ∀ j, j < 4 → s.slot j ≠ none := by
  unfold State.freeSlot
  rw [slotNumbers_eq_range, List.find?_range_eq_none]
  simp only [Bool.not_eq_true', Option.isNone_eq_false_iff, Option.isSome_iff_ne_none]

theorem State.chooseSlot_eq (s : State) (priority : Nat) :
    (∀ k, s.chooseSlot priority = .free k ↔ s.freeSlot = some k) ∧
    (∀ k p, s.chooseSlot priority = .preempt k p ↔ s.freeSlot = none ∧ s.victim priority = some (k, p)) ∧
    (s.chooseSlot priority = .refused ↔ s.freeSlot = none ∧ s.victim priority = none) := by
  unfold State.chooseSlot
  cases s.freeSlot with
  | some k => simp
  | none =>
    cases s.victim priority with
    | some v => simp [Prod.ext_iff]
    | none => simp

/-- The choice of a slot, outcome by outcome (R64, R65). -/
theorem State.chooseSlot_spec (s : State) (priority : Nat) :
    (∀ k, s.chooseSlot priority = .free k ↔ k < 4 ∧ s.slot k = none ∧ ∀ j, j < k → s.slot j ≠ none) ∧
    (∀ k p, s.chooseSlot priority = .preempt k p ↔
      (∀ j, j < 4 → s.slot j ≠ none) ∧ k < 4 ∧ s.slot k = some p ∧ p.priority < priority ∧
        ∀ j q, j < 4 → j ≠ k → s.slot j = some q → q.priority < priority →
          p.priority < q.priority ∨ (p.priority = q.priority ∧
            (p.runStart < q.runStart ∨ (p.runStart = q.runStart ∧ k < j)))) ∧
    (s.chooseSlot priority = .refused ↔ ∀ j, j < 4 → ∃ q, s.slot j = some q ∧ priority ≤ q.priority) := by
  obtain ⟨hfree, hpreempt, hrefused⟩ := s.chooseSlot_eq priority
  obtain ⟨hsome, hnone⟩ := s.victim_spec priority
  refine ⟨fun k => (hfree k).trans (s.freeSlot_eq_some_iff k), fun k p => (hpreempt k p).trans ?_, hrefused.trans ?_⟩
  · rw [s.freeSlot_eq_none_iff]
    refine and_congr_right fun _ => ⟨fun hv => ?_, fun ⟨hk, hs, hp, hall⟩ => ?_⟩
    · obtain ⟨hk, hread, hall⟩ := hsome (k, p) hv
      obtain ⟨hs, hp⟩ := (s.preemptible_eq_some_iff priority k p).1 hread
      exact ⟨hk, hs, hp, fun j q hj hne hq hlow =>
        (hall j q hj ((s.preemptible_eq_some_iff priority j q).2 ⟨hq, hlow⟩)).resolve_left fun he =>
          hne (congrArg Prod.fst he).symm⟩
    · have hread := (s.preemptible_eq_some_iff priority k p).2 ⟨hs, hp⟩
      cases hv : s.victim priority with
      | none => rw [hnone hv k hk] at hread; cases hread
      | some r =>
        obtain ⟨hr, hrread, hbest⟩ := hsome r hv
        obtain he | hbetter := hbest k p hk hread
        · rw [he]
        · obtain ⟨hrs, hrp⟩ := (s.preemptible_eq_some_iff priority r.1 r.2).1 hrread
          by_cases hne : r.1 = k
          · have hsame : r.2 = p := Option.some.inj (hrs.symm.trans (hne ▸ hs))
            exact congrArg some (Prod.ext hne hsame)
          · have hworse := hall r.1 r.2 hr hne hrs hrp
            unfold BetterVictim at hbetter
            dsimp only at hbetter
            omega
  · rw [s.freeSlot_eq_none_iff]
    constructor
    · rintro ⟨hfull, hv⟩ j hj
      obtain ⟨q, hq⟩ := Option.ne_none_iff_exists'.1 (hfull j hj)
      exact ⟨q, hq, (s.preemptible_eq_none_iff priority j).1 (hnone hv j hj) q hq⟩
    · intro hall
      refine ⟨fun j hj => by obtain ⟨q, hq, _⟩ := hall j hj; rw [hq]; nofun, ?_⟩
      by_contra hne
      obtain ⟨r, hr⟩ := Option.ne_none_iff_exists'.1 hne
      obtain ⟨hlt, hread, _⟩ := hsome r hr
      obtain ⟨hs, hp⟩ := (s.preemptible_eq_some_iff priority r.1 r.2).1 hread
      obtain ⟨q, hq, hle⟩ := hall r.1 hlt
      obtain rfl := Option.some.inj (hs.symm.trans hq)
      omega

/-! ## Filling a slot -/

/-- A start in slot k before its first cue (R66, steps 1 to 3). -/
def State.fillSlot (s : State) (k : Nat) (q : StartRequest) : State :=
  let t := (s.setSlot k (some (s.startedSlot q))).slotStarted q.showNo
  (t.withCalendar { t.calendar with restTimer := none }).wakeResting

theorem State.startInSlot_eq (s : State) (k : Nat) (q : StartRequest) : s.startInSlot k q = (s.fillSlot k q).cueExecution k :=
  rfl

theorem State.WakesResting.of_lanes {s s' t : State} (h : s'.WakesResting t) (lanes : s'.lanes = s.lanes)
    (settings : s'.settings = s.settings) : s.WakesResting t := by
  unfold State.WakesResting State.adopted State.lane State.waitingFrame at *
  rw [lanes, settings] at h
  exact h

/-- What filling a slot leaves of each block (R66). -/
theorem State.fillSlot_effect (s : State) (k : Nat) (q : StartRequest) :
    (s.fillSlot k q).playback = (s.setSlot k (some (s.startedSlot q))).playback ∧
    (s.fillSlot k q).cueStore = (s.slotStarted q.showNo).cueStore ∧
    (s.fillSlot k q).calendar = { s.calendar with restTimer := none } ∧ (s.fillSlot k q).mixer = s.mixer ∧
    s.WakesResting (s.fillSlot k q) ∧ (s.fillSlot k q).time = s.time ∧ (s.fillSlot k q).ingress = s.ingress ∧
    (s.fillSlot k q).mgmt = s.mgmt ∧ (s.fillSlot k q).faults = s.faults ∧ (s.fillSlot k q).image = s.image ∧
    (s.fillSlot k q).pending = s.pending ∧ (s.fillSlot k q).freeCount = s.freeCount := by
  have hwakes := State.wakesResting_wakeResting
    (((s.setSlot k (some (s.startedSlot q))).slotStarted q.showNo).withCalendar
      { s.calendar with restTimer := none })
  unfold State.fillSlot
  refine ⟨by simp, ?_, by simp, by simp, hwakes.of_lanes rfl rfl, by simp⟩
  simp only [State.wakeResting_frame]
  rfl

theorem State.slot_of_playback {s t : State} (h : t.playback = s.playback) (k : Nat) : t.slot k = s.slot k := by
  unfold State.slot
  rw [h]

theorem State.showRecord_of_cueStore {s t : State} (h : t.cueStore = s.cueStore) (x : Nat) :
    t.showRecord x = s.showRecord x := by
  unfold State.showRecord
  rw [h]

theorem State.fillSlot_shows (s : State) (k : Nat) (q : StartRequest) (x : Nat) : (s.fillSlot k q).showRecord x =
    { s.showRecord x with playing := (s.showRecord x).playing + (if x = q.showNo then 1 else 0) } := by
  obtain ⟨_, hshows, _⟩ := s.fillSlot_effect k q
  rw [State.showRecord_of_cueStore hshows, State.showRecord_slotStarted]
  split
  · next h => rw [h]
  · rfl

/-- A start in a FREE slot fills it (R66). -/
theorem State.filled_free (s : State) (k : Nat) (q : StartRequest) :
    s.Filled (s.fillSlot k q) k (s.startedSlot q) none := by
  obtain ⟨hplayback, hshows, hcalendar, hmixer, hwakes, htime, hingress, hmgmt, hfaults, himage, hpending, hcount⟩ :=
    s.fillSlot_effect k q
  have hslot := fun j => State.slot_of_playback hplayback j
  obtain ⟨hself, hothers⟩ := s.slot_setSlot_some k (some (s.startedSlot q))
  exact ⟨(hslot k).trans hself, fun j hj => (hslot j).trans (hothers j hj), by rw [hplayback]; rfl, by rw [hplayback]; rfl,
    by rw [hshows]; rfl, fun x => s.fillSlot_shows k q x, hcalendar, hwakes, htime, hingress, hmgmt, hfaults, himage,
    hpending, hcount, by rw [hmixer], by rw [hmixer], fun _ => hmixer, fun h => absurd rfl h⟩

/-- A start in a victim's slot fills it once the victim is released (R64, R66, R75). -/
theorem State.filled_preempted {s : State} {k : Nat} {p : Playback} (hs : s.slot k = some p) (q : StartRequest) :
    s.Filled ((s.release k).fillSlot k q) k (s.startedSlot q) (some p) := by
  obtain ⟨hplayback, hshows, hcalendar, hmixer, hwakes, htime, hingress, hmgmt, hfaults, himage, hpending, hcount⟩ :=
    (s.release k).fillSlot_effect k q
  obtain ⟨rtime, ringress, rlanes, rmgmt, rfaults, rimage, rpending, rcount⟩ := s.release_frame k
  obtain ⟨zones, rmixer⟩ := State.mixer_release hs
  have hstarted : (s.release k).startedSlot q = s.startedSlot q := by
    unfold State.startedSlot State.instant State.now
    rw [rtime]
  have hcounts : (s.release k).playback.duplicateStarts = s.playback.duplicateStarts ∧
      (s.release k).playback.expiredStarts = s.playback.expiredStarts := by
    rw [State.release_eq hs]
    simp [State.setSlot]
  have hzone : ∀ z, ((s.release k).fillSlot k q).zone z = (s.release k).zone z := fun z => by
    unfold State.zone
    rw [hmixer]
  have hslot := fun j => State.slot_of_playback hplayback j
  rw [hstarted] at hslot hplayback
  obtain ⟨hself, hothers⟩ := (s.release k).slot_setSlot_some k (some (s.startedSlot q))
  refine ⟨(hslot k).trans hself, fun j hj => (hslot j).trans ((hothers j hj).trans (s.slot_release hj)),
    by rw [hplayback]; exact hcounts.1, by rw [hplayback]; exact hcounts.2, ?_, fun x => ?_,
    hcalendar.trans (s.release_timeless k), hwakes.of_lanes rlanes (congrArg ManagementUnit.settings rmgmt),
    htime.trans rtime, hingress.trans ringress, hmgmt.trans rmgmt, hfaults.trans rfaults, himage.trans rimage,
    hpending.trans rpending, hcount.trans rcount, by rw [hmixer, rmixer], by rw [hmixer, rmixer], nofun,
    fun _ z hz => ⟨?_, fun j hj => ?_, ?_, fun howned => ⟨?_, fun ho => ?_, fun ho => ?_⟩⟩⟩
  · rw [hshows]
    exact s.cues_release k
  · rw [State.fillSlot_shows, State.showRecord_release hs]
    by_cases hx : x = p.showNo
    · rw [if_pos hx, Option.any_some, if_pos (decide_eq_true hx.symm)]
      rfl
    · rw [if_neg hx, Option.any_some, if_neg (show ¬ decide (p.showNo = x) = true from fun h => hx (of_decide_eq_true h).symm)]
      rfl
  · rw [State.layer_of_zone (hzone z), State.layer_release hs, if_pos ⟨hz, rfl⟩]
  · rw [State.layer_of_zone (hzone z), State.layer_release hs, if_neg fun h => hj h.2]
  · rw [hzone, State.house_release hs]
  · rw [hzone]; exact (State.handover_release hs hz howned).1
  · rw [hzone]; exact ((State.handover_release hs hz howned).2.1 ho).2
  · rw [hzone]; exact ((State.handover_release hs hz howned).2.2 ho).2

/-! ## Starts -/

theorem State.placeStart_of_choice (s : State) (q : StartRequest) :
    (∀ k, s.chooseSlot q.priority = .free k → s.placeStart q = (s.fillSlot k q).cueExecution k) ∧
    (∀ k p, s.chooseSlot q.priority = .preempt k p → s.placeStart q = ((s.release k).fillSlot k q).cueExecution k) ∧
    (s.chooseSlot q.priority = .refused → s.placeStart q = s.recordFault (.noSlot q.origin.subject)) := by
  unfold State.placeStart
  exact ⟨fun k h => by rw [h]; rfl, fun k p h => by rw [h]; rfl, fun h => by rw [h]⟩

theorem State.fillSlot_withMgmt (s : State) (k : Nat) (q : StartRequest) {x : ManagementUnit}
    (hx : x.settings = s.settings) : (s.withMgmt x).fillSlot k q = (s.fillSlot k q).withMgmt x :=
  State.wakeResting_withMgmt (((s.setSlot k (some (s.startedSlot q))).slotStarted q.showNo).withCalendar
    { s.calendar with restTimer := none }) hx

/-- A start leaves in the place reserved for its reply what it would leave without (R66, R167). -/
theorem State.filled_atTake (s : State) (k : Nat) (q : StartRequest) :
    (s.atTake.fillSlot k q).cueExecution k = ((s.fillSlot k q).cueExecution k).withMgmt s.atTake.mgmt ∧
    ((s.atTake.release k).fillSlot k q).cueExecution k =
      (((s.release k).fillSlot k q).cueExecution k).withMgmt s.atTake.mgmt := by
  have hx : s.atTake.mgmt.settings = s.settings := rfl
  have htake : s.atTake = s.withMgmt s.atTake.mgmt := rfl
  have hfilled : ∀ u : State, u.mgmt = s.mgmt →
      ((u.withMgmt s.atTake.mgmt).fillSlot k q).cueExecution k =
        ((u.fillSlot k q).cueExecution k).withMgmt s.atTake.mgmt := by
    intro u hu
    have hset : s.atTake.mgmt.settings = u.settings := by rw [State.settings, hu]; exact hx
    rw [State.fillSlot_withMgmt u k q hset]
    refine State.cueExecution_withMgmt _ k (hset.trans ?_)
    obtain ⟨_, _, _, _, _, _, _, hmgmt, _⟩ := u.fillSlot_effect k q
    rw [State.settings, State.settings, hmgmt]
  refine ⟨hfilled s rfl, ?_⟩
  have hreleased : s.atTake.release k = (s.release k).withMgmt s.atTake.mgmt := by
    conv_lhs => rw [htake]
    exact s.release_withMgmt k hx
  rw [hreleased]
  exact hfilled _ (s.release_frame k).2.2.2.1

/-- A filled slot whose first cue is not due has none to execute yet. -/
theorem State.fillSlot_idle {s : State} {k : Nat} {q : StartRequest} (hlate : q.lateness = 0)
    (h : ∀ c, s.showCue q.showNo 0 = some c → 0 < c.offset) : (s.fillSlot k q).CueIdle k := by
  obtain ⟨hslot, _, _, _, hcues, hshows, _, _, htime, _⟩ := s.filled_free k q
  intro p c hp hc
  obtain rfl := Option.some.inj (hslot.symm.trans hp)
  obtain ⟨_, hc⟩ := (State.nextCue_eq_some_iff ..).1 hc
  rw [(State.showCue_congr (fun x => by rw [hshows]) hcues _ _).1] at hc
  have := h c hc
  unfold Playback.dueInstant State.startedSlot State.instant State.now
  rw [htime, hlate]
  dsimp only
  omega

theorem State.withMgmt_withMgmt (s : State) (x y : ManagementUnit) : (s.withMgmt x).withMgmt y = s.withMgmt y := rfl

/-- The request that START_SHOW makes (R62). -/
def manualStart (sh priority : Nat) : StartRequest := ⟨sh, priority, .manual, 0, none⟩

theorem State.startedSlot_manual (s : State) (sh priority : Nat) : s.startedSlot (manualStart sh priority) =
    ⟨.running, sh, .manual, priority, s.now, 0, 0, none, ⟨s.now, 0, 4096, 4096⟩⟩ := by
  simp [State.startedSlot, manualStart, State.instant]

theorem startShowAnswer_of_ready {s : State} {sh priority : Nat} (hsh : sh ≤ 63) (hp : priority ≤ 7)
    (hready : s.showReady sh = true) : startShowAnswer sh priority s =
      match s.chooseSlot priority with
      | .free k => ⟨.ok, .started k none, s.placeStart (manualStart sh priority), .nothing⟩
      | .preempt k p =>
        ⟨.ok, .started k (some (p.showNo, p.origin)), s.placeStart (manualStart sh priority), .nothing⟩
      | .refused => ⟨.refusedState, .none, s.placeStart (manualStart sh priority), .nothing⟩ := by
  unfold startShowAnswer
  dsimp only
  rw [if_neg (by omega), hready, if_neg (by decide)]
  rfl

/-! ## Calendar starts -/

theorem State.entryPlays_iff (s : State) (e : Nat) :
    s.entryPlays e = true ↔ ∃ k p, k < 4 ∧ s.slot k = some p ∧ p.origin = .entry e := by
  unfold State.entryPlays
  simp only [List.any_eq_true, mem_slotNumbers, Option.any_eq_true, decide_eq_true_eq]
  exact ⟨fun ⟨k, hk, p, hp, ho⟩ => ⟨k, p, hk, hp, ho⟩, fun ⟨k, p, hk, hp, ho⟩ => ⟨k, hk, p, hp, ho⟩⟩

theorem endInstantOf_eq (start : Int) (ms : Nat) (endAt : Option Nat) : endInstantOf start ms endAt =
    endAt.map fun e => if e ≤ ms then start + e + 86400000 - ms else start + e - ms := by
  cases endAt with
  | none => rfl
  | some e =>
    change some (start + ((e : Int) - ms) + if (e : Int) ≤ ms then ((86400000 : Nat) : Int) else 0) =
      some (if e ≤ ms then start + e + 86400000 - ms else start + e - ms)
    refine congrArg some ?_
    split <;> split <;> omega

/-- Settles O29: the choice is a search in slot order, and a start is the filled slot's run of due cues. -/
theorem startShowTakesSlot : Obligations.StartShowTakesSlot := by
  refine ⟨State.chooseSlot_spec, fun h sh priority s ht => ⟨fun hout => ?_, fun hsh hp hready => ?_,
    fun k hsh hp hready hk => ?_, fun k p hsh hp hready hk => ?_, fun hsh hp hready hk => ?_⟩,
    fun s it lateness start fin hstart hfin => ⟨fun hplays => ?_, fun hfree => ⟨fun f hf hle => ?_, fun hlate =>
      ⟨fun k hk => ?_, fun k p hk => ?_, fun hk => ?_⟩⟩⟩⟩
  · exact congrArg Host.Outcome.next (State.request_refuse (owner := startShowAnswer sh priority) ht (if_pos hout))
  · refine congrArg Host.Outcome.next (State.request_refuse (owner := startShowAnswer sh priority) ht ?_)
    unfold startShowAnswer
    dsimp only
    rw [if_neg (by omega), show s.atTake.showReady sh = false from hready]
    rfl
  · have hstarted := s.startedSlot_manual sh priority
    have hfilled := s.filled_free k (manualStart sh priority)
    rw [hstarted] at hfilled
    have hanswer : startShowAnswer sh priority s.atTake = ⟨.ok, .started k none,
        ((s.fillSlot k (manualStart sh priority)).cueExecution k).withMgmt s.atTake.mgmt, .nothing⟩ := by
      rw [startShowAnswer_of_ready (s := s.atTake) hsh hp hready, show s.atTake.chooseSlot priority = .free k from hk,
        ← (s.filled_atTake k (manualStart sh priority)).1,
        ← (s.atTake.placeStart_of_choice (manualStart sh priority)).1 k hk]
    have hidle : (∀ c, s.showCue sh 0 = some c → 0 < c.offset) →
        (s.fillSlot k (manualStart sh priority)).cueExecution k = s.fillSlot k (manualStart sh priority) := fun hdue =>
      State.cueExecution_of_idle (State.fillSlot_idle rfl hdue)
    generalize s.fillSlot k (manualStart sh priority) = u at *
    obtain ⟨hslot, hslots, _, _, _, hshows, hcalendar, hwakes, htime, hingress, hmgmt, hfaults, himage, _⟩ := id hfilled
    refine ⟨(u.cueExecution k).withMgmt _,
      State.next_request_answer ht hanswer (State.withMgmt_mgmt _ _) (State.withMgmt_withMgmt _ _ _), rfl, by simp [htime],
      by simp [hingress], by simp [hfaults], by simp [himage], fun l hl => ?_, fun hdue => ?_, u, u.cueExecution k, hfilled,
      exec_nextCueInstant u k, rfl⟩
    · obtain ⟨hwoken, hkept⟩ := hwakes l hl
      rw [State.lane_withMgmt, show (u.cueExecution k).lane l = u.lane l by simp [State.lane]]
      split
      · next hr => rw [(hwoken hr).1]
      · next hr => rw [(hkept hr).1]
    · rw [hidle hdue]
      refine ⟨hslot, hslots, (hshows sh).trans ?_, fun x hx => (hshows x).trans ?_, hcalendar⟩
      · rw [if_pos rfl]; rfl
      · rw [if_neg hx]; rfl
  · have hstarted := s.startedSlot_manual sh priority
    obtain ⟨_, _, hs, _⟩ := ((s.chooseSlot_spec priority).2.1 k p).1 hk
    have hfilled := State.filled_preempted hs (manualStart sh priority)
    rw [hstarted] at hfilled
    have hanswer : startShowAnswer sh priority s.atTake = ⟨.ok, .started k (some (p.showNo, p.origin)),
        (((s.release k).fillSlot k (manualStart sh priority)).cueExecution k).withMgmt s.atTake.mgmt, .nothing⟩ := by
      rw [startShowAnswer_of_ready (s := s.atTake) hsh hp hready, show s.atTake.chooseSlot priority = .preempt k p from hk,
        ← (s.filled_atTake k (manualStart sh priority)).2,
        ← (s.atTake.placeStart_of_choice (manualStart sh priority)).2.1 k p hk]
    exact ⟨(((s.release k).fillSlot k (manualStart sh priority)).cueExecution k).withMgmt _,
      State.next_request_answer ht hanswer (State.withMgmt_mgmt _ _) (State.withMgmt_withMgmt _ _ _), rfl, _, _, hfilled, exec_nextCueInstant _ k, rfl⟩
  · have hanswer : startShowAnswer sh priority s.atTake =
        ⟨.refusedState, .none, s.atTake.recordFault (.noSlot none), .nothing⟩ := by
      rw [startShowAnswer_of_ready (s := s.atTake) hsh hp hready, show s.atTake.chooseSlot priority = .refused from hk,
        (s.atTake.placeStart_of_choice (manualStart sh priority)).2.2 hk]
      rfl
    have hexec : exec (.startShow h sh priority) s = .next (s.request (.startShow h sh priority) h
        (startShowAnswer sh priority)) := rfl
    rw [hexec, State.request_of_takes ht, hanswer]
    refine ⟨_, rfl, by simp [State.placeReply], by simp [State.placeReply], by simp [State.placeReply],
      by simp [State.placeReply], by simp [State.placeReply], List.getLast?_concat, fun i ho hi => ?_⟩
    exact State.faultRecord_recordFault (s := s.atTake) ho hi
  · exact if_pos ((s.entryPlays_iff it.entry).2 hplays)
  all_goals
    have hplays : s.entryPlays it.entry = false := Bool.eq_false_iff.2 fun hp => by
      obtain ⟨k, p, hk, hs, ho⟩ := (s.entryPlays_iff it.entry).1 hp
      exact hfree k p hk hs ho
    have hend : endInstantOf (s.instant - lateness) it.instant.ms it.endAt = fin := by
      rw [endInstantOf_eq, hfin, hstart]
    unfold State.calendarStart
    rw [hplays, hend]
    dsimp only
    rw [if_neg Bool.false_ne_true]
  · rw [hf, Option.any_some, if_pos (decide_eq_true hle)]
  all_goals
    rw [if_neg (show ¬ fin.any (fun f => decide (f ≤ s.instant)) = true from fun hany => by
      obtain ⟨f, hf, hle⟩ := (Option.any_eq_true ..).1 hany
      exact absurd (of_decide_eq_true hle) (Int.not_le.2 (hlate f hf)))]
  · refine ⟨_, ?_, (exec_nextCueInstant (s.fillSlot k ⟨it.showNo, it.priority, .entry it.entry, lateness, fin⟩) k).trans
      (congrArg Host.Outcome.next ((s.placeStart_of_choice _).1 k hk).symm)⟩
    rw [hstart]
    exact s.filled_free k _
  · obtain ⟨_, _, hs, _⟩ := ((s.chooseSlot_spec it.priority).2.1 k p).1 hk
    refine ⟨_, ?_, (exec_nextCueInstant ((s.release k).fillSlot k
      ⟨it.showNo, it.priority, .entry it.entry, lateness, fin⟩) k).trans
      (congrArg Host.Outcome.next ((s.placeStart_of_choice _).2.1 k p hk).symm)⟩
    rw [hstart]
    exact State.filled_preempted hs _
  · exact (s.placeStart_of_choice ⟨it.showNo, it.priority, .entry it.entry, lateness, fin⟩).2.2 hk

end Sys2Proof.Machine
end

section
/-! SUPPORT. Frames as octets, and the four arrival checks of the show port (07, 12). -/

namespace Sys2Proof.Machine

theorem beNat_pair (l1 l0 : Octet) : beNat [l1, l0] = 256 * l1.toNat + l0.toNat := by
  simp [beNat, Nat.mul_comm]

/-- Octets hold a frame exactly when their number agrees with the header and their last four are the check word (R119). -/
theorem parseFrame_eq_some_iff (os : List Octet) (f : Frame) :
    parseFrame os = some f ↔
      ∃ (c d o l1 l0 : Octet) (rest : List Octet), os = c :: d :: o :: l1 :: l0 :: rest ∧
        os.length = 9 + (256 * l1.toNat + l0.toNat) ∧
        os.drop (os.length - 4) = checkOctets (checkWord (os.take (os.length - 4))) ∧
        f = ⟨c.toNat, d.toNat, o.toNat, rest.take (256 * l1.toNat + l0.toNat)⟩ := by
  constructor
  · intro h
    unfold parseFrame at h
    split at h
    · next c d o l1 l0 rest =>
      rw [beNat_pair] at h
      obtain ⟨⟨hlen, hcheck⟩, hf⟩ := Option.ite_none_right_eq_some.1 h
      refine ⟨c, d, o, l1, l0, rest, rfl, hlen, ?_, (Option.some.inj hf).symm⟩
      rw [show (c :: d :: o :: l1 :: l0 :: rest).length - 4 = 5 + (256 * l1.toNat + l0.toNat) by omega]
      exact hcheck.symm
    · exact absurd h nofun
  · rintro ⟨c, d, o, l1, l0, rest, rfl, hlen, hcheck, rfl⟩
    rw [show (c :: d :: o :: l1 :: l0 :: rest).length - 4 = 5 + (256 * l1.toNat + l0.toNat) by omega] at hcheck
    unfold parseFrame
    dsimp only
    rw [beNat_pair]
    exact if_pos ⟨hlen, hcheck.symm⟩

/-- The check word takes one more octet into the register that it shows inverted (R200). -/
theorem checkWord_append (os : List Octet) (o : Octet) :
    checkWord (os ++ [o]) = ~~~ crcOctet (~~~ checkWord os) o := by
  simp only [checkWord, List.foldl_append, List.foldl_cons, List.foldl_nil, BitVec.not_not]

theorem extractOctet_eq (w : CheckWord) (k : Nat) :
    w.extractLsb' (8 * k) 8 = BitVec.ofNat 8 (w.toNat / 256 ^ k) := by
  apply BitVec.eq_of_toNat_eq
  rw [BitVec.extractLsb'_toNat, BitVec.toNat_ofNat, Nat.shiftRight_eq_div_pow, Nat.pow_mul]

/-- The check word is sent least significant octet first (R200). -/
theorem checkOctets_getElem? (w : CheckWord) {i : Nat} (h : i < 4) :
    (checkOctets w)[i]? = some (BitVec.ofNat 8 (w.toNat / 256 ^ i)) := by
  rw [← extractOctet_eq]
  match i, h with
  | 0, _ => rfl
  | 1, _ => rfl
  | 2, _ => rfl
  | 3, _ => rfl

theorem State.arrive_of_bad (s : State) {os : List Octet} (h : parseFrame os = none) : s.arrive os = s.badFrame := by
  rw [State.arrive, h]

theorem State.arrive_of_frame (s : State) {os : List Octet} {f : Frame} (h : parseFrame os = some f) :
    s.arrive os =
      if 820 < os.length then s.count (fun c => { c with oversize := satInc 65535 c.oversize })
      else if ¬ (f.dest = s.settings.nodeAddress ∨ f.dest = 255) then
        s.count (fun c => { c with notMine := satInc 65535 c.notMine })
      else if 12 ≤ s.ingress.queue.length then s.queueFull
      else s.withIngress { s.ingress with queue := s.ingress.queue ++ [f] } := by
  rw [State.arrive, h]

/-- Settles O38, check by check. -/
theorem arrivalChecksInOrder : Obligations.ArrivalChecksInOrder := by
  unfold Obligations.ArrivalChecksInOrder
  refine ⟨parseFrame_eq_some_iff, fun os o w i => ⟨rfl, checkWord_append os o, rfl, rfl, checkOctets_getElem? w⟩,
    fun os s => ⟨?_, ?_, ?_, ?_⟩⟩
  · intro hbad
    refine ⟨fun hcount => ?_, fun hcount => ?_⟩ <;> refine congrArg Host.Outcome.next ((s.arrive_of_bad hbad).trans ?_) <;>
      unfold State.badFrame
    · exact if_neg hcount
    · rw [if_pos hcount, State.count, hcount]
      rfl
  · intro f hf hlen
    exact congrArg Host.Outcome.next ((s.arrive_of_frame hf).trans (if_pos hlen))
  · intro f hf hlen hnode hall
    refine congrArg Host.Outcome.next ((s.arrive_of_frame hf).trans ?_)
    rw [if_neg (Nat.not_lt.2 hlen), if_pos (not_or.2 ⟨hnode, hall⟩)]
    rfl
  · intro f hf hlen hdest
    have hpassed := s.arrive_of_frame hf
    rw [if_neg (Nat.not_lt.2 hlen), if_neg (not_not.2 hdest)] at hpassed
    refine ⟨fun hfull hcount => ?_, fun hfull hcount => ?_, fun hroom => ?_⟩ <;>
      refine congrArg Host.Outcome.next (hpassed.trans ?_)
    · rw [if_pos hfull]
      exact if_neg hcount
    · rw [if_pos hfull, State.queueFull, if_pos hcount, State.count, hcount]
      rfl
    · exact if_neg (Nat.not_le.2 hroom)

end Sys2Proof.Machine
end

section
/-! SUPPORT. The live store, and the layers at the loss and the return of a source (05, 07). -/

namespace Sys2Proof.Machine

/-! ## Layers at a loss and at a return -/

/-- A change of every layer leaves the rest of a zone (R97, R98). -/
theorem State.zone_mapLayers {s : State} (h : s.ZonesOwned) (f : Nat → Layer → Layer) (z : Nat) :
    ((s.mapLayers f).zone z).owner = (s.zone z).owner ∧ ((s.mapLayers f).zone z).handover = (s.zone z).handover ∧
      ((s.mapLayers f).zone z).house = (s.zone z).house := by
  have hzone : (s.mapLayers f).zone z =
      { s.zone z with layers := Table.mapVals none (fun _ (l : Option Layer) => l.map (f z)) (s.zone z).layers } :=
    Table.read_mapVals Zone.blank Zone.blank
      (fun z r => { r with layers := Table.mapVals none (fun _ (l : Option Layer) => l.map (f z)) r.layers }) _ z h.1 rfl
  rw [hzone]
  exact ⟨rfl, rfl, rfl⟩

theorem State.lossLayer_of_fallback (s : State) {i : Nat} {d : Int} {z : Nat} {l : Layer} {fallback : Look} {fade : Nat}
    (h : l.mode = .follow i .toFallback fallback fade .tracking) :
    s.lossLayer i d z l = { l with
      mode := .follow i .toFallback fallback fade .fallen, fadeFrom := s.layerValue z l d, fadeStart := d
      fadeDuration := fade } := by
  unfold State.lossLayer
  rw [h]
  exact if_pos rfl

theorem State.lossLayer_of_other (s : State) {i : Nat} {d : Int} {z : Nat} {l : Layer}
    (h : ∀ fallback fade, l.mode ≠ .follow i .toFallback fallback fade .tracking) : s.lossLayer i d z l = l := by
  unfold State.lossLayer
  split
  · next src fallback fade hmode =>
    refine if_neg ?_
    rintro rfl
    exact h _ _ hmode
  · rfl

theorem State.returnLayer_of_follow (s : State) {i : Nat} {d : Int} {z : Nat} {l : Layer} {policy : LossPolicy}
    {fallback : Look} {fade : Nat} {sub : Substate} (h : l.mode = .follow i policy fallback fade sub) :
    s.returnLayer i d z l = if sub = .fallen ∨ policy = .holdLast then
      { l with
        mode := .follow i policy fallback fade .tracking, fadeFrom := s.layerValue z l d, fadeStart := d
        fadeDuration := fade } else l := by
  unfold State.returnLayer
  rw [h]
  simp only [true_and]

theorem State.returnLayer_of_other (s : State) {i : Nat} {d : Int} {z : Nat} {l : Layer}
    (h : ∀ policy fallback fade sub, l.mode ≠ .follow i policy fallback fade sub) : s.returnLayer i d z l = l := by
  unfold State.returnLayer
  split
  · next src policy fallback fade sub hmode =>
    refine if_neg ?_
    rintro ⟨rfl, _⟩
    exact h _ _ _ _ hmode
  · rfl

/-- The loss of a source, in every zone (R97). -/
theorem State.sourceLoss_layersFall {s : State} (h : s.ZonesOwned) (i : Nat) :
    s.LayersFall (s.sourceLoss i) fun j => j = i := by
  refine ⟨State.zone_mapLayers h _, fun k z hl => ?_, fun k z l j fallback fade hl hmode hj => ?_,
    fun k z l hl hother => ?_⟩ <;> rw [State.sourceLoss, State.layer_mapLayers h, hl]
  · rfl
  · subst hj
    exact congrArg some (s.lossLayer_of_fallback hmode)
  · exact congrArg some (s.lossLayer_of_other fun fallback fade hmode => hother i fallback fade hmode rfl)

theorem State.LayersFall.congr {s t u : State} {lost : Nat → Prop} (h : s.LayersFall t lost)
    (zones : u.mixer.zones = t.mixer.zones) : s.LayersFall u lost := by
  have hzone : ∀ z, u.zone z = t.zone z := fun z => by unfold State.zone; rw [zones]
  unfold State.LayersFall State.layer at *
  simp only [hzone]
  exact h

/-- A loss looks at the zones, the live store, the patch in use and the instant (R97). -/
theorem State.mixer_sourceLoss_congr {s u : State} (mixer : u.mixer = s.mixer) (time : u.time = s.time)
    (value : ∀ z l d, u.layerValue z l d = s.layerValue z l d) (i : Nat) :
    (u.sourceLoss i).mixer = (s.sourceLoss i).mixer := by
  have hlayer : u.lossLayer i = s.lossLayer i := by
    funext d z l
    unfold State.lossLayer
    simp only [value]
  simp only [State.sourceLoss, State.mapLayers, State.withMixer_mixer, hlayer, mixer, State.now, time]

theorem State.layerValue_setSource (s : State) (i : Nat) (x : Source) (z : Nat) (l : Layer) (d : Int) :
    (s.setSource i x).layerValue z l d = s.layerValue z l d := rfl

/-! ## The live store -/

theorem liveIndex_inj {i j y z : Nat} (hy : y < 240) (hz : z < 240) (h : liveIndex i y = liveIndex j z) :
    i = j ∧ y = z := by
  unfold liveIndex at h
  omega

/-- A look with the level that a frame carries for one component, if any (R127). -/
def carry (l : Look) (c : Component) (level : Option Nat) : Look :=
  match level with
  | some x => l.setComp x c
  | none => l

theorem comp_carry (l : Look) (c d : Component) (level : Option Nat) :
    (carry l c level).comp d = if d = c then level.getD (l.comp d) else l.comp d := by
  cases level with
  | none => exact (ite_self _).symm
  | some x => cases c <;> cases d <;> rfl

/-- The look of one zone of an entry with the levels that a frame carries for it (R127, R133). -/
def InputEntry.carried (e : InputEntry) (v : LevelFields) (k : Nat) (l : Look) : Look :=
  [0, 1, 2].foldl (fun l j => carry l (e.order.comp j) (v.level (e.firstChannel + 3 * k + j))) l

theorem InputEntry.comp_carried (e : InputEntry) (v : LevelFields) (k : Nat) (l : Look) {j : Nat} (hj : j < 3) :
    (e.carried v k l).comp (e.order.comp j) =
      (v.level (e.firstChannel + 3 * k + j)).getD (l.comp (e.order.comp j)) := by
  unfold InputEntry.carried
  generalize e.order = order
  simp only [List.foldl_cons, List.foldl_nil, comp_carry]
  match j, hj with
  | 0, _ => cases order <;> rfl
  | 1, _ => cases order <;> rfl
  | 2, _ => cases order <;> rfl

theorem read_storeZone (v : LevelFields) (e : InputEntry) (live : Table Look) (k idx : Nat) :
    Table.read .black (storeZone v e live k) idx =
      if idx = liveIndex e.source (e.zoneFirst + k) then e.carried v k (Table.read .black live idx)
      else Table.read .black live idx := by
  unfold storeZone
  dsimp only
  rw [Table.read_write]
  split
  · next h => rw [h]; rfl
  · rfl

/-- The store through one entry changes the zones that the entry covers, each once (R127). -/
theorem read_storeEntry (v : LevelFields) (e : InputEntry) (live : Table Look) (he : e.zoneFirst + e.zoneCount ≤ 240)
    (i : Nat) {y : Nat} (hy : y < 240) :
    Table.read .black (storeEntry v live e) (liveIndex i y) =
      if i = e.source ∧ e.zoneFirst ≤ y ∧ y < e.zoneFirst + e.zoneCount then
        e.carried v (y - e.zoneFirst) (Table.read .black live (liveIndex i y))
      else Table.read .black live (liveIndex i y) := by
  unfold storeEntry
  generalize e.zoneCount = n at he
  induction n with
  | zero => exact (if_neg (by omega)).symm
  | succ n ih =>
    rw [List.range_succ, List.foldl_append, List.foldl_cons, List.foldl_nil, read_storeZone, ih (by omega)]
    by_cases hat : liveIndex i y = liveIndex e.source (e.zoneFirst + n)
    · obtain ⟨rfl, rfl⟩ := liveIndex_inj hy (by omega) hat
      rw [if_pos hat, if_neg (by omega), if_pos (by omega), Nat.add_sub_cancel_left]
    · have hne : ¬ (i = e.source ∧ y = e.zoneFirst + n) := fun ⟨hi, hn⟩ => hat (by rw [hi, hn])
      rw [if_neg hat]
      exact if_congr (by omega) rfl rfl

end Sys2Proof.Machine
end

section
/-! SUPPORT. LEVEL_FRAME_COMPLETION, LIVENESS_TIMER_EXPIRY, WRITE_SOURCE and FORGET_SEQUENCE (07). -/

namespace Sys2Proof.Machine

/-! ## The write of a LEVEL frame -/

/-- A zone that no entry covers keeps its look (R127). -/
theorem read_storeEntries_of_apart (v : LevelFields) (i : Nat) {y : Nat} (hy : y < 240) (es : List InputEntry)
    (hes : ∀ e ∈ es, e.zoneFirst + e.zoneCount ≤ 240 ∧
      ¬ (i = e.source ∧ e.zoneFirst ≤ y ∧ y < e.zoneFirst + e.zoneCount)) (live : Table Look) :
    Table.read .black (es.foldl (storeEntry v) live) (liveIndex i y) = Table.read .black live (liveIndex i y) := by
  induction es generalizing live with
  | nil => rfl
  | cons e es ih =>
    obtain ⟨hbound, hapart⟩ := hes e (.head _)
    rw [List.foldl_cons, ih (fun e he => hes e (.tail _ he)), read_storeEntry v e live hbound i hy, if_neg hapart]

/-- A zone that one entry covers alone takes each of its levels, and keeps the components without one (R127, R133). -/
theorem comp_storeEntries (v : LevelFields) (p : InputEntry) {y j : Nat} (hy : y < 240) (hj : j < 3)
    (hfirst : p.zoneFirst ≤ y) (hlast : y < p.zoneFirst + p.zoneCount) (es : List InputEntry)
    (hes : ∀ e ∈ es, e.zoneFirst + e.zoneCount ≤ 240 ∧
      (e = p ∨ ¬ (p.source = e.source ∧ e.zoneFirst ≤ y ∧ y < e.zoneFirst + e.zoneCount))) (live : Table Look) :
    (Table.read .black (es.foldl (storeEntry v) live) (liveIndex p.source y)).comp (p.order.comp j) =
      if p ∈ es then
        (v.level (p.firstChannel + 3 * (y - p.zoneFirst) + j)).getD
          ((Table.read .black live (liveIndex p.source y)).comp (p.order.comp j))
      else (Table.read .black live (liveIndex p.source y)).comp (p.order.comp j) := by
  induction es generalizing live with
  | nil => rfl
  | cons e es ih =>
    obtain ⟨hbound, hkind⟩ := hes e (.head _)
    rw [List.foldl_cons, ih (fun e he => hes e (.tail _ he)), read_storeEntry v e live hbound _ hy]
    by_cases he : e = p
    · subst he
      rw [if_pos (c := e.source = e.source ∧ _) ⟨rfl, hfirst, hlast⟩, InputEntry.comp_carried e v _ _ hj,
        if_pos (List.mem_cons_self (a := e) (l := es))]
      generalize v.level _ = level
      cases level <;> exact ite_self _
    · rw [if_neg (hkind.resolve_left he)]
      exact if_congr (by simp [List.mem_cons, Ne.symm he]) rfl rfl

theorem mem_entriesFor {bank : Table InputEntry} {source lane : Nat} {e : InputEntry} :
    e ∈ entriesFor bank source lane ↔
      ∃ k, (k, e) ∈ bank ∧ e.present = true ∧ e.source = source ∧ e.sourceLane = lane := by
  simp [entriesFor, and_assoc]

/-- The zones once the return of a source that answers a frame has been taken (R98, R128). -/
def State.returnedZones (s : State) (i origin : Nat) : Table Zone :=
  if (s.source i).answers origin && decide ((s.source i).state = .lost) then (s.sourceReturn i).mixer.zones
  else s.mixer.zones

/-- What a LEVEL frame leaves: the zones, the live store, the source's record, and an idle processor (R127, R128). -/
theorem State.completeLevel_idle (s : State) (i origin : Nat) (bank : BankNo) (v : LevelFields) :
    (s.completeLevel i origin bank v).idleIngress =
      (s.withMixer { s.mixer with
        zones := s.returnedZones i origin
        live := (entriesFor (s.inputBank bank) i v.lane).foldl (storeEntry v) s.mixer.live }).withIngress
        { s.ingress.released with
          sources := Table.write .blank s.ingress.sources i (s.acceptedSource (s.source i) origin v) } := by
  rw [State.idleIngress_eq]
  unfold State.completeLevel State.returnedZones
  dsimp only
  cases (s.source i).answers origin && decide ((s.source i).state = .lost)
  · cases bank <;> rfl
  · cases bank <;> rfl

theorem exec_levelFrameCompletion {s : State} {f : Frame} {i origin taken : Nat} {en : Bool} {bank : BankNo}
    {v : LevelFields} (hp : s.ingress.processing = some ⟨f, .level i en origin bank, taken⟩) (ht : taken < s.now)
    (hv : levelFields f.payload = some v) :
    exec .levelFrameCompletion s = .next (s.completeLevel i origin bank v).idleIngress := by
  change execLevelFrameCompletion s = _
  unfold execLevelFrameCompletion
  rw [hp]
  dsimp only
  rw [hv]
  exact congrArg Host.Outcome.next (if_pos ht)

theorem State.acceptedSource_eq (s : State) (x : Source) (origin : Nat) (v : LevelFields) :
    s.acceptedSource x origin v =
      { x with
        accepted := wrapInc x.accepted
        sequences := if x.origin = origin then Table.write none x.sequences v.lane (some v.sequence) else x.sequences
        timer := if x.enabled = true ∧ x.origin = origin then some (s.now + x.lossTime) else x.timer
        state := if x.enabled = true ∧ x.origin = origin then .live else x.state } := by
  unfold State.acceptedSource Source.answers
  by_cases h : x.enabled = true ∧ x.origin = origin
  · simp [h]
  · rw [if_neg h, if_neg h, if_neg (by simpa using h)]

/-- Settles O40. -/
theorem levelFrameWritesLiveStore : Obligations.LevelFrameWritesLiveStore := by
  unfold Obligations.LevelFrameWritesLiveStore
  intro s f i origin taken en bank v hp ht hv hbank
  refine ⟨_, exec_levelFrameCompletion hp ht hv, ?_⟩
  rw [State.completeLevel_idle, State.acceptedSource_eq]
  have hsource : ∀ j x, Table.read Source.blank (Table.write .blank s.ingress.sources i x) j =
      if j = i then x else s.source j := fun j x => Table.read_write Source.blank s.ingress.sources i j x
  have hentry : ∀ e ∈ entriesFor (s.inputBank bank) i v.lane, e.source = i ∧ e.zoneFirst + e.zoneCount ≤ 240 := by
    intro e he
    obtain ⟨k, hk, hpresent, hi, _⟩ := mem_entriesFor.1 he
    exact ⟨hi, hbank _ hk hpresent⟩
  refine ⟨rfl, rfl, fun j hj => (hsource j _).trans (if_neg hj), (hsource i _).trans (if_pos rfl), rfl, fun hlost => ?_,
    fun j y hj hy => ?_, fun y hy hapart => ?_, fun p y j hpin hpresent hi hlane hfirst hlast hj halone => ?_⟩
  · exact if_neg (by simp [hlost])
  · refine read_storeEntries_of_apart v j hy _ (fun e he => ?_) _
    obtain ⟨hi, hbound⟩ := hentry e he
    exact ⟨hbound, fun h => hj (h.1.trans hi)⟩
  · refine read_storeEntries_of_apart v i hy _ (fun e he => ⟨(hentry e he).2, ?_⟩) _
    obtain ⟨k, hk, hpresent, hi, hlane⟩ := mem_entriesFor.1 he
    have := hapart _ hk hpresent hi hlane
    dsimp only at this
    omega
  · obtain ⟨k, p⟩ := p
    subst hi
    have hy : y < 240 := hlast.trans_le (hbank _ hpin hpresent)
    have hes : ∀ e ∈ entriesFor (s.inputBank bank) p.source v.lane, e.zoneFirst + e.zoneCount ≤ 240 ∧
        (e = p ∨ ¬ (p.source = e.source ∧ e.zoneFirst ≤ y ∧ y < e.zoneFirst + e.zoneCount)) := by
      intro e he
      refine ⟨(hentry e he).2, or_iff_not_imp_left.2 fun hne => ?_⟩
      obtain ⟨m, hm, hpresent', hi, hlane'⟩ := mem_entriesFor.1 he
      have := halone _ hm (fun h => hne (congrArg Prod.snd h)) hpresent' hi hlane'
      dsimp only at this
      omega
    have hmem : p ∈ entriesFor (s.inputBank bank) p.source v.lane := mem_entriesFor.2 ⟨k, hpin, hpresent, rfl, hlane⟩
    have hcomp := comp_storeEntries v p hy hj hfirst hlast _ hes s.mixer.live
    rw [if_pos hmem] at hcomp
    refine hcomp.trans ?_
    dsimp only
    generalize v.level _ = level
    cases level <;> rfl

/-! ## Sources lost and regained -/

/-- Settles O41: both are one change of every layer, at the instant of the command. -/
theorem sourceLossAndReturn : Obligations.SourceLossAndReturn := by
  unfold Obligations.SourceLossAndReturn
  refine ⟨fun s i e howned htimer hdue => ?_, fun s f i taken en bank v howned hp ht hv henabled hlost => ?_⟩
  · have hexec : exec (.livenessTimerExpiry i) s = .next (s.loseSource i) :=
      congrArg Host.Outcome.next (if_pos (by rw [htimer]; exact decide_eq_true hdue))
    refine ⟨_, hexec, ?_⟩
    unfold State.loseSource
    generalize hx : ({ s.source i with state := .lost, timer := none } : Source) = x
    have hvalue : ∀ z l d, ((s.setSource i x).recordFault (.sourceLost i)).layerValue z l d = s.layerValue z l d :=
      fun z l d => (State.layerValue_congr (by simp) (by simp) z l d).trans (s.layerValue_setSource i x z l d)
    have hmixer := State.mixer_sourceLoss_congr (s := s) (by simp) (by simp) hvalue i
    have hrecord : ∀ r, s.faults.overflow = false → s.freeFaultRecord = some r →
        ((s.setSource i x).recordFault (.sourceLost i)).faultRecord r = some ⟨.sourceLost i, s.now, s.towerTime⟩ :=
      fun r ho hf => State.faultRecord_recordFault (s := s.setSource i x) (k := .sourceLost i) ho hf
    have hsource : ∀ j, ((s.setSource i x).recordFault (.sourceLost i)).source j = if j = i then x else s.source j := by
      intro j
      rw [← State.source_setSource, State.source, State.source]
      simp
    have htime : ((s.setSource i x).recordFault (.sourceLost i)).time = s.time := by simp
    have hplayback : ((s.setSource i x).recordFault (.sourceLost i)).playback = s.playback := by simp
    have hlanes : ((s.setSource i x).recordFault (.sourceLost i)).lanes = s.lanes := by simp
    generalize (s.setSource i x).recordFault (.sourceLost i) = u at *
    obtain ⟨hzones, hnone, hfall, hother⟩ := (State.sourceLoss_layersFall howned i).congr
      (u := u.sourceLoss i) (congrArg ZoneMixer.zones hmixer)
    subst hx
    refine ⟨htime, hplayback, hlanes, (hsource i).trans (if_pos rfl), fun j hj => (hsource j).trans (if_neg hj), hrecord,
      (congrArg ZoneMixer.live hmixer).trans rfl, (congrArg ZoneMixer.bands hmixer).trans rfl, hzones, hnone,
      fun k z l fallback fade hl hmode => hfall k z l i fallback fade hl hmode rfl, fun k z l hl hmode =>
        hother k z l hl fun j fallback fade hj hji => hmode fallback fade (hji ▸ hj)⟩
  · refine ⟨_, exec_levelFrameCompletion hp ht hv, ?_⟩
    rw [State.completeLevel_idle, State.acceptedSource_eq]
    have hzones : s.returnedZones i (s.source i).origin = (s.sourceReturn i).mixer.zones :=
      if_pos (by simp [Source.answers, henabled, hlost])
    rw [hzones]
    have hlayer : ∀ k z, (s.sourceReturn i).layer k z = (s.layer k z).map (s.returnLayer i s.now z) :=
      State.layer_mapLayers howned _
    refine ⟨?_, State.zone_mapLayers howned _, fun k z hl => ?_, fun k z l policy fallback fade sub hl hmode => ?_,
      fun k z l hl hmode => ?_⟩
    · refine (congrArg Source.state (Table.read_write Source.blank s.ingress.sources i i _)).trans ?_
      rw [if_pos rfl]
      exact if_pos ⟨henabled, rfl⟩
    · exact (hlayer k z).trans (by rw [hl]; rfl)
    · exact (hlayer k z).trans (by rw [hl]; exact congrArg some (s.returnLayer_of_follow hmode))
    · exact (hlayer k z).trans (by rw [hl]; exact congrArg some (s.returnLayer_of_other hmode))

/-! ## The configuration of a source -/

theorem Source.written_eq (x : Source) (v : Bool) (origin loss : Nat) :
    x.written v origin loss = { x with
      enabled := v, origin := origin, lossTime := loss
      sequences := if x.origin = origin then x.sequences else []
      state := if x.enabled = v then x.state else .idle
      timer := if x.enabled = v then x.timer else none } := by
  unfold Source.written
  by_cases h : x.enabled = v
  · simp [h]
  · simp [h]

/-- WRITE_SOURCE sends a loss exactly when it disables a LIVE source (R131). -/
theorem State.writeSourceEntry_eq (s : State) (i : Nat) (v : Bool) (origin loss : Nat) :
    s.writeSourceEntry i v origin loss =
      if (s.source i).enabled = true ∧ v = false ∧ (s.source i).state = .live then
        (s.setSource i ((s.source i).written v origin loss)).sourceLoss i
      else s.setSource i ((s.source i).written v origin loss) := by
  unfold State.writeSourceEntry State.lossIfLive
  dsimp only
  cases (s.source i).enabled <;> cases v <;> simp

/-- Settles O42. -/
theorem sourceWritesConfigure : Obligations.SourceWritesConfigure := by
  unfold Obligations.SourceWritesConfigure
  refine ⟨fun h i on origin loss s ht => ⟨fun hout => ?_, fun v hon hi horigin => ?_⟩,
    fun h i s ht => ⟨fun hout => ?_, fun hi => ?_⟩⟩
  · refine congrArg Host.Outcome.next (State.request_refuse (owner := writeSourceAnswer i on origin loss) ht ?_)
    unfold writeSourceAnswer
    cases on with
    | none => rfl
    | some v => exact if_pos (hout.imp_right fun h => h.resolve_left nofun)
  · subst hon
    have hanswer : writeSourceAnswer i (some v) origin loss s.atTake =
        (s.atTake.writeSourceEntry i v origin (max 100 (min loss 10000))).answerClamped (clamps 100 10000 loss) := by
      rw [← clamp_eq (by decide)]
      exact if_neg (by omega)
    have hverdict : okOrAdjusted (clamps 100 10000 loss) = if loss < 100 ∨ 10000 < loss then .adjusted else .ok := by
      refine if_congr ?_ rfl rfl
      rw [← not_iff_not, Bool.not_eq_true, clamps_eq_false_iff]
      omega
    rw [State.writeSourceEntry_eq] at hanswer
    change _ = Answer.mk (okOrAdjusted (clamps 100 10000 loss)) .none _ .nothing at hanswer
    rw [hverdict] at hanswer
    have hwritten := (s.source i).written_eq v origin (max 100 (min loss 10000))
    have hsource : ∀ j x, Table.read Source.blank (Table.write .blank s.ingress.sources i x) j =
        if j = i then x else s.source j := fun j x => Table.read_write Source.blank s.ingress.sources i j x
    by_cases hlive : (s.atTake.source i).enabled = true ∧ v = false ∧ (s.atTake.source i).state = .live
    · rw [if_pos hlive] at hanswer
      have htaken := State.next_request_answer ht hanswer rfl rfl
      have hmixer : ((s.atTake.setSource i ((s.atTake.source i).written v origin (max 100 (min loss 10000)))).sourceLoss
          i).mixer = (s.sourceLoss i).mixer :=
        State.mixer_sourceLoss_congr (s := s) rfl rfl (fun _ _ _ => rfl) i
      refine ⟨_, htaken, rfl, ((hsource i _).trans (if_pos rfl)).trans hwritten, fun j hj => (hsource j _).trans (if_neg hj),
        fun hno => absurd hlive hno, fun _ _ _ => hmixer, fun _ _ _ howned => ?_⟩
      exact ⟨(congrArg ZoneMixer.live hmixer).trans rfl, (congrArg ZoneMixer.bands hmixer).trans rfl,
        (State.sourceLoss_layersFall howned i).congr (congrArg ZoneMixer.zones hmixer)⟩
    · rw [if_neg hlive] at hanswer
      exact ⟨_, State.next_request_answer ht hanswer rfl rfl, rfl, ((hsource i _).trans (if_pos rfl)).trans hwritten, fun j hj => (hsource j _).trans (if_neg hj),
        fun _ => rfl, fun he hv hl => absurd ⟨he, hv, hl⟩ hlive, fun he hv hl => absurd ⟨he, hv, hl⟩ hlive⟩
  · exact congrArg Host.Outcome.next (State.request_refuse (owner := forgetSequenceAnswer i) ht (if_pos hout))
  · exact State.next_request_answer ht (owner := forgetSequenceAnswer i) (if_neg (Nat.not_lt.2 hi)) rfl rfl

end Sys2Proof.Machine
end

section
/-! SUPPORT. SAVE_IMAGE, the end of its write, the snapshot, and CLEAR_RESET_CAUSE (11). -/

namespace Sys2Proof.Machine

/-! ## The snapshot -/

/-- The cue memory of a READY show is in the snapshot (R192). -/
theorem State.inReadyShow_of_run {s : State} {sh base count i : Nat} (h : (s.showRecord sh).state = .ready base count)
    (hlo : base ≤ i) (hhi : i < base + count) : s.inReadyShow i = true := by
  have hlisted : (sh, s.showRecord sh) ∈ s.cueStore.shows :=
    Table.mem_of_read fun hblank => by
      rw [State.showRecord, hblank] at h
      cases h
  refine List.any_eq_true.2 ⟨_, hlisted, ?_⟩
  simp [h, ShowState.readyRun, inRun, hlo, hhi]

/-- A snapshot holds what the image has of each table (R192). -/
theorem State.snapshot_reads {s : State} (h : s.Canonical) :
    (∀ i, Table.read .blank s.snapshot.entries i = { s.entry i with lastFired := none }) ∧
      (∀ sh, Table.read .blank s.snapshot.shows sh = (s.showRecord sh).saved) ∧
      (∀ i, Table.read .blank s.snapshot.sources i = (s.source i).config) ∧
      (∀ l, Table.read .blank s.snapshot.lanes l = (s.lane l).config) ∧
      (∀ z, Table.read .black s.snapshot.houseLooks z = (s.zone z).house) := by
  obtain ⟨hentries, hshows, _, _, ⟨hzones, _⟩, _, _, ⟨hsources, _⟩, _, _, hlanes, _⟩ := h
  exact ⟨fun i => Table.read_mapVals CalendarEntry.blank .blank (fun _ e => e.saved) _ i hentries rfl,
    fun sh => Table.read_mapVals ShowRecord.blank .blank (fun _ r => r.saved) _ sh hshows rfl,
    fun i => Table.read_mapVals Source.blank .blank (fun _ x => x.config) _ i hsources rfl,
    fun l => Table.read_mapVals Lane.blank .blank (fun _ r => r.config) _ l hlanes rfl,
    fun z => Table.read_mapVals Zone.blank .black (fun _ z => z.house) _ z hzones rfl⟩

/-! ## Saving -/

theorem exec_imageWriteEnd {s : State} {img : Image} {begun : Nat} (h : s.image.state = .saving img begun)
    (hbegun : begun < s.now) (agrees : Bool) : exec (.imageWriteEnd agrees) s = .next (s.endSave img agrees) := by
  change execImageWriteEnd agrees s = _
  unfold execImageWriteEnd
  rw [h]
  exact congrArg Host.Outcome.next (if_pos hbegun)

/-- Settles O14. -/
theorem saveImageWritesSnapshot : Obligations.SaveImageWritesSnapshot := by
  unfold Obligations.SaveImageWritesSnapshot
  refine ⟨⟨⟨fun h s ht hidle => ?_, fun h s ht hsaving => ?_, fun s img begun hs hbegun => ?_⟩,
    fun h m s ht => ⟨fun hout => ?_, fun hm => ?_⟩⟩, fun s hc => ?_⟩
  · exact State.next_request_answer ht (owner := saveImageAnswer)
      (if_neg (by rw [show s.atTake.image.state = s.image.state from rfl, hidle]; exact Bool.false_ne_true)) rfl rfl
  · exact congrArg Host.Outcome.next (State.request_refuse (owner := saveImageAnswer) ht (if_pos hsaving))
  · exact ⟨exec_imageWriteEnd hs hbegun true, exec_imageWriteEnd hs hbegun false⟩
  · exact congrArg Host.Outcome.next (State.request_refuse (owner := clearResetCauseAnswer m) ht (if_pos hout))
  · exact ⟨s.image.causes.clear m, rfl, rfl, rfl, rfl,
      State.next_request_answer ht (owner := clearResetCauseAnswer m) (if_neg (Nat.not_lt.2 hm)) rfl rfl⟩
  · obtain ⟨hentries, hshows, hsources, hlanes, hhouses⟩ := State.snapshot_reads hc
    refine ⟨rfl, hentries, hshows, fun sh base count i hready hlo hhi => ?_, hsources, hlanes, hhouses, rfl, rfl, rfl, rfl,
      rfl⟩
    exact (Table.read_keep none _ _ i).trans (if_pos (State.inReadyShow_of_run hready hlo hhi))

end Sys2Proof.Machine
end

section
/-! SUPPORT. Builds, rebuild requests and writes of calendar entries (02). -/

namespace Sys2Proof.Machine

/-! ## What a build begins with and finds -/

theorem State.widened_eq (s : State) (g : Granularity) :
    s.widened g = if 24 ≤ s.calendar.agenda.length ∧ g ≠ .resume then .all else g := by
  cases g <;> simp [State.widened]

theorem State.widened_eq_resume_iff (s : State) (g : Granularity) : s.widened g = .resume ↔ g = .resume := by
  rw [State.widened_eq]
  split
  · next h => exact ⟨nofun, fun hg => absurd hg h.2⟩
  · rfl

theorem State.lowerBound_eq (s : State) (g : Granularity) (p : TowerTime) :
    s.lowerBound g p = if g = .resume then .ofAbs (p.abs - 1000 * s.settings.lateLimit) else p := by
  cases g <;> rfl

theorem covers_iff (g : Granularity) (e sh : Nat) :
    covers g e sh = true ↔ g = .all ∨ g = .resume ∨ g = .show sh ∨ g = .entry e := by
  cases g <;> simp [covers, eq_comm]

theorem mem_buildDates {lower : TowerTime} {day d : Nat} :
    d ∈ buildDates lower day ↔ lower.day ≤ d ∧ d ≤ day + 1 ∧ d ≤ 36524 := by
  simp only [buildDates, List.mem_filter, List.mem_map, List.mem_range, decide_eq_true_eq]
  rw [show lastDay = 36524 from rfl]
  constructor
  · rintro ⟨⟨k, hk, rfl⟩, hlast⟩
    omega
  · exact fun ⟨hlo, hhi, hlast⟩ => ⟨⟨d - lower.day, by omega, by omega⟩, hlast⟩

theorem CalendarEntry.matchesDay_iff (c : CalendarEntry) (d : Nat) :
    c.matchesDay d = true ↔ c.state = .set ∧ c.firstDate ≤ d ∧ d ≤ c.lastDate ∧ c.weekdays.testBit ((d + 5) % 7) = true ∧
      ∀ n, c.step = some n → (d - c.firstDate) % n = 0 := by
  simp [CalendarEntry.matchesDay, Option.all_eq_true, and_assoc]

theorem resultOn_eq_some_iff {lower upper : TowerTime} {e d : Nat} {c : CalendarEntry} {it : AgendaItem} :
    resultOn lower upper e c d = some it ↔ c.matchesDay d = true ∧ lower.abs ≤ (TowerTime.mk d c.start).abs ∧
      (TowerTime.mk d c.start).abs < upper.abs ∧ it = ⟨e, ⟨d, c.start⟩, c.showNo, c.priority, c.endAt⟩ := by
  unfold resultOn
  dsimp only
  rw [Option.ite_none_right_eq_some]
  simp only [Bool.and_eq_true, decide_eq_true_eq, Option.some.injEq, and_assoc, eq_comm (a := it)]

/-- Settles O21. -/
theorem buildFindsMatchingStarts : Obligations.BuildFindsMatchingStarts := by
  unfold Obligations.BuildFindsMatchingStarts
  refine ⟨fun s g p => ⟨s.widened_eq g, ?_, rfl, rfl, rfl⟩, covers_iff, fun s g p it => ?_⟩
  · refine (s.lowerBound_eq _ p).trans ?_
    simp only [State.widened_eq_resume_iff]
  · change it ∈ s.buildResults (s.newBuild g p).scope (s.newBuild g p).lower (upperBound p) p.day ↔ _
    generalize (s.newBuild g p).scope = scope
    generalize (s.newBuild g p).lower = lower
    rw [State.buildResults, List.mem_flatMap]
    constructor
    · rintro ⟨⟨e, c⟩, hlisted, hit⟩
      split at hit
      · next hcovers =>
        obtain ⟨d, hd, hresult⟩ := List.mem_filterMap.1 hit
        obtain ⟨hlo, hhi, hlast⟩ := mem_buildDates.1 hd
        obtain ⟨hmatch, hlower, hupper, rfl⟩ := resultOn_eq_some_iff.1 hresult
        obtain ⟨hset, hfirst, hlast', hweekday, hstep⟩ := (c.matchesDay_iff d).1 hmatch
        exact ⟨e, c, hlisted, hcovers, d, hlo, hhi, hlast, hset, hfirst, hlast', hweekday, hstep, hlower, hupper, rfl⟩
      · cases hit
    · rintro ⟨e, c, hlisted, hcovers, d, hlo, hhi, hlast, hset, hfirst, hlast', hweekday, hstep, hlower, hupper, hit⟩
      refine ⟨(e, c), hlisted, ?_⟩
      rw [if_pos hcovers]
      exact List.mem_filterMap.2 ⟨d, mem_buildDates.2 ⟨hlo, hhi, hlast⟩, resultOn_eq_some_iff.2
        ⟨(c.matchesDay_iff d).2 ⟨hset, hfirst, hlast', hweekday, hstep⟩, hlower, hupper, hit⟩⟩

/-! ## Rebuild requests -/

theorem State.beginBuild_of_time {s : State} {p : TowerTime} (h : s.towerTime = some p) (g : Granularity) :
    s.beginBuild g = s.withCalendar { s.calendar with state := .building (s.newBuild g p) none } := by
  rw [State.beginBuild, h]

theorem State.rebuildRequest_of_building {s : State} {b : Build} {q : Option Granularity}
    (h : s.calendar.state = .building b q) (g : Granularity) :
    s.rebuildRequest g = s.withCalendar { s.calendar with state := .building b (some (mergePending q g)) } := by
  rw [State.rebuildRequest, h]

theorem State.rebuildRequest_of_idle {s : State} (h : s.calendar.state = .stale ∨ s.calendar.state = .current)
    (g : Granularity) : s.rebuildRequest g = s.beginBuild g := by
  unfold State.rebuildRequest
  obtain h | h := h <;> rw [h]

theorem rebuildAgendaAnswer_of_requestable {s : State} {g : Granularity} {p : TowerTime} (hg : requestable g = true)
    (hp : s.towerTime = some p) :
    rebuildAgendaAnswer (some g) s = ⟨.ok, s.rebuildResult g, s.rebuildRequest g, .nothing⟩ := by
  simp [rebuildAgendaAnswer, hg, hp]

/-- Settles O20. -/
theorem rebuildBeginsOrWaits : Obligations.RebuildBeginsOrWaits := by
  unfold Obligations.RebuildBeginsOrWaits
  intro h g s ht
  refine ⟨fun hg => ?_, fun hg hunset => ?_, fun p hg hp hidle => ?_, fun p hg => ⟨?_, ?_⟩, fun p b q hg hp hbuild => ?_⟩
  · refine congrArg Host.Outcome.next (State.request_refuse (owner := rebuildAgendaAnswer (some g)) ht ?_)
    simp [rebuildAgendaAnswer, hg]
  · refine congrArg Host.Outcome.next (State.request_refuse (owner := rebuildAgendaAnswer (some g)) ht ?_)
    have htime : s.atTake.towerTime = none := congrArg TowerClock.time hunset
    simp [rebuildAgendaAnswer, hg, htime]
  · have hidle' : s.atTake.calendar.state = .stale ∨ s.atTake.calendar.state = .current := hidle
    have hanswer := rebuildAgendaAnswer_of_requestable (s := s.atTake) hg hp
    have hresult : s.atTake.rebuildResult g = .rebuild .begun (s.newBuild g p).scope := by
      unfold State.rebuildResult
      obtain h | h := hidle' <;> rw [h] <;> rfl
    rw [hresult, State.rebuildRequest_of_idle hidle', State.beginBuild_of_time (s := s.atTake) hp] at hanswer
    exact State.next_request_answer ht (owner := rebuildAgendaAnswer (some g)) hanswer rfl rfl
  · refine (s.widened_eq g).trans (if_congr (and_iff_left ?_) rfl rfl)
    rintro rfl
    cases hg
  · refine (s.lowerBound_eq _ p).trans (if_neg fun hr => ?_)
    rw [(s.widened_eq_resume_iff g).1 hr] at hg
    cases hg
  · have hanswer := rebuildAgendaAnswer_of_requestable (s := s.atTake) hg hp
    have hresult : s.atTake.rebuildResult g = .rebuild .pending (mergePending q g) := by
      unfold State.rebuildResult
      rw [show s.atTake.calendar.state = _ from hbuild]
    rw [hresult, State.rebuildRequest_of_building (s := s.atTake) hbuild] at hanswer
    exact State.next_request_answer ht (owner := rebuildAgendaAnswer (some g)) hanswer rfl rfl

/-! ## Writes of the calendar -/

theorem calendarEntryOf_eq_some_iff (f : CalendarArgs) (e : CalendarEntry) : calendarEntryOf f = some e ↔
    (f.firstDate ≤ 36524 ∧ f.lastDate ≤ 36524 ∧ f.weekdays < 128 ∧ f.start < 86400000 ∧
      (∀ x, f.endAt = some x → x < 86400000) ∧ (∀ n, f.step = some n → 1 ≤ n ∧ n ≤ 366) ∧ f.showNo ≤ 63 ∧
      f.priority ≤ 7 ∧ f.strayFlags = false ∧
      e = ⟨.set, f.firstDate, f.lastDate, f.weekdays, f.start, f.endAt, f.step, f.showNo, f.priority, f.once, none⟩) := by
  unfold calendarEntryOf
  rw [Option.ite_none_right_eq_some]
  simp only [Option.all_eq_true, Bool.and_eq_true, decide_eq_true_eq, Option.some.injEq, and_assoc, eq_comm (a := e)]
  exact Iff.rfl

/-- The wake timer is recomputed when the head has changed (R30, R38). -/
theorem State.recomputeIfHead_eq (s : State) (head : Option (Nat × TowerTime × Nat × Nat)) :
    s.recomputeIfHead head = s.withCalendar { s.calendar with
      wakeTimer := if s.calendar.head = head then s.calendar.wakeTimer else s.wakeTimerFor } := by
  unfold State.recomputeIfHead
  split
  · rfl
  · rfl

/-- The agenda state once entry i is written (R21). -/
def AgendaState.afterWrite (state : AgendaState) (i : Nat) : AgendaState :=
  match state with
  | .current => .stale
  | .stale => .stale
  | .building b pending =>
      .building { b with discarded := if b.discarded.contains i then b.discarded else i :: b.discarded }
        (some (mergePending pending (.entry i)))

/-- The calendar once entry i is written, but for its wake timer (R21). -/
def State.entryWritten (s : State) (i : Nat) (e : CalendarEntry) : State :=
  s.withCalendar
    { s.calendar with
      entries := Table.write .blank s.calendar.entries i e
      agenda := s.calendar.agenda.filter (fun a => decide (a.entry ≠ i))
      state := s.calendar.state.afterWrite i }

theorem State.replaceEntry_eq (s : State) (i : Nat) (e : CalendarEntry) :
    s.replaceEntry i e = (s.entryWritten i e).withCalendar { (s.entryWritten i e).calendar with
      wakeTimer :=
        if (s.entryWritten i e).calendar.head = s.calendar.head then s.calendar.wakeTimer
        else (s.entryWritten i e).wakeTimerFor } :=
  (s.entryWritten i e).recomputeIfHead_eq s.calendar.head

theorem mem_discarded_afterWrite (l : List Nat) (i j : Nat) :
    j ∈ (if l.contains i then l else i :: l) ↔ j = i ∨ j ∈ l := by
  split
  · next h => exact ⟨.inr, fun hj => hj.elim (fun he => he ▸ List.contains_iff_mem.1 h) id⟩
  · exact List.mem_cons

/-- Settles O19. -/
theorem calendarWriteReplacesEntry : Obligations.CalendarWriteReplacesEntry := by
  unfold Obligations.CalendarWriteReplacesEntry
  refine ⟨⟨fun h i f s ht hbad => ?_, fun h i s ht hi => ?_, fun c h i e s ht hi hc => ?_⟩, calendarEntryOf_eq_some_iff⟩
  · refine congrArg Host.Outcome.next (State.request_refuse (owner := writeCalendarEntryAnswer i f) ht ?_)
    unfold writeCalendarEntryAnswer
    obtain hi | hf := hbad
    · exact if_pos hi
    · rw [hf]
      exact ite_self _
  · exact congrArg Host.Outcome.next (State.request_refuse (owner := clearCalendarEntryAnswer i) ht (if_pos hi))
  · have htaken : exec c s = .next ((s.replaceEntry i e).withMgmt (s.replied c h .ok .none)) := by
      have hframe : (s.atTake.replaceEntry i e).mgmt = s.atTake.mgmt := by simp
      have hin := Nat.not_lt.2 hi
      obtain ⟨f, rfl, hf⟩ | ⟨rfl, rfl⟩ := hc
      · refine State.next_request_answer ht (owner := writeCalendarEntryAnswer i f) (v := .ok) (r := .none) (e := .nothing)
          (u := s.atTake.replaceEntry i e) ?_ hframe ?_
        · rw [writeCalendarEntryAnswer, if_neg hin, hf]
          rfl
        · rw [State.replaceEntry_eq, State.replaceEntry_eq]
          rfl
      · refine State.next_request_answer ht (owner := clearCalendarEntryAnswer i) (v := .ok) (r := .none) (e := .nothing)
          (u := s.atTake.replaceEntry i _) (if_neg hin) hframe ?_
        rw [State.replaceEntry_eq, State.replaceEntry_eq]
        rfl
    refine ⟨_, htaken, ?_⟩
    rw [State.replaceEntry_eq]
    have hentry : ∀ j, (s.entryWritten i e).entry j = if j = i then e else s.entry j :=
      fun j => Table.read_write CalendarEntry.blank s.calendar.entries i j e
    refine ⟨rfl, (hentry i).trans (if_pos rfl), fun j hj => (hentry j).trans (if_neg hj), rfl, rfl, rfl, rfl, ?_, ?_, rfl⟩
    · intro hidle
      change s.calendar.state.afterWrite i = _
      obtain hs | hs := hidle <;> rw [hs] <;> rfl
    · intro b q hbuild
      refine ⟨_, (congrArg (AgendaState.afterWrite · i) hbuild).trans rfl, rfl, rfl, ?_, fun j hj => ?_⟩
      · exact (mem_discarded_afterWrite _ _ _).2 (.inl rfl)
      · exact (mem_discarded_afterWrite _ _ _).trans (or_iff_right hj)

end Sys2Proof.Machine
end

section
/-! SUPPORT. Runs of firings: what they keep, and what the firing of a single item does (02). -/

namespace Sys2Proof.Machine

/-! ## Fault records -/

theorem State.faultRecord_of_free {s : State} {i : Nat} (h : s.freeFaultRecord = some i) : s.faultRecord i = none := by
  have hfree := List.find?_some h
  simpa using hfree

/-- A record that is present stays while faults are recorded (R183). -/
theorem State.faultRecord_recordFault_of_present {s : State} {i : Nat} {r : FaultRecord} (h : s.faultRecord i = some r)
    (k : FaultKind) : (s.recordFault k).faultRecord i = some r := by
  obtain ⟨_, hf⟩ | ⟨_, j, hj, alert, hf⟩ | ⟨_, _, alert, hf⟩ := s.recordFault_cases k
  · unfold State.faultRecord
    rw [hf]
    exact h
  · unfold State.faultRecord
    rw [hf]
    refine (Table.read_write_ne none s.faults.records (i := j) (j := i) (some ⟨k, s.now, s.towerTime⟩) ?_).trans h
    rintro rfl
    rw [State.faultRecord_of_free hj] at h
    cases h
  · unfold State.faultRecord
    rw [hf]
    exact h

theorem State.faultRecord_congr {s t : State} (h : t.faults = s.faults) (i : Nat) : t.faultRecord i = s.faultRecord i := by
  unfold State.faultRecord
  rw [h]

theorem State.faultRecord_calendarStart_of_present {s : State} {i : Nat} {r : FaultRecord} (h : s.faultRecord i = some r)
    (it : AgendaItem) (lateness : Nat) : (s.calendarStart it lateness).faultRecord i = some r := by
  unfold State.calendarStart State.placeStart
  dsimp only
  split
  · exact h
  · split
    · exact h
    · split
      · exact (State.faultRecord_congr (by simp) i).trans h
      · exact (State.faultRecord_congr (by simp) i).trans h
      · exact State.faultRecord_recordFault_of_present h _

theorem State.faultRecord_fireItem_of_present {s : State} {i : Nat} {r : FaultRecord} (h : s.faultRecord i = some r)
    (it : AgendaItem) : (s.fireItem it).faultRecord i = some r := by
  have hentry : (s.fireEntry it).faultRecord i = some r := h
  unfold State.fireItem State.offerStart
  split
  · exact h
  · split
    · split
      · exact State.faultRecord_recordFault_of_present hentry _
      · split
        · exact State.faultRecord_calendarStart_of_present hentry it _
        · exact State.faultRecord_recordFault_of_present hentry _
    · exact h

/-! ## Runs -/

/-- A run of firings keeps time, settings, and present fault records, and of the calendar all that is not the agenda, the
entries and the rest timer (R30). -/
theorem State.foldl_fireItem_kept (due : List AgendaItem) (s : State) :
    (due.foldl State.fireItem s).time = s.time ∧ (due.foldl State.fireItem s).ingress = s.ingress ∧
      (due.foldl State.fireItem s).mgmt.settings = s.mgmt.settings ∧
      (due.foldl State.fireItem s).calendar.state = s.calendar.state ∧
      (due.foldl State.fireItem s).calendar.truncated = s.calendar.truncated ∧
      (due.foldl State.fireItem s).calendar.lastActual = s.calendar.lastActual ∧
      (due.foldl State.fireItem s).calendar.wakeTimer = s.calendar.wakeTimer ∧
      ∀ i r, s.faultRecord i = some r → (due.foldl State.fireItem s).faultRecord i = some r := by
  have hitem : ∀ (u : State) (it : AgendaItem), (u.fireItem it).calendar.state = u.calendar.state ∧
      (u.fireItem it).calendar.truncated = u.calendar.truncated ∧
      (u.fireItem it).calendar.lastActual = u.calendar.lastActual ∧
      (u.fireItem it).calendar.wakeTimer = u.calendar.wakeTimer := by
    intro u it
    unfold State.fireItem
    split
    · exact ⟨rfl, rfl, rfl, rfl⟩
    · next t _ =>
      split
      · exact (State.entry_of_timeless ((u.fireEntry it).offerStart_timeless it (t.abs - it.instant.abs))).2.2
      · exact ⟨rfl, rfl, rfl, rfl⟩
  induction due generalizing s with
  | nil => exact ⟨rfl, rfl, rfl, rfl, rfl, rfl, rfl, fun _ _ h => h⟩
  | cons it due ih =>
    obtain ⟨htime, hingress, hsettings, hstate, htrunc, hlast, hwake, hrecord⟩ := ih (s.fireItem it)
    obtain ⟨hstate', htrunc', hlast', hwake'⟩ := hitem s it
    exact ⟨htime.trans (by simp), hingress.trans (by simp), hsettings.trans (by simp), hstate.trans hstate',
      htrunc.trans htrunc', hlast.trans hlast', hwake.trans hwake',
      fun i r h => hrecord i r (State.faultRecord_fireItem_of_present h it)⟩

/-- A run of firings of items of the agenda leaves its entries as entryAfter says (R30). -/
theorem State.foldl_fireItem_entry_of_agenda {s : State} (h : s.towerTime ≠ none) {due : List AgendaItem}
    (hdue : ∀ it ∈ due, it ∈ s.calendar.agenda) (hstarts : due.Pairwise (fun a b => a.sameStart b = false)) (e : Nat) :
    (due.foldl State.fireItem s).entry e = s.entryAfter due e := by
  rw [State.foldl_fireItem_entry due s h hstarts (fun it hit => .inl (hdue it hit))]
  refine ite_eq_right_iff.2 fun ⟨honce, hgone⟩ => ?_
  have hnone : due.filter (fun it => decide (it.entry = e)) = [] :=
    List.filter_eq_nil_iff.2 fun it hit => by simpa using hgone it (hdue it hit)
  unfold State.entryAfter
  dsimp only
  rw [hnone, honce]
  rfl

/-- The firing of an item that stands in the agenda, by its lateness and its show (R31). -/
theorem State.fireItem_of_listed {s : State} {p : TowerTime} (h : s.towerTime = some p) {it : AgendaItem}
    (hit : it ∈ s.calendar.agenda) :
    (∀ i, s.faults.overflow = false → s.freeFaultRecord = some i →
      (1000 * s.settings.lateLimit < p.abs - it.instant.abs →
        (s.fireItem it).faultRecord i = some ⟨.missedStart it.entry, s.now, some p⟩) ∧
      (p.abs - it.instant.abs ≤ 1000 * s.settings.lateLimit → s.showReady it.showNo = false →
        (s.fireItem it).faultRecord i = some ⟨.showNotReady it.entry, s.now, some p⟩)) ∧
    (p.abs - it.instant.abs ≤ 1000 * s.settings.lateLimit → s.showReady it.showNo = true →
      s.fireItem it = (s.marked it).calendarStart it (p.abs - it.instant.abs)) := by
  obtain ⟨hmissed, hunready, hstarted⟩ := (s.fireItem_firedItem it p h).2 ⟨it, hit, rfl, rfl⟩
  refine ⟨fun i ho hi => ⟨fun hlate => ?_, fun hin hshow => ?_⟩, hstarted⟩
  · rw [hmissed hlate, State.faultRecord_recordFault (s := s.marked it) ho hi, ← h]
    rfl
  · rw [hunready hin hshow, State.faultRecord_recordFault (s := s.marked it) ho hi, ← h]
    rfl

/-! ## The wake timer -/

theorem State.wakeTimerFor_of_time {s : State} {p : TowerTime} (h : s.towerTime = some p) :
    s.wakeTimerFor = s.wakeAt s.calendar.agenda p := by
  unfold State.wakeTimerFor State.wakeAt
  rw [h]
  cases s.calendar.agenda.head? <;> rfl

/-- A run of firings in agenda order, and the wake timer when the head has changed (R30). -/
theorem State.fireItems_eq (s : State) (due : List AgendaItem) :
    s.fireItems due = (due.foldl State.fireItem s).withCalendar { (due.foldl State.fireItem s).calendar with
      wakeTimer :=
        if (due.foldl State.fireItem s).calendar.head = s.calendar.head then
          (due.foldl State.fireItem s).calendar.wakeTimer
        else (due.foldl State.fireItem s).wakeTimerFor } :=
  State.recomputeIfHead_eq _ _

end Sys2Proof.Machine
end

section
/-! SUPPORT. RUN_CLOCK_ADVANCE: both clocks, the new day, and the items reached (01, 02). -/

namespace Sys2Proof.Machine

/-- s with the run clock one on. -/
def State.ticked (s : State) : State := s.withTime { s.time with runClock := s.now + 1 }

theorem State.countRunClock_of_lt {s : State} (h : s.now < lastInstant) : s.countRunClock = s.ticked :=
  if_neg h.ne

theorem exec_runClockAdvance {s : State} (h : s.now < lastInstant) :
    exec .runClockAdvance s = .next s.ticked.advanceTower := by
  rw [← State.countRunClock_of_lt h]
  rfl

/-- s once tower time has moved to a point, the run clock one on (R1, R3, R10). -/
def State.movedTo (s : State) (new : TowerTime) : State :=
  s.withTime { s.time with
    runClock := s.now + 1, clock := s.time.clock.retime new, remainder := s.ticked.slewedRemainder }

theorem State.towerTime_movedTo {s : State} {old : TowerTime} (h : s.towerTime = some old) (new : TowerTime) :
    (s.movedTo new).towerTime = some new := by
  refine (TowerClock.time_retime _ new).trans ?_
  rw [show s.time.clock.time = some old from h]
  rfl

/-- The state the agenda is in once tower time has come to another point, by the day (R13, R36). -/
theorem State.rebuildIfNewDay_eq (s : State) (old new : TowerTime) :
    s.rebuildIfNewDay old new = s.withCalendar { s.calendar with state := (s.rebuildIfNewDay old new).calendar.state } := by
  unfold State.rebuildIfNewDay State.rebuildRequest State.beginBuild
  split
  · rfl
  · split
    · rfl
    · split <;> rfl
    · split <;> rfl

/-- A new day makes a build in flight wait for a rebuild of ALL, and otherwise begins one (R34, R36). -/
theorem State.rebuildIfNewDay_state {s : State} {new : TowerTime} (h : s.towerTime = some new) (old : TowerTime) :
    (old.day = new.day → (s.rebuildIfNewDay old new).calendar.state = s.calendar.state) ∧
      (old.day ≠ new.day →
        (∀ b q, s.calendar.state = .building b q →
          (s.rebuildIfNewDay old new).calendar.state = .building b (some .all)) ∧
        ((s.calendar.state = .stale ∨ s.calendar.state = .current) →
          (s.rebuildIfNewDay old new).calendar.state = .building (s.newBuild .all new) none)) := by
  refine ⟨fun hday => ?_, fun hday => ⟨fun b q hbuild => ?_, fun hidle => ?_⟩⟩
  · rw [State.rebuildIfNewDay, if_pos hday]
  · rw [State.rebuildIfNewDay, if_neg hday, State.rebuildRequest_of_building hbuild]
    cases q with
    | none => rfl
    | some g => cases g <;> rfl
  · rw [State.rebuildIfNewDay, if_neg hday, State.rebuildRequest_of_idle hidle, State.beginBuild_of_time h]
    rfl

theorem State.advanceTower_of_time {s : State} {old : TowerTime} (h : s.towerTime = some old) :
    s.ticked.advanceTower = s.ticked.carryTower old (.ofAbs (old.abs + s.ticked.towerStep)) := by
  have htime : s.ticked.towerTime = some old := h
  rw [State.advanceTower, htime]

/-- Within its range tower time moves, and the items it reaches fire (R3, R4, R30). -/
theorem State.carryTower_of_range {s : State} {old new : TowerTime} (h : new.day ≤ lastDay) :
    s.ticked.carryTower old new = ((s.movedTo new).rebuildIfNewDay old new).fireItems (s.itemsBetween old new) := by
  have hmoved : s.ticked.moveTower old new = (s.movedTo new).rebuildIfNewDay old new := rfl
  rw [State.carryTower, if_neg (Nat.not_lt.2 h), hmoved, State.itemsBetween, State.rebuildIfNewDay_eq]
  rfl

/-- What an advance within the range leaves, by the point that tower time comes to (R1, R3, R30). -/
theorem exec_runClockAdvance_of_range {s t : State} {old new : TowerTime} (hnow : s.now < lastInstant)
    (hold : s.towerTime = some old) (ht : exec .runClockAdvance s = .next t) (hnew : t.towerTime = some new) :
    t = ((s.movedTo new).rebuildIfNewDay old new).fireItems (s.itemsBetween old new) := by
  rw [exec_runClockAdvance hnow, State.advanceTower_of_time hold] at ht
  obtain rfl := Host.Outcome.next.inj ht
  generalize TowerTime.ofAbs (old.abs + s.ticked.towerStep) = point at *
  by_cases hday : point.day ≤ lastDay
  · rw [State.carryTower_of_range hday] at hnew ⊢
    have hpoint : (((s.movedTo point).rebuildIfNewDay old point).fireItems (s.itemsBetween old point)).towerTime =
        some point := by
      simp only [State.towerTime, State.fireItems_frame, State.rebuildIfNewDay_frame]
      exact State.towerTime_movedTo hold point
    obtain rfl := Option.some.inj (hpoint.symm.trans hnew)
    rfl
  · rw [State.carryTower, if_pos (Nat.not_le.1 hday)] at hnew
    have hlost : (s.ticked.endOfRange).towerTime = none := by
      unfold State.endOfRange State.towerTime
      simp
      rfl
    rw [hlost] at hnew
    cases hnew

/-! ## The items reached -/

/-- What an advance that reaches the items of due leaves of the calendar, before and after their firing. -/
theorem exec_runClockAdvance_fires {s t : State} {old new : TowerTime} (hnow : s.now < lastInstant)
    (hold : s.towerTime = some old) (ht : exec .runClockAdvance s = .next t) (hnew : t.towerTime = some new) :
    ∃ m u, m = (s.withTime t.time).withCalendar { s.calendar with state := t.calendar.state } ∧
      m.towerTime = some new ∧ u = (s.itemsBetween old new).foldl State.fireItem m ∧
      t = u.withCalendar { u.calendar with wakeTimer := t.calendar.wakeTimer } := by
  have heq := exec_runClockAdvance_of_range hnow hold ht hnew
  have hbefore := (s.movedTo new).rebuildIfNewDay_eq old new
  have htime : ((s.movedTo new).rebuildIfNewDay old new).towerTime = some new := by
    rw [hbefore]
    exact State.towerTime_movedTo hold new
  rw [State.fireItems_eq] at heq
  generalize hm : (s.movedTo new).rebuildIfNewDay old new = m at *
  obtain ⟨hkept, _, _, hstate, _⟩ := State.foldl_fireItem_kept (s.itemsBetween old new) m
  generalize hu : (s.itemsBetween old new).foldl State.fireItem m = u at *
  refine ⟨m, u, ?_, htime, hu.symm, ?_⟩
  · have htt : t.time = (s.movedTo new).time := by rw [heq]; exact hkept.trans (by rw [hbefore]; rfl)
    have hts : t.calendar.state = m.calendar.state := by rw [heq]; exact hstate
    rw [htt, hts]
    exact hbefore
  · rw [heq]
    rfl

theorem State.itemsBetween_sublist (s : State) (old new : TowerTime) :
    (s.itemsBetween old new).Sublist s.calendar.agenda := List.filter_sublist

/-- Settles O23. -/
theorem advanceFiresReachedItems : Obligations.AdvanceFiresReachedItems := by
  unfold Obligations.AdvanceFiresReachedItems
  refine ⟨fun s t old new hnow ht hold hnew => ?_, fun s t old new it hnow ht hold hnew hdue => ?_,
    fun s t old new due hnow ht hold hnew hdue => ?_⟩
  · obtain ⟨m, u, hm, htime, hu, hframe⟩ := exec_runClockAdvance_fires hnow hold ht hnew
    have hagenda : t.calendar.agenda = m.agendaAfter m.calendar.agenda (s.itemsBetween old new) := by
      rw [hframe, hu]
      exact State.foldl_fireItem_agenda _ m (by rw [htime]; exact Option.some_ne_none new) fun it hit =>
        .inl (by rw [hm]; exact (s.itemsBetween_sublist old new).mem hit)
    intro it hit
    rw [hagenda, State.agendaAfter] at hit
    obtain ⟨hlisted, hleft⟩ := List.mem_filter.1 hit
    have hin : it ∈ s.calendar.agenda := by rw [hm] at hlisted; exact hlisted
    refine ⟨hin, fun ⟨hlo, hhi⟩ => ?_⟩
    have hreached : it ∈ s.itemsBetween old new := List.mem_filter.2 ⟨hin, by simp [hlo, hhi]⟩
    have := List.all_eq_true.1 hleft it hreached
    simp [AgendaItem.sameStart] at this
  · obtain ⟨m, u, hm, htime, hu, hframe⟩ := exec_runClockAdvance_fires hnow hold ht hnew
    have hitems : s.itemsBetween old new = [it] := hdue
    have hit : it ∈ m.calendar.agenda := by
      rw [hm]
      exact (s.itemsBetween_sublist old new).mem (by rw [hitems]; exact List.mem_singleton_self it)
    rw [hitems] at hu
    have hmarked := ((m.fireItem_calendar it (by rw [htime]; exact Option.some_ne_none new)).2
      (List.any_eq_true.2 ⟨it, hit, (it.sameStart_iff it).2 ⟨rfl, rfl⟩⟩)).2
    obtain ⟨hfaults, hstarted⟩ := State.fireItem_of_listed htime hit
    have hentry : ∀ e, t.entry e = (m.fireItem it).entry e := fun e => by rw [hframe, hu]; rfl
    have hsame : ∀ e, m.entry e = s.entry e := fun e => by rw [hm]; rfl
    have hnow' : m.now = s.now + 1 := by
      have heq := exec_runClockAdvance_of_range hnow hold ht hnew
      rw [hm]
      change t.time.runClock = _
      rw [heq]
      simp only [State.fireItems_frame, State.rebuildIfNewDay_frame]
      rfl
    refine ⟨?_, fun e he => ?_, fun i ho hi => ?_, fun hin hready => ?_⟩
    · rw [hentry, hmarked, if_pos rfl, hsame]
    · rw [hentry, hmarked, if_neg he, hsame]
    · obtain ⟨hlate, hunready⟩ := hfaults i (by rw [hm]; exact ho) (by rw [hm]; exact hi)
      rw [hnow'] at hlate hunready
      have hrecord : t.faultRecord i = (m.fireItem it).faultRecord i := by rw [hframe, hu]; rfl
      rw [hrecord]
      exact ⟨fun h => hlate (by rw [hm]; exact h), fun h hr => hunready (by rw [hm]; exact h) (by rw [hm]; exact hr)⟩
    · have hfired := hstarted (by rw [hm]; exact hin) (by rw [hm]; exact hready)
      refine ⟨m.marked it, ?_, by rw [hm]; rfl, ?_, ?_⟩
      · rw [hm]; rfl
      · rw [← hfired]
        rw [hframe, hu]
        rfl
      · rw [← hfired]
        conv_lhs => rw [hframe, hu]
        rw [hframe, hu]
        rfl
  · obtain ⟨m, u, hm, htime, hu, hframe⟩ := exec_runClockAdvance_fires hnow hold ht hnew
    have hitems : s.itemsBetween old new = due := hdue.symm
    have hsome : m.towerTime ≠ none := by rw [htime]; exact Option.some_ne_none new
    have hlisted : ∀ it ∈ due, it ∈ m.calendar.agenda := fun it hit => by
      rw [hm]
      exact (s.itemsBetween_sublist old new).mem (hitems ▸ hit)
    have hsame : ∀ e, m.entry e = s.entry e := fun e => by rw [hm]; rfl
    rw [hitems] at hu
    refine ⟨?_, fun hordered e => ?_, u, ?_, hframe⟩
    · rw [hframe, hu]
      refine (State.foldl_fireItem_agenda due m hsome fun it hit => .inl (hlisted it hit)).trans ?_
      rw [hm]
      rfl
    · obtain ⟨_, _, hstarts⟩ := hordered
      have hentry : t.entry e = (due.foldl State.fireItem m).entry e := by rw [hframe, hu]; rfl
      rw [hentry, State.foldl_fireItem_entry_of_agenda hsome hlisted
        (hstarts.sublist (hitems ▸ s.itemsBetween_sublist old new)) e]
      exact State.entryAfter_congr (hsame e) due
    · rw [← hm, hu]
      exact State.fireRun_foldl new due m htime

/-! ## Both clocks -/

theorem State.fireItems_state (s : State) (due : List AgendaItem) :
    (s.fireItems due).calendar.state = s.calendar.state := by
  rw [State.fireItems_eq]
  exact (State.foldl_fireItem_kept due s).2.2.2.1

/-- Settles O15. -/
theorem advanceMovesBothClocks : Obligations.AdvanceMovesBothClocks := by
  unfold Obligations.AdvanceMovesBothClocks
  refine ⟨fun s hnow hunset => ?_, fun s p slewed new r hnow hp hslewed hnew hr => ?_⟩
  · have htime : s.ticked.towerTime = none := congrArg TowerClock.time hunset
    rw [exec_runClockAdvance hnow, State.advanceTower, htime]
    rfl
  · have hstep : (if slewed then (if 0 < s.time.remainder then 2 else 0) else 1) = s.ticked.towerStep := by
      rw [hslewed]; rfl
    have hremainder : r = s.ticked.slewedRemainder := by
      rw [hr, hslewed]; rfl
    rw [hstep] at hnew
    have hexec : exec .runClockAdvance s = .next (s.ticked.carryTower p new) := by
      rw [exec_runClockAdvance hnow, State.advanceTower_of_time hp, ← hnew]
    refine ⟨fun hday => ?_, fun hday => ?_⟩
    · rw [State.carryTower_of_range hday] at hexec
      have htime : (((s.movedTo new).rebuildIfNewDay p new).fireItems (s.itemsBetween p new)).time =
          (s.movedTo new).time := by simp
      obtain ⟨hsame, hother⟩ := State.rebuildIfNewDay_state (State.towerTime_movedTo hp new) p
      have hstate := State.fireItems_state ((s.movedTo new).rebuildIfNewDay p new) (s.itemsBetween p new)
      refine ⟨_, hexec, ?_, fun hd => hstate.trans (hsame hd), fun hd => ⟨fun b q hbuild => ?_, fun hidle => ?_⟩⟩
      · rw [htime, hremainder]
        rfl
      · exact hstate.trans ((hother hd).1 b q hbuild)
      · rw [htime]
        exact hstate.trans ((hother hd).2 hidle)
    · rw [State.carryTower, if_pos hday] at hexec
      refine ⟨_, hexec, ?_, ?_, fun i ho hi => ?_⟩
      · exact (State.recordFault_frame (s.ticked.withTime
          { s.ticked.time with clock := .unset, remainder := 0, lossTimer := none }) .timeLost).1
      · rw [State.endOfRange_calendar]
        rfl
      · exact State.faultRecord_recordFault (s := s.ticked.withTime
          { s.ticked.time with clock := .unset, remainder := 0, lossTimer := none }) ho hi

end Sys2Proof.Machine
end

section
/-! SUPPORT. BUILD_COMPLETION: the merged agenda, the firing of what is due, and the next build (02). -/

namespace Sys2Proof.Machine

/-! ## The merged agenda -/

theorem mem_addItem {l : List AgendaItem} {r it : AgendaItem} : it ∈ addItem l r → it = r ∨ it ∈ l := by
  unfold addItem
  split
  · exact .inr
  · exact mem_insertItem.1

theorem mem_addItem_of_mem {l : List AgendaItem} {it : AgendaItem} (h : it ∈ l) (r : AgendaItem) : it ∈ addItem l r := by
  unfold addItem
  split
  · exact h
  · exact mem_insertItem.2 (.inr h)

/-- A result that is added leaves the agenda with its start, its own or one that was there (R23, R27). -/
theorem exists_sameStart_addItem (l : List AgendaItem) (r : AgendaItem) :
    ∃ a ∈ addItem l r, a.entry = r.entry ∧ a.instant = r.instant := by
  unfold addItem
  split
  · next h =>
    obtain ⟨a, ha, hs⟩ := List.any_eq_true.1 h
    obtain ⟨he, hi⟩ := (r.sameStart_iff a).1 hs
    exact ⟨a, ha, he.symm, hi.symm⟩
  · exact ⟨r, mem_insertItem.2 (.inl rfl), rfl, rfl⟩

theorem mem_foldl_addItem (rs l : List AgendaItem) :
    (∀ it, it ∈ rs.foldl addItem l → it ∈ rs ∨ it ∈ l) ∧ (∀ it, it ∈ l → it ∈ rs.foldl addItem l) ∧
      ∀ r ∈ rs, ∃ a ∈ rs.foldl addItem l, a.entry = r.entry ∧ a.instant = r.instant := by
  induction rs generalizing l with
  | nil => exact ⟨fun _ h => .inr h, fun _ h => h, fun _ h => absurd h List.not_mem_nil⟩
  | cons r rs ih =>
    obtain ⟨hfrom, hkept, hadded⟩ := ih (addItem l r)
    refine ⟨fun it hit => ?_, fun it hit => hkept it (mem_addItem_of_mem hit r), fun x hx => ?_⟩
    · obtain h | h := hfrom it hit
      · exact .inl (.tail _ h)
      · obtain rfl | h := mem_addItem h
        · exact .inl (.head _)
        · exact .inr h
    · obtain rfl | hx := List.mem_cons.1 hx
      · obtain ⟨a, ha, hs⟩ := exists_sameStart_addItem l x
        exact ⟨a, hkept a ha, hs⟩
      · exact hadded x hx

theorem State.resultRemains_iff (s : State) (b : Build) (it : AgendaItem) :
    s.resultRemains b it = true ↔ it.entry ∉ b.discarded ∧ (s.entry it.entry).state ≠ .spent ∧
      ∀ f, (s.entry it.entry).lastFired = some f → f.abs < it.instant.abs := by
  unfold State.resultRemains
  simp only [Bool.and_eq_true, Bool.not_eq_true', Option.all_eq_true, decide_eq_true_eq, ne_eq,
    ← Bool.not_eq_true (List.contains _ _), List.contains_iff_mem]
  tauto

theorem covers_eq_false_iff (g : Granularity) (e sh : Nat) :
    (!covers g e sh) = true ↔ ¬ (g = .all ∨ g = .resume ∨ g = .show sh ∨ g = .entry e) := by
  rw [Bool.not_eq_true', ← Bool.not_eq_true, covers_iff]

/-! ## The completion -/

theorem State.recordFault_withCalendar (s : State) (c : CalendarEngine) (k : FaultKind) :
    (s.withCalendar c).recordFault k = (s.recordFault k).withCalendar c := by
  have halert : ∀ u : State, u.alertCondition.withCalendar c = (u.withCalendar c).alertCondition := by
    intro u
    unfold State.alertCondition
    rw [apply_ite (State.withCalendar · c), apply_ite (State.withCalendar · c)]
    rfl
  have hfree : (s.withCalendar c).freeFaultRecord = s.freeFaultRecord := rfl
  unfold State.recordFault
  rw [hfree, apply_ite (State.withCalendar · c)]
  cases s.freeFaultRecord with
  | none =>
    rw [halert]
    rfl
  | some i =>
    dsimp only
    rw [apply_ite (State.withCalendar · c), halert]
    rfl

/-- The calendar that the merged agenda is installed in (R27, steps 3 to 5). -/
def State.installed (s : State) (b : Build) : CalendarEngine :=
  { s.calendar with
    agenda := (s.mergedAgenda b).take 24, truncated := decide (24 < (s.mergedAgenda b).length)
    lastActual := some b.scope }

theorem State.installBuild_eq (s : State) (b : Build) :
    s.installBuild b =
      (if 24 < (s.mergedAgenda b).length then s.recordFault .agendaFull else s).withCalendar (s.installed b) := by
  unfold State.installBuild
  dsimp only
  split
  · exact s.recordFault_withCalendar _ _
  · rfl

theorem State.nextBuild_eq {s : State} {p : TowerTime} (h : s.towerTime = some p) (q : Option Granularity) :
    ∃ next, s.nextBuild q = s.withCalendar { s.calendar with state := next } ∧ (q = none → next = .current) ∧
      ∀ g, q = some g → next = .building (s.newBuild g p) none := by
  cases q with
  | none => exact ⟨_, rfl, fun _ => rfl, nofun⟩
  | some g =>
    refine ⟨_, State.beginBuild_of_time h g, nofun, fun g' hg => ?_⟩
    obtain rfl := Option.some.inj hg
    rfl

/-- What a completed build leaves, once the items due have fired: the agenda state, and the wake timer by the head
(R27, steps 6 and 7). -/
theorem State.completeBuild_eq {s i : State} {b : Build} {q : Option Granularity} {p : TowerTime} {due : List AgendaItem}
    (hi : s.installBuild b = i) (hp : i.towerTime = some p) (hdue : i.itemsUpTo p = due) {f : State}
    (hf : due.foldl State.fireItem i = f) :
    ∃ next wake, s.completeBuild b q = f.withCalendar { f.calendar with state := next, wakeTimer := wake } ∧
      (q = none → next = .current) ∧ (∀ g, q = some g → next = .building (f.newBuild g p) none) ∧
      (f.calendar.head ≠ s.calendar.head → wake = f.wakeAt f.calendar.agenda p) ∧
      (f.calendar.head = s.calendar.head → f.calendar.head = i.calendar.head → wake = f.calendar.wakeTimer) := by
  have hpast : i.firePast = f.withCalendar { f.calendar with
      wakeTimer := if f.calendar.head = i.calendar.head then f.calendar.wakeTimer else f.wakeTimerFor } := by
    rw [State.firePast, hp]
    dsimp only
    rw [hdue, State.fireItems_eq, hf]
  have htime : f.towerTime = some p := by
    rw [← hp, ← hf, State.towerTime, (State.foldl_fireItem_kept due i).1]
    rfl
  obtain ⟨next, hnext, hnone, hsome⟩ := State.nextBuild_eq (s := i.firePast) (p := p) (by rw [hpast]; exact htime) q
  refine ⟨next, if f.calendar.head = s.calendar.head then
      (if f.calendar.head = i.calendar.head then f.calendar.wakeTimer else f.wakeTimerFor) else f.wakeTimerFor,
    ?_, hnone, fun g hg => ?_, fun hne => ?_, fun hs hi => ?_⟩
  · rw [State.completeBuild, hi, hnext, State.recomputeIfHead_eq, hpast]
    rfl
  · rw [hsome g hg, hpast]
    rfl
  · rw [if_neg hne, State.wakeTimerFor_of_time htime]
  · rw [if_pos hs, if_pos hi]

theorem exec_buildCompletion {s : State} {b : Build} {q : Option Granularity} (h : s.calendar.state = .building b q)
    (hbegun : b.begun < s.now) : exec .buildCompletion s = .next (s.completeBuild b q) := by
  change execBuildCompletion s = _
  unfold execBuildCompletion
  rw [h]
  exact congrArg Host.Outcome.next (if_pos hbegun)

theorem State.mem_mergedAgenda (s : State) (b : Build) :
    (∀ it, it ∈ s.mergedAgenda b →
      (it ∈ s.calendar.agenda ∧ ¬ (b.scope = .all ∨ b.scope = .resume ∨ b.scope = .show it.showNo ∨
        b.scope = .entry it.entry)) ∨ (it ∈ b.results ∧ s.resultRemains b it = true)) ∧
    (∀ it ∈ s.calendar.agenda, ¬ (b.scope = .all ∨ b.scope = .resume ∨ b.scope = .show it.showNo ∨
      b.scope = .entry it.entry) → it ∈ s.mergedAgenda b) ∧
    (∀ it ∈ b.results, s.resultRemains b it = true →
      ∃ a ∈ s.mergedAgenda b, a.entry = it.entry ∧ a.instant = it.instant) := by
  obtain ⟨hfrom, hkept, hadded⟩ := mem_foldl_addItem (b.results.filter (s.resultRemains b))
    (s.calendar.agenda.filter (fun it => !covers b.scope it.entry it.showNo))
  refine ⟨fun it hit => ?_, fun it hit hout => ?_, fun it hit hremains => ?_⟩
  · obtain h | h := hfrom it hit
    · exact .inr (List.mem_filter.1 h)
    · obtain ⟨hlisted, hcovers⟩ := List.mem_filter.1 h
      exact .inl ⟨hlisted, (covers_eq_false_iff _ _ _).1 hcovers⟩
  · exact hkept it (List.mem_filter.2 ⟨hit, (covers_eq_false_iff _ _ _).2 hout⟩)
  · exact hadded it (List.mem_filter.2 ⟨hit, hremains⟩)

/-- Settles O22. -/
theorem buildCompletionInstallsAgenda : Obligations.BuildCompletionInstallsAgenda := by
  unfold Obligations.BuildCompletionInstallsAgenda
  refine ⟨fun s b => ?_, fun s b q p kept due hbuild hbegun hp hkept hdue => ?_⟩
  · obtain ⟨hfrom, hstays, hadded⟩ := s.mem_mergedAgenda b
    refine ⟨fun it hit => (hfrom it hit).imp_right fun ⟨hr, hrem⟩ => ⟨hr, (s.resultRemains_iff b it).1 hrem⟩, hstays,
      fun it hit hd hs hf => hadded it hit ((s.resultRemains_iff b it).2 ⟨hd, hs, hf⟩), fun hordered => ?_⟩
    exact State.mergedAgenda_order hordered.2 b
  · obtain ⟨htime, hshows, _, _, _, _, _, _, _, _, _, _, hsettings, _⟩ := s.installBuild_frame b
    have hcalendar : (s.installBuild b).calendar = s.installed b := by rw [State.installBuild_eq]; rfl
    have hwhole : (s.mergedAgenda b).length ≤ 24 → s.installBuild b = s.withCalendar (s.installed b) := fun hlen => by
      rw [State.installBuild_eq, if_neg (Nat.not_lt.2 hlen)]
    have hfull : ∀ i, 24 < (s.mergedAgenda b).length → s.faults.overflow = false → s.freeFaultRecord = some i →
        (s.installBuild b).faultRecord i = some ⟨.agendaFull, s.now, some p⟩ := fun i hlen ho hi => by
      rw [State.installBuild_eq, if_pos hlen, ← hp]
      exact State.faultRecord_recordFault ho hi
    have hrun : ∀ v, v = s.withCalendar (s.installed b) →
        (if 24 < (s.mergedAgenda b).length then v.recordFault .agendaFull else v) = s.installBuild b := fun v hv => by
      rw [hv]; rfl
    have hnofault : s.installBuild b =
        (if 24 < (s.mergedAgenda b).length then s.recordFault .agendaFull else s).withCalendar (s.installed b) :=
      s.installBuild_eq b
    generalize hi : s.installBuild b = i at *
    have hip : i.towerTime = some p := by rw [← hp, State.towerTime, htime]; rfl
    have hientry : ∀ e, i.entry e = s.entry e := fun e => by rw [State.entry, hcalendar]; rfl
    have hagenda : i.calendar.agenda = kept := by rw [hcalendar, hkept]; rfl
    have hidue : i.itemsUpTo p = due := by rw [State.itemsUpTo, hagenda, hdue]
    have hlisted : ∀ it ∈ due, it ∈ i.calendar.agenda := fun it hit => by
      rw [hdue] at hit
      rw [hagenda]
      exact List.mem_of_mem_filter hit
    generalize hf : due.foldl State.fireItem i = f
    obtain ⟨hftime, _, hfsettings, _, hftrunc, hflast, hfwake, hfrecord⟩ := State.foldl_fireItem_kept due i
    obtain ⟨next, wake, hdone, hcurrent, hbegins, hwake, hstill⟩ := State.completeBuild_eq (q := q) hi hip hidue hf
    rw [hf] at hftime hfsettings hftrunc hflast hfwake hfrecord
    have hsome : i.towerTime ≠ none := by rw [hip]; exact Option.some_ne_none p
    have hleft : f.calendar.agenda = s.agendaAfter kept due := by
      rw [← hf, State.foldl_fireItem_agenda due i hsome fun it hit => .inl (hlisted it hit), hagenda]
      unfold State.agendaAfter
      simp only [hientry]
    have hkeptFrom : ∀ it ∈ f.calendar.agenda, it ∈ kept ∧ ¬ it.instant.abs ≤ p.abs := by
      intro it hit
      rw [hleft, State.agendaAfter] at hit
      obtain ⟨hin, hall⟩ := List.mem_filter.1 hit
      refine ⟨hin, fun hle => ?_⟩
      have hsame := List.all_eq_true.1 hall it (hdue ▸ List.mem_filter.2 ⟨hin, decide_eq_true hle⟩)
      simp [AgendaItem.sameStart] at hsame
    refine ⟨_, (exec_buildCompletion hbuild hbegun).trans (congrArg Host.Outcome.next hdone), ?_, fun it hit => ?_, hleft,
      fun hordered e => ?_, fun v hv => ⟨f, ?_, rfl⟩, ?_, ?_, fun j hlen ho hj => hfrecord j _ (hfull j hlen ho hj),
      hcurrent, hbegins, hwake, fun hnone => ?_, fun it hone hlen => ⟨fun j ho hj => ?_, fun hin hready => ?_⟩⟩
    · change f.calendar.agenda.length ≤ 24
      rw [hleft, State.agendaAfter]
      refine (List.length_filter_le _ _).trans ?_
      rw [hkept]
      exact List.length_take_le ..
    · obtain ⟨hin, hafter⟩ := hkeptFrom it hit
      exact ⟨Nat.not_le.1 hafter, (List.take_sublist 24 _).mem (hkept ▸ hin)⟩
    · have hstarts : due.Pairwise (fun a b => a.sameStart b = false) := by
        obtain ⟨_, hmerged⟩ := State.mergedAgenda_order hordered.2 b
        rw [hdue, hkept]
        exact hmerged.sublist (List.filter_sublist.trans (List.take_sublist 24 _))
      change f.entry e = _
      rw [← hf, State.foldl_fireItem_entry_of_agenda hsome hlisted hstarts e]
      exact State.entryAfter_congr (hientry e) due
    · rw [hrun v (hv.trans (by rw [hkept]; rfl)), ← hf]
      exact State.fireRun_foldl p due i hip
    · exact hflast.trans (by rw [hcalendar]; rfl)
    · exact hftrunc.trans (by rw [hcalendar]; rfl)
    · have hfi : f = i := by rw [← hf, hnone]; rfl
      rw [hfi] at hstill ⊢
      refine ⟨hagenda, by rw [hcalendar]; rfl, by rw [hcalendar]; rfl, fun hhead => ?_, ?_⟩
      · exact (hstill hhead rfl).trans (by rw [hcalendar]; rfl)
      · rw [hnofault]
        rfl
    · have hiv := hwhole hlen
      have hit : it ∈ i.calendar.agenda := hlisted it (by rw [hone]; exact List.mem_singleton_self it)
      have hfit : f = i.fireItem it := by rw [← hf, hone]; rfl
      obtain ⟨hlate, hunready⟩ := (State.fireItem_of_listed hip hit).1 j (by rw [hiv]; exact ho) (by rw [hiv]; exact hj)
      rw [← hfit] at hlate hunready
      rw [hiv] at hlate hunready
      exact ⟨hlate, hunready⟩
    · have hiv := hwhole hlen
      have hit : it ∈ i.calendar.agenda := hlisted it (by rw [hone]; exact List.mem_singleton_self it)
      have hfit : f = i.fireItem it := by rw [← hf, hone]; rfl
      have hstarted := (State.fireItem_of_listed hip hit).2 (by rw [hiv]; exact hin) (by rw [hiv]; exact hready)
      rw [← hfit] at hstarted
      refine ⟨i.marked it, by rw [hiv]; rfl, by rw [hiv]; rfl, by rw [← hstarted]; rfl, by rw [← hstarted]; rfl⟩

end Sys2Proof.Machine
end

section
/-! SUPPORT. New tower time: time frames, SET_TIME, and the effect of a step on the calendar (01, 02). -/

namespace Sys2Proof.Machine

/-! ## A time-step event -/

/-- What a step of tower time leaves: the items passed over have fired, and the agenda state and the wake timer follow
(R34, R35). -/
theorem State.timeStepEvent_eq {x : State} {new : TowerTime} (hx : x.towerTime = some new) (old : TowerTime) {f : State}
    (hf : (x.itemsBetween old new).foldl State.fireItem x = f) :
    ∃ next, x.timeStepEvent old new =
        f.withCalendar { f.calendar with state := next, wakeTimer := f.wakeAt f.calendar.agenda new } ∧
      (old.day = new.day → next = x.calendar.state) ∧
      (old.day ≠ new.day →
        (∀ b q, x.calendar.state = .building b q → next = .building b (some .all)) ∧
        ((x.calendar.state = .stale ∨ x.calendar.state = .current) → next = .building (f.newBuild .all new) none)) := by
  obtain ⟨htime, _, _, hstate, _⟩ := State.foldl_fireItem_kept (x.itemsBetween old new) x
  rw [hf] at htime hstate
  have hft : f.towerTime = some new := by rw [← hx, State.towerTime, htime]; rfl
  have hfired := x.fireItems_eq (x.itemsBetween old new)
  rw [hf] at hfired
  generalize hg : x.fireItems (x.itemsBetween old new) = g at *
  have hgt : g.towerTime = some new := by rw [hfired]; exact hft
  have hgs : g.calendar.state = x.calendar.state := by rw [hfired]; exact hstate
  obtain ⟨hsame, hother⟩ := State.rebuildIfNewDay_state hgt old
  refine ⟨(g.rebuildIfNewDay old new).calendar.state, ?_, fun hd => (hsame hd).trans hgs, fun hd =>
    ⟨fun b q hb => (hother hd).1 b q (hgs.trans hb), fun hidle => ?_⟩⟩
  · rw [State.timeStepEvent, hg, State.recomputeWake, State.rebuildIfNewDay_eq]
    generalize (g.rebuildIfNewDay old new).calendar.state = next
    rw [hfired]
    exact congrArg (fun wake => f.withCalendar { f.calendar with state := next, wakeTimer := wake })
      (State.wakeTimerFor_of_time (s := f.withCalendar { f.calendar with state := next, wakeTimer := _ }) hft)
  · rw [(hother hd).2 (hgs ▸ hidle), hfired]
    rfl

/-- A time-step event steps the calendar (R34, R35). -/
theorem State.calendarStepped_timeStepEvent {x : State} {new : TowerTime} (hx : x.towerTime = some new)
    (old : TowerTime) : x.CalendarStepped (x.timeStepEvent old new) old new := by
  obtain ⟨_, _, _, _, htrunc, hlast, _, _⟩ := State.foldl_fireItem_kept (x.itemsBetween old new) x
  have hsome : x.towerTime ≠ none := by rw [hx]; exact Option.some_ne_none new
  have hsub := x.itemsBetween_sublist old new
  have hagenda := State.foldl_fireItem_agenda (x.itemsBetween old new) x hsome fun it hit => .inl (hsub.mem hit)
  have hentry : x.calendar.Ordered → ∀ e, ((x.itemsBetween old new).foldl State.fireItem x).entry e =
      x.entryAfter (x.itemsBetween old new) e := fun ⟨_, _, hstarts⟩ =>
    State.foldl_fireItem_entry_of_agenda hsome (fun it hit => hsub.mem hit) (hstarts.sublist hsub)
  have hnone : x.itemsBetween old new = [] → (x.itemsBetween old new).foldl State.fireItem x = x :=
    fun h => by rw [h]; rfl
  generalize hf : (x.itemsBetween old new).foldl State.fireItem x = f at *
  obtain ⟨next, heq, hsame, hother⟩ := State.timeStepEvent_eq hx old hf
  rw [heq]
  exact ⟨hagenda, hentry, htrunc, hlast, hsame, hother, rfl, fun h => by rw [hnone h]; rfl⟩

/-- A time-step event fires the items passed over, one after another (R30, R34). -/
theorem State.fireRun_timeStepEvent {x : State} {new : TowerTime} (hx : x.towerTime = some new) (old : TowerTime) :
    ∃ u, State.FireRun new (x.itemsBetween old new) x u ∧
      (x.itemsBetween old new = [] → u = x) ∧
      x.timeStepEvent old new = u.withCalendar { u.calendar with
        state := (x.timeStepEvent old new).calendar.state
        wakeTimer := (x.timeStepEvent old new).calendar.wakeTimer } := by
  obtain ⟨next, heq, _⟩ := State.timeStepEvent_eq hx old rfl
  refine ⟨_, State.fireRun_foldl new _ x hx, fun h => by rw [h]; rfl, ?_⟩
  generalize (x.itemsBetween old new).foldl State.fireItem x = f at *
  rw [heq]
  rfl

/-! ## New tower time -/

theorem cutFields_length {ws : List Nat} {os : List Octet} {l : List Nat} (h : cutFields ws os = some l) :
    os.length = ws.sum := by
  induction ws generalizing os l with
  | nil =>
    cases os with
    | nil => rfl
    | cons o os => cases h
  | cons w ws ih =>
    unfold cutFields at h
    split at h
    · cases h
    · next hw =>
      obtain ⟨rest, hrest, _⟩ := Option.map_eq_some_iff.1 h
      have hlen := ih hrest
      rw [List.length_drop] at hlen
      rw [List.sum_cons]
      omega

/-- The clock-set event begins a RESUME build (R33). -/
theorem State.setFromUnset_effect (s : State) {c : TowerClock} {p : TowerTime} (h : c.time = some p) :
    (s.setFromUnset c).time = { s.time with clock := c, remainder := 0 } ∧
      ∃ b, (s.setFromUnset c).calendar.state = .building b none ∧ b.scope = .resume := by
  unfold State.setFromUnset State.clockSetEvent
  rw [State.beginBuild_of_time (s := s.withTime { s.time with clock := c, remainder := 0 }) h]
  exact ⟨rfl, _, rfl, rfl⟩

theorem State.slewOrStep_of_near {s : State} {p old : TowerTime} (h : (timeDifference p old).natAbs ≤ 200) :
    s.slewOrStep p old = s.withTime { s.time with remainder := timeDifference p old } := if_pos h

theorem State.slewOrStep_of_far {s : State} {p old : TowerTime} (h : 200 < (timeDifference p old).natAbs) :
    s.slewOrStep p old =
      (s.withTime { s.time with clock := s.time.clock.retime p, remainder := 0 }).timeStepEvent old p :=
  if_neg (Nat.not_le.2 h)

theorem TowerClock.locking_of_time {c : TowerClock} {p : TowerTime} (h : c.time = some p) : c.locking = .locked p := by
  cases c with
  | unset => cases h
  | locked q => exact congrArg TowerClock.locked (Option.some.inj h)
  | freewheel q => exact congrArg TowerClock.locked (Option.some.inj h)

/-! ## Time frames -/

theorem exec_timeFrameCompletion {s : State} {f : Frame} {keeper taken : Nat}
    (hp : s.ingress.processing = some ⟨f, .time keeper, taken⟩) (ht : taken < s.now) :
    exec .timeFrameCompletion s = .next ((s.deliverTime f.payload).withIngress s.ingress.released) := by
  have hingress : (s.deliverTime f.payload).ingress = s.ingress := by simp
  change execTimeFrameCompletion s = _
  unfold execTimeFrameCompletion
  rw [hp]
  dsimp only
  rw [if_pos ht, State.idleIngress_eq, hingress]

theorem State.deliverTime_of_malformed {s : State} {os : List Octet} (h : os.length ≠ 8 ∨
    ∃ d m k, cutFields [2, 4, 2] os = some [d, m, k] ∧ (lastDay < d ∨ msPerDay ≤ m)) :
    s.deliverTime os = s.malformedTime := by
  unfold State.deliverTime
  obtain hlen | ⟨d, m, k, hcut, hout⟩ := h
  · have hnone : cutFields [2, 4, 2] os = none := by
      by_contra hc
      obtain ⟨l, hl⟩ := Option.ne_none_iff_exists'.1 hc
      exact hlen (cutFields_length hl)
    rw [hnone]
  · rw [hcut]
    have hfits : towerTimeFits d m = false := by
      rw [← Bool.not_eq_true, towerTimeFits_iff]
      omega
    simp [hfits]

theorem State.deliverTime_of_fits {s : State} {os : List Octet} {d m k : Nat}
    (h : cutFields [2, 4, 2] os = some [d, m, k]) (hd : d ≤ lastDay) (hm : m < msPerDay) :
    s.deliverTime os = if s.early then s.rejectEarly else s.acceptTime ⟨d, m⟩ k := by
  have hfits : towerTimeFits d m = true := towerTimeFits_iff.2 ⟨hd, hm⟩
  unfold State.deliverTime
  rw [h]
  simp [hfits]

theorem State.early_eq_true {s : State} {i : Nat} (h : s.time.lastAccepted = some i) (hi : s.now < i + 900) :
    s.early = true := by
  simp [State.early, h, hi]

theorem State.early_eq_false {s : State} (h : ∀ i, s.time.lastAccepted = some i → i + 900 ≤ s.now) :
    s.early = false := by
  unfold State.early
  cases hl : s.time.lastAccepted with
  | none => rfl
  | some i => exact decide_eq_false (Nat.not_lt.2 (h i hl))

/-- The time unit at an accepted frame, the clock left open (R9). -/
def State.acceptedTime (s : State) (tick : Nat) (clock : TowerClock) (remainder : Int) : TimeUnit :=
  { s.time with
    lastAccepted := some s.now, lastTick := some tick, earlyRun := 0
    acceptedCount := wrapInc s.time.acceptedCount, lossTimer := some (s.now + 3000)
    clock := clock, remainder := remainder }

theorem State.acceptTime_of_unset {s : State} (h : s.towerTime = none) (p : TowerTime) (tick : Nat) :
    s.acceptTime p tick = (s.noteAccepted tick).setFromUnset (.locked p) := by
  rw [State.acceptTime, h]

theorem State.acceptTime_of_near {s : State} {old p : TowerTime} (h : s.towerTime = some old)
    (hnear : (timeDifference p old).natAbs ≤ 200) (tick : Nat) :
    s.acceptTime p tick = s.withTime (s.acceptedTime tick (.locked old) (timeDifference p old)) := by
  rw [State.acceptTime, h]
  dsimp only
  rw [State.slewOrStep_of_near hnear, ← TowerClock.locking_of_time h]
  rfl

theorem State.acceptTime_of_far {s : State} {old p : TowerTime} (h : s.towerTime = some old)
    (hfar : 200 < (timeDifference p old).natAbs) (tick : Nat) :
    s.acceptTime p tick = (s.withTime (s.acceptedTime tick (.locked p) 0)).timeStepEvent old p := by
  have hclock : (s.noteAccepted tick).time.clock.retime p = .locked p := by
    rw [show (s.noteAccepted tick).time.clock = s.time.clock.locking from rfl, TowerClock.locking_of_time h]
    rfl
  rw [State.acceptTime, h]
  dsimp only
  rw [State.slewOrStep_of_far hfar, hclock]
  rfl

/-- Settles O17. -/
theorem timeFrameIsCheckedAndApplied : Obligations.TimeFrameIsCheckedAndApplied := by
  unfold Obligations.TimeFrameIsCheckedAndApplied
  refine ⟨fun s f keeper taken hp ht => ?_, fun s p e htimer hdue hclock => ?_⟩
  · rw [exec_timeFrameCompletion hp ht]
    refine ⟨fun hbad => ?_, fun d m k i hcut hd hm hlast hearly => ?_, fun d m k hcut hd hm hlate => ?_⟩
    · rw [State.deliverTime_of_malformed hbad]
      rfl
    · rw [State.deliverTime_of_fits hcut hd hm, if_pos (State.early_eq_true hlast hearly)]
      refine ⟨fun hrun => ?_, fun hrun => ?_⟩
      · rw [State.rejectEarly, if_neg hrun]
      · rw [State.rejectEarly, if_pos hrun]
    · rw [State.deliverTime_of_fits hcut hd hm, if_neg (by rw [State.early_eq_false hlate]; exact Bool.false_ne_true)]
      refine ⟨_, rfl, rfl, fun hnone => ?_, fun p hpt hnear => ?_, fun p hpt hfar => ?_⟩
      · rw [State.acceptTime_of_unset hnone]
        exact (s.noteAccepted k).setFromUnset_effect (c := .locked ⟨d, m⟩) rfl
      · rw [State.acceptTime_of_near hpt hnear]
        rfl
      · rw [State.acceptTime_of_far hpt hfar]
        have htime : ((s.withTime (s.acceptedTime k (.locked ⟨d, m⟩) 0)).timeStepEvent p ⟨d, m⟩).time =
            s.acceptedTime k (.locked ⟨d, m⟩) 0 := by simp
        have hx : (s.withTime (s.acceptedTime k (.locked ⟨d, m⟩) 0)).towerTime = some ⟨d, m⟩ := rfl
        have hstepped := State.calendarStepped_timeStepEvent hx p
        obtain ⟨u, hrun, hnone, hu⟩ := State.fireRun_timeStepEvent hx p
        generalize (s.withTime (s.acceptedTime k (.locked ⟨d, m⟩) 0)).timeStepEvent p ⟨d, m⟩ = t at *
        refine ⟨htime, hstepped, ⟨u, ?_, ?_⟩, fun hitems => ?_⟩
        · rw [State.withIngress_time, htime]
          exact hrun
        · conv_lhs => rw [hu]
          rfl
        · rw [State.withIngress_time, htime]
          obtain rfl := hnone hitems
          rw [hu]
          rfl
  · refine congrArg Host.Outcome.next ((if_pos (by rw [htimer]; exact decide_eq_true hdue)).trans ?_)
    rw [State.loseTimekeeper, hclock]
    rfl

/-! ## SET_TIME -/

theorem setTimeAnswer_of_unset {s : State} {d m : Nat} (hd : d ≤ lastDay) (hm : m < msPerDay) (h : s.towerTime = none) :
    setTimeAnswer d m s = ⟨.ok, .timeApplied .set none, s.setFromUnset (.freewheel ⟨d, m⟩), .nothing⟩ := by
  have hfits : towerTimeFits d m = true := towerTimeFits_iff.2 ⟨hd, hm⟩
  simp [setTimeAnswer, hfits, h]

theorem setTimeAnswer_of_time {s : State} {d m : Nat} {p : TowerTime} (hd : d ≤ lastDay) (hm : m < msPerDay)
    (h : s.towerTime = some p) :
    setTimeAnswer d m s = ⟨.ok, .timeApplied (if (timeDifference ⟨d, m⟩ p).natAbs ≤ 200 then .slewed else .stepped)
      (some (timeDifference ⟨d, m⟩ p)), s.slewOrStep ⟨d, m⟩ p, .nothing⟩ := by
  have hfits : towerTimeFits d m = true := towerTimeFits_iff.2 ⟨hd, hm⟩
  simp [setTimeAnswer, hfits, h]

/-- Settles O18. -/
theorem setTimeSetsSlewsOrSteps : Obligations.SetTimeSetsSlewsOrSteps := by
  unfold Obligations.SetTimeSetsSlewsOrSteps
  intro h d m s ht
  refine ⟨fun hout => ?_, fun hd hm hunset => ?_, fun p hd hm hp hnear => ?_, fun p hd hm hp hfar => ?_⟩
  · refine congrArg Host.Outcome.next (State.request_refuse (owner := setTimeAnswer d m) ht (if_pos ?_))
    rw [Bool.not_eq_true', ← Bool.not_eq_true, towerTimeFits_iff]
    omega
  · have hanswer := setTimeAnswer_of_unset (s := s.atTake) hd hm (congrArg TowerClock.time hunset)
    obtain ⟨htime, hbuild⟩ := s.atTake.setFromUnset_effect (c := .freewheel ⟨d, m⟩) rfl
    exact ⟨_, State.next_request_answer ht hanswer (by simp) rfl, htime, rfl, hbuild⟩
  · have hanswer := setTimeAnswer_of_time (s := s.atTake) hd hm hp
    rw [if_pos hnear, State.slewOrStep_of_near hnear] at hanswer
    exact State.next_request_answer ht (owner := setTimeAnswer d m) hanswer rfl rfl
  · have hanswer := setTimeAnswer_of_time (s := s.atTake) hd hm hp
    rw [if_neg (Nat.not_le.2 hfar), State.slewOrStep_of_far hfar] at hanswer
    generalize hx : s.atTake.withTime
      { s.atTake.time with clock := s.atTake.time.clock.retime ⟨d, m⟩, remainder := 0 } = x at hanswer
    have hxt : x.towerTime = some ⟨d, m⟩ := by
      rw [← hx]
      refine (TowerClock.time_retime _ _).trans ?_
      rw [show s.atTake.time.clock.time = some p from hp]
      rfl
    have htime : (x.timeStepEvent p ⟨d, m⟩).time = x.time := by simp
    have hstepped := State.calendarStepped_timeStepEvent hxt p
    obtain ⟨u, hrun, hnone, hu⟩ := State.fireRun_timeStepEvent hxt p
    have hexec : exec (.setTime h d m) s = .next (s.request (.setTime h d m) h (setTimeAnswer d m)) := rfl
    rw [hexec, State.request_of_takes ht, hanswer]
    generalize x.timeStepEvent p ⟨d, m⟩ = t at *
    subst hx
    refine ⟨_, rfl, htime, List.getLast?_concat, hstepped, ⟨u, ?_, ?_⟩, fun hitems => ?_⟩
    · change State.FireRun _ _ ((s.withTime t.time).withMgmt _) u
      rw [htime]
      exact hrun
    · change t.placeReply _ = _
      conv_lhs => rw [hu]
      rfl
    · change t.placeReply _ = ((s.withTime t.time).withCalendar t.calendar).withMgmt _
      rw [htime]
      obtain rfl := hnone hitems
      rw [hu]
      rfl

end Sys2Proof.Machine
end

section
/-! SUPPORT. Full resets: what every block comes up as from an image, and tower time kept or lost (11). -/

namespace Sys2Proof.Machine

/-! ## The lanes that come up -/

theorem State.comeUp_lane_of {s : State} {img : Image} (hi : img.Canonical) (clock : TowerClock) (image : ImageStore)
    (l : Nat) : (s.comeUp img clock image).lane l = Lane.initial (Table.read .blank img.lanes l) := by
  obtain ⟨_, _, _, _, _, _, hlanes, _⟩ := hi
  exact Table.read_mapVals LaneConfig.blank Lane.blank (fun _ c => Lane.initial c) _ l hlanes rfl

theorem Lane.initial_rest_iff (c : LaneConfig) : (Lane.initial c).state = .rest ↔ c.configured = true := by
  unfold Lane.initial
  cases c.configured <;> simp

/-- An IDLE switch stays IDLE while lanes are woken: waking settles the statuses and selects nothing (R158). -/
theorem State.wakeIfResting_switch {s : State} (h : s.lanes.switch = .idle) (ls : List Nat) :
    (s.wakeIfResting ls).lanes.switch = .idle := by
  have hsettle : ∀ u : State, u.lanes.switch = .idle → u.settleLanes.lanes.switch = .idle := by
    classical
    intro u hu
    rw [State.settleLanes_statuses, hu]
    exact ite_self _
  unfold State.wakeIfResting
  induction ls generalizing s with
  | nil => exact h
  | cons l ls ih =>
    refine ih ?_
    unfold State.wakeLane
    split
    · rw [State.toSetup_eq]
      exact hsettle _ ((State.placeFrame_registers ..).2.1.trans h)
    · exact h

/-- What the lanes adopt when they come up with the requested guard state on (R164, R197). -/
theorem State.adoptIdle_of_dark {v : State} (hdark : ∀ l, l < 24 → (v.lane l).composing = false) :
    v.adoptIdle.lanes.registers = v.lanes.registers ∧ v.adoptIdle.lanes.switch = .idle ∧
      (∀ l, l < 24 → v.adoptIdle.lane l = v.adopted (v.lane l)) ∧
      (∀ l, v.adoptIdle.waitingFrame l = v.waitingFrame l) ∧ v.adoptIdle.GuardTold := by
  obtain ⟨records, hfold, hread⟩ := State.foldl_adoptLane_effect laneNumbers v
  unfold State.adoptIdle
  have hlane : ∀ l, l < 24 → (laneNumbers.foldl State.adoptLane v).lane l = v.adopted (v.lane l) := fun l hl => by
    rw [hfold]
    exact (hread l).trans (if_pos ⟨mem_laneNumbers.2 hl, hdark l hl⟩)
  have hlanes : (laneNumbers.foldl State.adoptLane v).lanes = { v.lanes with lanes := records } := by rw [hfold]; rfl
  have hadopted : ∀ l, l < 24 → ((laneNumbers.foldl State.adoptLane v).lane l).guardInUse =
      (laneNumbers.foldl State.adoptLane v).lanes.requestedGuard := fun l hl => by rw [hlane l hl, hlanes]; rfl
  have hbank : ∀ l, l < 24 → ((laneNumbers.foldl State.adoptLane v).lane l).bank =
      (laneNumbers.foldl State.adoptLane v).lanes.selected := fun l hl => by rw [hlane l hl, hlanes]; rfl
  refine ⟨?_, (State.settleLanes_each _).1 hbank, fun l hl => (State.lane_settleLanes ..).trans (hlane l hl),
    fun l => (State.waitingFrame_settleLanes ..).trans ?_, State.guardTold_settleLanes fun ⟨l, hl, hne⟩ =>
      absurd (hadopted l hl) hne⟩
  · rw [State.settleLanes_registers, hlanes]
    rfl
  · unfold State.waitingFrame
    rw [hlanes]

/-- The lanes after the restore with the requested guard state on: all adopt, and those that an enabled range names begin
their first attempt (R164, R197). -/
theorem State.restoreGuard_on {v : State} (hon : v.lanes.requestedGuard = true)
    (hdark : ∀ l, l < 24 → (v.lane l).composing = false) (hswitch : v.lanes.switch = .idle)
    (hwaiting : ∀ l, v.waitingFrame l = none) :
    v.restoreGuard.lanes = { v.lanes with
        lanes := v.restoreGuard.lanes.lanes, waiting := v.restoreGuard.lanes.waiting, guardStatus := .enabled } ∧
      ∀ l, l < 24 →
        (((v.lane l).state = .rest ∧ v.rangeNames l = true) →
          v.restoreGuard.lane l = v.attempting (v.adopted (v.lane l)) true ∧
          v.restoreGuard.waitingFrame l = some ⟨v.now, v.attemptFrame l (v.lane l)⟩) ∧
        (¬ ((v.lane l).state = .rest ∧ v.rangeNames l = true) →
          v.restoreGuard.lane l = v.adopted (v.lane l) ∧ v.restoreGuard.waitingFrame l = none) := by
  obtain ⟨hregisters, hidle, hlane, hframe, htold⟩ := State.adoptIdle_of_dark hdark
  have htime : v.adoptIdle.time = v.time := by simp
  have hmgmt : v.adoptIdle.mgmt = v.mgmt := by simp
  rw [show v.restoreGuard = v.adoptIdle.wakeGuarded from if_pos hon]
  generalize v.adoptIdle = a at *
  have hnames : ∀ l, a.rangeNames l = v.rangeNames l := State.rangeNames_congr hregisters
  have hrequested : a.lanes.requestedGuard = v.lanes.requestedGuard :=
    congrArg (fun x => x.requestedGuard) hregisters
  have hadopts : ∀ r, a.adopted r = v.adopted r := State.adopted_congr hregisters
  have hnodup := laneNumbers_nodup.filter a.rangeNames
  have hswitch' : a.wakeGuarded.lanes.switch = .idle := State.wakeIfResting_switch hidle _
  have hregisters' : a.wakeGuarded.lanes.registers = v.lanes.registers :=
    (State.wakeIfResting_registers a (laneNumbers.filter a.rangeNames)).trans hregisters
  have htold' : a.wakeGuarded.GuardTold := htold.wakeIfResting (fun l hl _ => by rw [hlane l hl, hrequested]; rfl) _
  have heach : ∀ l, l < 24 →
      (((v.lane l).state = .rest ∧ v.rangeNames l = true) →
        a.wakeGuarded.lane l = v.attempting (v.adopted (v.lane l)) true ∧
        a.wakeGuarded.waitingFrame l = some ⟨v.now, v.attemptFrame l (v.lane l)⟩) ∧
      (¬ ((v.lane l).state = .rest ∧ v.rangeNames l = true) →
        a.wakeGuarded.lane l = v.adopted (v.lane l) ∧ a.wakeGuarded.waitingFrame l = none) := by
    intro l hl
    obtain ⟨hwoken, hkept⟩ := a.wakeIfResting_lane hnodup l
    have hcond : (l ∈ laneNumbers.filter a.rangeNames ∧ (a.lane l).state = .rest) ↔
        (v.lane l).state = .rest ∧ v.rangeNames l = true := by
      rw [List.mem_filter, mem_laneNumbers, hnames, hlane l hl]
      exact ⟨fun ⟨⟨_, hn⟩, hr⟩ => ⟨hr, hn⟩, fun ⟨hr, hn⟩ => ⟨⟨hl, hn⟩, hr⟩⟩
    refine ⟨fun h => ?_, fun h => ?_⟩
    · obtain ⟨hl', hw⟩ := hwoken (hcond.2 h)
      have hsettings : a.settings = v.settings := congrArg ManagementUnit.settings hmgmt
      have hnow : a.now = v.now := congrArg TimeUnit.runClock htime
      refine ⟨hl'.trans ?_, hw.trans ?_⟩
      · rw [State.attempting, hadopts, hlane l hl, hsettings]
        rfl
      · rw [State.placedAge, State.attemptFrame, hframe l, hwaiting l, hlane l hl, hsettings, hnow]
        rfl
    · have halike := hkept (mt hcond.1 h)
      exact ⟨halike.lane.trans (hlane l hl), halike.waiting.trans ((hframe l).trans (hwaiting l))⟩
  generalize a.wakeGuarded = w at *
  refine ⟨?_, heach⟩
  have hrequested' : w.lanes.requestedGuard = true := (congrArg (fun x => x.requestedGuard) hregisters').trans hon
  have hadopted : ∀ l, l < 24 → (w.lane l).guardInUse = w.lanes.requestedGuard := fun l hl => by
    obtain ⟨hwoken, hkept⟩ := heach l hl
    rw [hrequested', ← hon]
    by_cases h : (v.lane l).state = .rest ∧ v.rangeNames l = true
    · rw [(hwoken h).1]; rfl
    · rw [(hkept h).1]; rfl
  have hstatus := htold'.1 hadopted
  rw [hrequested', if_pos rfl] at hstatus
  have heq := LaneController.registers_eq hregisters'
  rw [hstatus, hswitch', ← hswitch] at heq
  exact heq

end Sys2Proof.Machine
end

section
/-! SUPPORT. POWER_ON, the RESET line, and the end of a RESTART's reply (11). -/

namespace Sys2Proof.Machine

/-! ## What a full reset leaves -/

theorem State.restoreGuard_lanes (v : State) : v.restoreGuard = v.withLanes v.restoreGuard.lanes := by
  unfold State.restoreGuard
  split
  · exact State.eq_withLanes (by simp [State.wakeGuarded])
  · rfl

/-- A full reset is what comes up from the image with the lanes' events and the RESUME build (R41, R195, R197). -/
theorem State.fullReset_eq (s : State) (clock : TowerClock) (causes : ResetCauses) {v : State}
    (hv : s.comeUp s.image.storedAtReset.restored clock (s.image.restored causes) = v) :
    ∃ state, s.fullReset clock causes =
        (v.withLanes v.restoreGuard.lanes).withCalendar { v.calendar with state := state } ∧
      (clock.time = none → state = .stale) ∧
      ∀ p, clock.time = some p → state = .building ((s.fullReset clock causes).newBuild .resume p) none := by
  have htime : v.time.clock = clock := by rw [← hv]; rfl
  have hstale : v.calendar.state = .stale := by rw [← hv]; rfl
  unfold State.fullReset
  rw [hv, State.restoreGuard_lanes v]
  generalize v.restoreGuard.lanes = lanes
  unfold State.resumeIfTime
  have hclock : (v.withLanes lanes).towerTime = clock.time := by rw [← htime]; rfl
  rw [hclock]
  cases hc : clock.time with
  | none => exact ⟨.stale, by rw [← hstale]; rfl, fun _ => rfl, nofun⟩
  | some p =>
    rw [Option.isSome_some, if_pos rfl, State.beginBuild_of_time (hclock.trans hc)]
    refine ⟨_, rfl, nofun, fun q hq => ?_⟩
    obtain rfl := Option.some.inj hq
    rfl

/-- What comes up from an image is restored from it (R195). -/
theorem State.restoredFrom_comeUp (s : State) {img : Image} (hi : img.Canonical) (clock : TowerClock) (image : ImageStore)
    {v : State} (hv : s.comeUp img clock image = v) (state : AgendaState) :
    ((v.withLanes v.restoreGuard.lanes).withCalendar { v.calendar with state := state }).RestoredFrom img := by
  have hlane : ∀ l, v.lane l = Lane.initial (Table.read .blank img.lanes l) := fun l => by
    rw [← hv]; exact State.comeUp_lane_of hi clock image l
  have hrequested : v.lanes.requestedGuard = img.requestedGuard := by rw [← hv]; rfl
  have hzone : ∀ z, v.zone z = ⟨none, none, Table.read .black img.houseLooks z, []⟩ := by
    obtain ⟨_, _, _, _, _, _, _, hhouses, _⟩ := hi
    intro z
    rw [← hv]
    exact Table.read_mapVals Look.black Zone.blank (fun _ l => { Zone.blank with house := l }) _ z hhouses rfl
  have hsource : ∀ i, v.source i = (Table.read .blank img.sources i).source := by
    obtain ⟨_, _, _, hsources, _⟩ := hi
    intro i
    rw [← hv]
    exact Table.read_mapVals SourceConfig.blank Source.blank (fun _ c => c.source) _ i hsources rfl
  have hcontroller : v.lanes = { LaneController.initial with
      lanes := v.lanes.lanes, bank0 := img.outputBank, guards := img.guards, requestedGuard := img.requestedGuard
      guardStatus := if img.requestedGuard then .settling else .disabled } := by rw [← hv]; rfl
  have hnow : v.now = 0 := by rw [← hv]; rfl
  have hsettings : v.settings = img.settings := by rw [← hv]; rfl
  have hlanes : v.restoreGuard.lanes = { LaneController.initial with
        lanes := v.restoreGuard.lanes.lanes, waiting := v.restoreGuard.lanes.waiting, bank0 := img.outputBank
        guards := img.guards, requestedGuard := img.requestedGuard
        guardStatus := if img.requestedGuard then .enabled else .disabled } ∧
      (img.requestedGuard = false → (∀ l, v.restoreGuard.lane l = v.lane l) ∧ v.restoreGuard.lanes.waiting = []) ∧
      (img.requestedGuard = true → ∀ l, l < 24 →
        (((v.lane l).state = .rest ∧ v.rangeNames l = true) →
          v.restoreGuard.lane l = v.attempting (v.adopted (v.lane l)) true ∧
          v.restoreGuard.waitingFrame l = some ⟨v.now, v.attemptFrame l (v.lane l)⟩) ∧
        (¬ ((v.lane l).state = .rest ∧ v.rangeNames l = true) →
          v.restoreGuard.lane l = v.adopted (v.lane l) ∧ v.restoreGuard.waitingFrame l = none)) := by
    cases hr : img.requestedGuard with
    | false =>
      have hoff : v.restoreGuard = v := if_neg (by rw [hrequested, hr]; decide)
      rw [hoff]
      refine ⟨hcontroller.trans ?_, fun _ => ⟨fun _ => rfl, by rw [hcontroller]; rfl⟩, nofun⟩
      rw [hr, show v.lanes.waiting = [] by rw [hcontroller]; rfl]
      rfl
    | true =>
      obtain ⟨heq, heach⟩ := State.restoreGuard_on (hrequested.trans hr)
        (fun l _ => by rw [hlane l]; exact Lane.initial_composing _) (by rw [hcontroller]; rfl)
        (fun l => by rw [State.waitingFrame, hcontroller]; rfl)
      refine ⟨heq.trans ?_, nofun, fun _ => heach⟩
      rw [hcontroller, hr]
      rfl
  have hnames : ∀ l, v.restoreGuard.rangeNames l = v.rangeNames l := fun l => by
    unfold State.rangeNames State.guardRange
    rw [hlanes.1, hcontroller]
  have hadopted : ∀ c, img.requestedGuard = true → v.adopted (Lane.initial c) = { Lane.initial c with guardInUse := true } :=
    fun c hr => by
      unfold State.adopted
      rw [hrequested, hr, show v.lanes.selected = .bank0 by rw [hcontroller]; rfl]
      rfl
  have hrest : ∀ l c, Table.read .blank img.lanes l = c →
      (((v.lane l).state = .rest ∧ v.rangeNames l = true) ↔ (c.configured && v.rangeNames l) = true) := fun l c hc => by
    rw [hlane l, hc, Lane.initial_rest_iff, Bool.and_eq_true]
  have hblocks : v.faults = .initial ∧ v.playback = ⟨[], 0, 0⟩ ∧
      v.calendar = { CalendarEngine.initial with entries := img.entries, state := v.calendar.state } ∧
      v.cueStore = ⟨img.shows, img.cues⟩ ∧ v.mgmt = { ManagementUnit.initial with settings := img.settings } ∧
      v.mixer.live = [] ∧ v.mixer.bands = img.bands ∧
      v.ingress = { IngressProcessor.initial with sources := v.ingress.sources, bank0 := img.inputBank } := by
    rw [← hv]
    exact ⟨rfl, rfl, rfl, rfl, rfl, rfl, rfl, rfl⟩
  generalize v.restoreGuard = w at *
  obtain ⟨hfaults, hplayback, hcalendar, hcues, hmgmt, hlive, hbands, hingress⟩ := hblocks
  obtain ⟨hcontroller', hoff, hon⟩ := hlanes
  refine ⟨hfaults, hplayback, ?_, hcues, hmgmt, hlive, hbands, hzone, hingress, fun i x hx => ?_, hcontroller',
    fun hr => ⟨fun l => ?_, (hoff hr).2⟩, fun hr l c hl hc => ⟨fun hw => ?_, fun hw => ?_⟩⟩
  · change { v.calendar with state := state } = _
    rw [hcalendar]
    rfl
  · exact (hsource i).trans (by rw [hx]; rfl)
  · exact ((hoff hr).1 l).trans (hlane l)
  · have hnamed : (c.configured && v.rangeNames l) = true := by rw [← hnames l]; exact hw
    obtain ⟨hl', hf'⟩ := (hon hr l hl).1 ((hrest l c hc).2 hnamed)
    refine ⟨hl'.trans ?_, hf'.trans ?_⟩
    · rw [hlane l, hc, hadopted c hr, State.attempting, hsettings, State.adopted, hrequested, hr,
        show v.lanes.selected = .bank0 by rw [hcontroller]; rfl]
      rfl
    · rw [hnow, State.attemptFrame, hsettings, hlane l, hc]
      rfl
  · have hnot : ¬ (c.configured && v.rangeNames l) = true := by
      rw [← hnames l, Bool.not_eq_true]; exact hw
    obtain ⟨hl', hf'⟩ := (hon hr l hl).2 (mt (hrest l c hc).1 hnot)
    exact ⟨hl'.trans (by rw [hlane l, hc, hadopted c hr]), hf'⟩

/-! ## The resets -/

/-- What every full reset leaves, whatever image it restores (R41, R195, R196). -/
structure State.ResetTo (s t : State) (clock : TowerClock) (causes : ResetCauses) : Prop where
  time : t.time = { TimeUnit.initial with clock := clock }
  faults : t.faults = .initial
  playback : t.playback = ⟨[], 0, 0⟩
  mgmt : t.mgmt.requests = [] ∧ t.mgmt.outbound = [] ∧ t.mgmt.line = none ∧ t.mgmt.restartPending = false
  calendar : t.calendar.agenda = [] ∧ t.calendar.wakeTimer = none
  image : t.image = s.image.restored causes
  stale : clock.time = none → t.calendar.state = .stale
  building : ∀ p, clock.time = some p → t.calendar.state = .building (t.newBuild .resume p) none
  restored : ∀ img, (s.image.storedAtReset = .image img ∨
    ((s.image.storedAtReset = .blank ∨ s.image.storedAtReset = .failing) ∧ img = .defaults)) →
      img.Canonical → t.RestoredFrom img

theorem State.resetTo_fullReset (s : State) (clock : TowerClock) (causes : ResetCauses) :
    s.ResetTo (s.fullReset clock causes) clock causes := by
  obtain ⟨state, heq, hstale, hbuilding⟩ := s.fullReset_eq clock causes rfl
  have hrestored : ∀ img, s.image.storedAtReset.restored = img → img.Canonical →
      (s.fullReset clock causes).RestoredFrom img := by
    rintro img rfl hi
    rw [heq]
    exact s.restoredFrom_comeUp hi clock _ rfl state
  have himage := s.fullReset_image clock causes
  have htime : (s.fullReset clock causes).time = { TimeUnit.initial with clock := clock } := by rw [heq]; rfl
  have hfaults : (s.fullReset clock causes).faults = .initial := by rw [heq]; rfl
  have hplayback : (s.fullReset clock causes).playback = ⟨[], 0, 0⟩ := by rw [heq]; rfl
  have hagenda : (s.fullReset clock causes).calendar.agenda = [] := by rw [heq]; rfl
  have hwake : (s.fullReset clock causes).calendar.wakeTimer = none := by rw [heq]; rfl
  have hstate : (s.fullReset clock causes).calendar.state = state := by rw [heq]; rfl
  have hmgmt := s.fullReset_settings clock causes
  generalize s.fullReset clock causes = t at *
  refine ⟨htime, hfaults, hplayback, by rw [hmgmt]; exact ⟨rfl, rfl, rfl, rfl⟩, ⟨hagenda, hwake⟩, himage,
    fun h => hstate.trans (hstale h), fun p h => hstate.trans (hbuilding p h), fun img himg hi => hrestored img ?_ hi⟩
  obtain h | ⟨h | h, rfl⟩ := himg <;> rw [h] <;> rfl

theorem State.ResetTo.slot {s t : State} {clock : TowerClock} {causes : ResetCauses} (h : s.ResetTo t clock causes)
    (k : Nat) : t.slot k = none := by
  unfold State.slot
  rw [h.playback]
  rfl

theorem State.ResetTo.stored {s t : State} {clock : TowerClock} {causes : ResetCauses} (h : s.ResetTo t clock causes) :
    t.image.stored = s.image.storedAtReset ∧
      t.image.causes = { causes with imageBad := decide (s.image.storedAtReset = .failing) } := by
  rw [h.image]
  exact ⟨rfl, rfl⟩

/-! ## Tower time kept by a reset -/

theorem State.keptClock_of_unset {s : State} (h : s.towerTime = none) (ms : Nat) : s.keptClock ms = .unset := by
  rw [State.keptClock, TowerClock.after, show s.time.clock.time = none from h]
  rfl

theorem State.keptClock_of_range {s : State} {p : TowerTime} (h : s.towerTime = some p) {ms : Nat}
    (hday : (TowerTime.ofAbs (p.abs + ms)).day ≤ lastDay) : s.keptClock ms = .freewheel (.ofAbs (p.abs + ms)) := by
  rw [State.keptClock, TowerClock.after, show s.time.clock.time = some p from h]
  dsimp only
  rw [if_neg (Nat.not_lt.2 hday)]
  cases hc : s.time.clock with
  | unset => rw [State.towerTime, hc] at h; cases h
  | locked q => rfl
  | freewheel q => rfl

theorem State.keptClock_of_end {s : State} {p : TowerTime} (h : s.towerTime = some p) {ms : Nat}
    (hday : lastDay < (TowerTime.ofAbs (p.abs + ms)).day) : s.keptClock ms = .unset := by
  rw [State.keptClock, TowerClock.after, show s.time.clock.time = some p from h]
  dsimp only
  rw [if_pos hday]
  rfl

theorem TowerTime.ofAbs_abs {p : TowerTime} (h : p.ms < msPerDay) : TowerTime.ofAbs p.abs = p := by
  obtain ⟨day, ms⟩ := p
  have hpos : 0 < msPerDay := by decide
  simp only [TowerTime.ofAbs, TowerTime.abs, TowerTime.mk.injEq]
  exact ⟨by rw [Nat.mul_add_div hpos, Nat.div_eq_of_lt h, Nat.add_zero], by rw [Nat.mul_add_mod, Nat.mod_eq_of_lt h]⟩

/-- Settles O13. -/
theorem resetLineKeepsTowerTime : Obligations.ResetLineKeepsTowerTime := by
  unfold Obligations.ResetLineKeepsTowerTime
  intro s ms
  have hreset := s.resetTo_fullReset (s.keptClock ms) { s.image.causes with resetLine := true }
  have hexec : exec (.resetLine ms) s =
      .next (s.fullReset (s.keptClock ms) { s.image.causes with resetLine := true }) := rfl
  generalize s.fullReset (s.keptClock ms) { s.image.causes with resetLine := true } = t at *
  obtain ⟨hrequests, houtbound, hline, _⟩ := hreset.mgmt
  obtain ⟨hagenda, hwake⟩ := hreset.calendar
  obtain ⟨hstored, hcauses⟩ := hreset.stored
  have hclock : t.time.clock = s.keptClock ms := by rw [hreset.time]
  refine ⟨t, hexec, hreset.time, fun hnone => ?_, fun p hp hday => ?_, fun p hp hday => ?_, hreset.faults, hstored,
    hreset.restored, hreset.slot, hrequests, houtbound, hline, hagenda, hwake, hcauses⟩
  · have hkept := State.keptClock_of_unset hnone ms
    exact ⟨hclock.trans hkept, hreset.stale (by rw [hkept]; rfl)⟩
  · have hkept := State.keptClock_of_range hp hday
    have hbuild := hreset.building (.ofAbs (p.abs + ms)) (by rw [hkept]; rfl)
    exact ⟨hclock.trans hkept, hbuild, _, hbuild, rfl⟩
  · have hkept := State.keptClock_of_end hp hday
    exact ⟨hclock.trans hkept, hreset.stale (by rw [hkept]; rfl)⟩

/-- Settles O11. -/
theorem restartTakesEffectAtReplyEnd : Obligations.RestartTakesEffectAtReplyEnd := by
  unfold Obligations.RestartTakesEffectAtReplyEnd
  refine ⟨fun h s ht => ?_, fun s r begun hline hend hbegun hpending => ?_⟩
  · have hexec : exec (.restart h) s = .next (s.request (.restart h) h restartAnswer) := rfl
    rw [hexec, State.request_of_takes ht]
    rfl
  · have hexec : exec .showPortTransmitEnd s = .next ((s.withMgmt { s.mgmt with line := none }).fullReset
        ((s.withMgmt { s.mgmt with line := none }).keptClock 0) { s.image.causes with restart := true }) := by
      rw [exec_showPortTransmitEnd_of_ends hline hbegun]
      refine congrArg Host.Outcome.next ?_
      change (s.withMgmt { s.mgmt with line := none }).endReply r.atEnd = _
      rw [hend]
      exact if_pos hpending
    have hreset := (s.withMgmt { s.mgmt with line := none }).resetTo_fullReset
      ((s.withMgmt { s.mgmt with line := none }).keptClock 0) { s.image.causes with restart := true }
    generalize (s.withMgmt { s.mgmt with line := none }).fullReset
      ((s.withMgmt { s.mgmt with line := none }).keptClock 0) { s.image.causes with restart := true } = t at *
    obtain ⟨hrequests, houtbound, hidle, hdone⟩ := hreset.mgmt
    obtain ⟨hstored, hcauses⟩ := hreset.stored
    refine ⟨t, hexec, by rw [State.now, hreset.time]; rfl, hrequests, houtbound, hidle, hdone, hreset.slot, hreset.faults,
      hcauses, hstored, hreset.restored, fun hnone => ?_, fun p hp hday hms => ?_⟩
    · have hkept : (s.withMgmt { s.mgmt with line := none }).keptClock 0 = .unset := State.keptClock_of_unset hnone 0
      exact ⟨by rw [hreset.time, hkept]; rfl, hreset.stale (by rw [hkept]; rfl)⟩
    · have hp' : (s.withMgmt { s.mgmt with line := none }).towerTime = some p := hp
      have hkept := State.keptClock_of_range (ms := 0) hp' (by rw [Nat.add_zero, TowerTime.ofAbs_abs hms]; exact hday)
      rw [Nat.add_zero, TowerTime.ofAbs_abs hms] at hkept
      exact ⟨by rw [hreset.time, hkept], hreset.building p (by rw [hkept]; rfl)⟩

/-- A power-on from the defaults is the machine right after reset, but for the image store (R195, R196). -/
theorem exec_powerOn_defaults {s : State} (h : s.image.storedAtReset.restored = .defaults) :
    exec .powerOn s = .next { State.reset with
      image := s.image.restored ⟨true, false, false, false⟩, pending := s.pending, freeCount := s.freeCount } := by
  refine congrArg Host.Outcome.next ?_
  unfold State.powerOnReset State.fullReset
  rw [h]
  rfl

/-- Settles O12. -/
theorem powerOnRestoresFromImage : Obligations.PowerOnRestoresFromImage := by
  unfold Obligations.PowerOnRestoresFromImage
  refine ⟨fun s hblank => ?_, fun s hfailing => ?_, fun s img himg hi => ?_⟩
  · rw [exec_powerOn_defaults (by rw [hblank]; rfl), ImageStore.restored, hblank]
    rfl
  · rw [exec_powerOn_defaults (by rw [hfailing]; rfl), ImageStore.restored, hfailing]
    rfl
  · have hreset := s.resetTo_fullReset .unset ⟨true, false, false, false⟩
    have hexec : exec .powerOn s = .next (s.fullReset .unset ⟨true, false, false, false⟩) := rfl
    generalize s.fullReset .unset ⟨true, false, false, false⟩ = t at *
    obtain ⟨hfaults, hplayback, hcalendar, hcues, hmgmt, hlive, hbands, hzone, hingress, hsource, hlanes, hoff, hon⟩ :=
      hreset.restored img (.inl himg) hi
    rw [hreset.stale rfl] at hcalendar
    have himage : t.image = ⟨.image img, .saved, ⟨true, false, false, false⟩⟩ := by
      rw [hreset.image, ImageStore.restored, himg]
      rfl
    refine ⟨t, hexec, hreset.time, hfaults, hplayback, hcalendar, hcues, hmgmt, hlive, hzone, hsource, hbands,
      by rw [hingress], by rw [hingress]; rfl, by rw [hlanes], by rw [hlanes]; rfl, by rw [hlanes], by rw [hlanes], himage,
      fun hr => ⟨(hoff hr).1, ?_, (hoff hr).2⟩, fun hr => ⟨?_, hon hr⟩⟩
    · rw [hlanes, hr]
      rfl
    · rw [hlanes, hr]
      rfl

end Sys2Proof.Machine
end

section
/-! SUPPORT. BLOCK_RESET of the ingress processor and of the playback engine (03, 04, 05, 07). -/

namespace Sys2Proof.Machine

/-! ## INGRESS -/

theorem State.LayersFall.congr_lost {s t : State} {lost lost' : Nat → Prop} (h : s.LayersFall t lost)
    (hlost : ∀ i, lost' i ↔ lost i) : s.LayersFall t lost' := by
  obtain rfl : lost' = lost := funext fun i => propext (hlost i)
  exact h

/-- Losses look at the zones, the live store, the patch in use and the instant (R97). -/
theorem State.LayersFall.of_alike {s u t : State} {lost : Nat → Prop} (h : u.LayersFall t lost)
    (zones : u.mixer.zones = s.mixer.zones) (now : u.now = s.now)
    (value : ∀ z l d, u.layerValue z l d = s.layerValue z l d) : s.LayersFall t lost := by
  have hzone : ∀ z, u.zone z = s.zone z := fun z => by unfold State.zone; rw [zones]
  unfold State.LayersFall State.layer at *
  simp only [hzone, now, value] at h
  exact h

/-- One loss after another, at one instant, is the loss of both: a layer is bound to one source (R97). -/
theorem State.LayersFall.trans {s u t : State} {lost lost' : Nat → Prop} (h : s.LayersFall u lost)
    (h' : u.LayersFall t lost') (now : u.now = s.now) (value : ∀ z l d, u.layerValue z l d = s.layerValue z l d) :
    s.LayersFall t fun i => lost i ∨ lost' i := by
  classical
  obtain ⟨hzone, hnone, hfall, hother⟩ := h
  obtain ⟨hzone', hnone', hfall', hother'⟩ := h'
  refine ⟨fun z => ?_, fun k z hl => hnone' k z (hnone k z hl), fun k z l i fallback fade hl hmode hlost => ?_,
    fun k z l hl hkept => ?_⟩
  · obtain ⟨ho, hh, hs⟩ := hzone z
    obtain ⟨ho', hh', hs'⟩ := hzone' z
    exact ⟨ho'.trans ho, hh'.trans hh, hs'.trans hs⟩
  · by_cases hi : lost i
    · exact hother' k z _ (hfall k z l i fallback fade hl hmode hi) nofun
    · have hkept : u.layer k z = some l := hother k z l hl fun j fallback' fade' hj => by
        obtain ⟨rfl, _⟩ := LayerMode.follow.inj (hmode.symm.trans hj)
        exact hi
      rw [hfall' k z l i fallback fade hkept hmode (hlost.resolve_left hi), now, value]
  · exact hother' k z l (hother k z l hl fun i fallback fade hmode hi => hkept i fallback fade hmode (.inl hi))
      fun i fallback fade hmode hi => hkept i fallback fade hmode (.inr hi)

theorem State.LayersFall.refl (s : State) : s.LayersFall s fun _ => False :=
  ⟨fun _ => ⟨rfl, rfl, rfl⟩, fun _ _ h => h, fun _ _ _ _ _ _ _ _ h => h.elim, fun _ _ _ h _ => h⟩

/-- What the idling of sources leaves of the blocks that it touches (R140). -/
structure State.SourcesIdled (s t : State) (is : List Nat) : Prop where
  ingress : t.ingress = { s.ingress with sources := t.ingress.sources }
  source : ∀ j, t.source j = if j ∈ is then { s.source j with state := .idle, timer := none, sequences := [] } else s.source j
  live : t.mixer.live = s.mixer.live
  bands : t.mixer.bands = s.mixer.bands
  time : t.time = s.time
  layers : s.ZonesOwned → t.ZonesOwned ∧ s.LayersFall t fun i => i ∈ is ∧ (s.source i).state = .live

theorem State.SourcesIdled.layerValue {s t : State} {is : List Nat} (h : s.SourcesIdled t is) (z : Nat) (l : Layer)
    (d : Int) : t.layerValue z l d = s.layerValue z l d := by
  have hlook : ∀ i, t.liveLook i z = s.liveLook i z := by
    intro i
    have hbank : ∀ b, t.inputBank b = s.inputBank b := fun b => by cases b <;> (unfold State.inputBank; rw [h.ingress])
    unfold State.liveLook State.mapped State.stored
    rw [h.live, hbank, show t.ingress.inUse = s.ingress.inUse by rw [h.ingress]]
  unfold State.layerValue State.layerTarget
  simp only [hlook]

/-- An idled source is lost when it was LIVE (R140). -/
theorem State.sourcesIdled_idleSource (s : State) (i : Nat) : s.SourcesIdled (s.idleSource i) [i] := by
  have hsource : ∀ j x, (s.setSource i x).source j = if j ∈ [i] then x else s.source j := fun j x => by
    rw [State.source_setSource]
    simp only [List.mem_singleton]
  have hidle : ∀ j, (s.setSource i { s.source i with state := .idle, timer := none, sequences := [] }).source j =
      if j ∈ [i] then { s.source j with state := .idle, timer := none, sequences := [] } else s.source j := fun j => by
    rw [hsource]
    split
    · next h => rw [List.mem_singleton.1 h]
    · rfl
  unfold State.idleSource State.lossIfLive
  split
  · next hlive =>
    refine ⟨rfl, hidle, rfl, rfl, rfl, fun howned => ⟨State.ZonesOwned.mapLayers (s := s.setSource i _) howned
      (State.lossLayer_rank _ _ _), ?_⟩⟩
    refine State.LayersFall.congr_lost (lost := fun j => j = i) ?_ fun j => ?_
    · exact State.LayersFall.of_alike (State.sourceLoss_layersFall (s := s.setSource i _) howned i) rfl rfl
        fun _ _ _ => rfl
    · rw [List.mem_singleton]
      exact ⟨fun h => h.1, fun h => ⟨h, h ▸ hlive⟩⟩
  · next hlive =>
    refine ⟨rfl, hidle, rfl, rfl, rfl, fun howned => ⟨howned, ?_⟩⟩
    refine State.LayersFall.congr_lost (lost := fun _ => False)
      (State.LayersFall.of_alike (u := s.setSource i _) (.refl _) rfl rfl fun _ _ _ => rfl) fun j => ?_
    rw [List.mem_singleton]
    exact ⟨fun h => hlive (h.1 ▸ h.2), False.elim⟩

theorem State.sourcesIdled_foldl (is : List Nat) (s : State) : s.SourcesIdled (is.foldl State.idleSource s) is := by
  induction is generalizing s with
  | nil =>
    refine ⟨rfl, fun j => (if_neg List.not_mem_nil).symm, rfl, rfl, rfl, fun h => ⟨h, ?_⟩⟩
    exact State.LayersFall.congr_lost (.refl s) fun i => by simp
  | cons i is ih =>
    have hfirst := s.sourcesIdled_idleSource i
    have hrest := ih (s.idleSource i)
    rw [List.foldl_cons]
    generalize s.idleSource i = u at *
    generalize is.foldl State.idleSource u = t at *
    refine ⟨?_, fun j => ?_, hrest.live.trans hfirst.live, hrest.bands.trans hfirst.bands, hrest.time.trans hfirst.time,
      fun howned => ?_⟩
    · rw [hrest.ingress, hfirst.ingress]
    · rw [hrest.source, hfirst.source]
      by_cases hj : j = i <;> by_cases hjs : j ∈ is <;> simp [hj, hjs]
    · obtain ⟨howned', hfall⟩ := hfirst.layers howned
      obtain ⟨howned'', hfall'⟩ := hrest.layers howned'
      refine ⟨howned'', (hfall.trans hfall' (congrArg TimeUnit.runClock hfirst.time) hfirst.layerValue).congr_lost
        fun j => ?_⟩
      rw [hfirst.source j]
      by_cases hj : j = i <;> simp [hj]

/-- A waiting switch completes with an idle processor (R137). -/
theorem State.completeSwitch_of_free {s : State} (h : s.ingress.processing = none) :
    s.completeSwitch = s.withIngress s.ingress.released := by
  have hsame : s.withIngress { s.ingress with processing := none } = s := by rw [← h]; rfl
  rw [← State.idleIngress_eq, State.idleIngress, hsame]

/-- What BLOCK_RESET naming INGRESS leaves of the blocks that it touches (R102, R140). -/
structure State.IngressReset (s t : State) : Prop where
  ingress : t.ingress = { s.ingress.released with queue := [], sources := t.ingress.sources }
  source : ∀ i, i < 8 → t.source i = { s.source i with state := .idle, timer := none, sequences := [] }
  live : t.mixer.live = []
  bands : t.mixer.bands = s.mixer.bands
  layers : s.ZonesOwned → s.LayersFall t fun i => i < 8 ∧ (s.source i).state = .live

theorem State.ingressReset_blockResetIngress (s : State) : s.IngressReset s.blockResetIngress := by
  have hidled := State.sourcesIdled_foldl sourceNumbers (s.withIngress { s.ingress with queue := [], processing := none })
  have hmem : ∀ i, i ∈ sourceNumbers ↔ i < 8 := fun i => by
    rw [show sourceNumbers = List.range 8 from rfl, List.mem_range]
  unfold State.blockResetIngress
  dsimp only
  generalize sourceNumbers.foldl State.idleSource (s.withIngress { s.ingress with queue := [], processing := none }) = t
    at hidled ⊢
  have hingress := hidled.ingress
  have hdone : (t.withMixer { t.mixer with live := [] }).completeSwitch =
      (t.withMixer { t.mixer with live := [] }).withIngress
        { s.ingress.released with queue := [], sources := t.ingress.sources } := by
    rw [State.completeSwitch_of_free (by rw [State.withMixer_ingress, hingress]; rfl), State.withMixer_ingress]
    conv_lhs => rw [hingress]
    rfl
  rw [hdone]
  refine ⟨rfl, fun i hi => (hidled.source i).trans (if_pos ((hmem i).2 hi)), rfl, hidled.bands, fun howned => ?_⟩
  obtain ⟨_, hfall⟩ := hidled.layers howned
  refine State.LayersFall.congr (t := t) ?_ rfl
  exact State.LayersFall.of_alike (hfall.congr_lost fun i => by rw [hmem i]; rfl) rfl rfl fun _ _ _ => rfl

end Sys2Proof.Machine
end

section
/-! SUPPORT. BLOCK_RESET of the playback engine: every slot is released, one after another (03, 04, 05). -/

namespace Sys2Proof.Machine

theorem State.release_of_free {s : State} {k : Nat} (h : s.slot k = none) : s.release k = s := by
  rw [State.release, h]

/-! ## Zones -/

/-- Zone y of v is zone y of s with some of its layers dropped now: it has its owner and its value still, or hands over
from its value (R92). -/
structure State.HandedOver (s v : State) (y : Nat) : Prop where
  owned : (v.zone y).Owned
  house : (v.zone y).house = (s.zone y).house
  unowned : (s.zone y).owner = none → (v.zone y).owner = none ∧ (v.zone y).handover = (s.zone y).handover
  handing : (s.zone y).owner ≠ none →
    ((v.zone y).owner = (s.zone y).owner ∧ v.zoneValue y s.now = s.zoneValue y s.now) ∨
      (v.zone y).handover = s.handoverAt y s.now

theorem State.HandedOver.refl {s : State} {y : Nat} (h : (s.zone y).Owned) : s.HandedOver s y :=
  ⟨h, rfl, fun h => ⟨h, rfl⟩, fun _ => .inl ⟨rfl, rfl⟩⟩

/-- A handover that was made now shows the value that it was made from (R89, R92). -/
theorem State.handoverAt_again {s v : State} {y : Nat} (settings : v.settings = s.settings)
    (h : (v.zone y).handover = s.handoverAt y s.now) : v.handoverAt y s.now = s.handoverAt y s.now := by
  unfold State.handoverAt at *
  rw [settings]
  by_cases ht : s.settings.handoverTime = 0
  · rw [if_pos ht, if_pos ht]
  · rw [if_neg ht] at h ⊢
    rw [if_neg ht]
    have hvalue : v.zoneValue y s.now = s.zoneValue y s.now := by
      conv_lhs => unfold State.zoneValue
      rw [h]
      dsimp only
      rw [elapsed_self, blendLook_start _ ht]
    rw [hvalue]

/-- The release of one more slot (R75, R92, R96). -/
theorem State.HandedOver.release {s v : State} {y : Nat} (h : s.HandedOver v y) (hy : y < 240) (now : v.now = s.now)
    (settings : v.settings = s.settings) (k : Nat) : s.HandedOver (v.release k) y := by
  cases hs : v.slot k with
  | none => rwa [State.release_of_free hs]
  | some p =>
    obtain ⟨howned, hother, hown⟩ := State.handover_release hs hy h.owned
    rw [now] at hown
    have hhouse := State.house_release hs y
    refine ⟨howned, hhouse.trans h.house, fun hnone => ?_, fun hsome => ?_⟩
    · obtain ⟨ho, hh⟩ := h.unowned hnone
      obtain ⟨ho', hh'⟩ := hother (by rw [ho]; exact nofun)
      exact ⟨ho'.trans ho, hh'.trans hh⟩
    · by_cases hk : (v.zone y).owner = some k
      · refine .inr ((hown hk).2.trans ?_)
        obtain ⟨_, hvalue⟩ | hh := h.handing hsome
        · unfold State.handoverAt
          rw [settings, hvalue]
        · exact State.handoverAt_again settings hh
      · obtain ⟨ho', hh'⟩ := hother hk
        refine (h.handing hsome).imp (fun ⟨ho, hvalue⟩ => ⟨ho'.trans ho, Eq.trans ?_ hvalue⟩) fun hh => hh'.trans hh
        obtain ⟨zones, hmixer⟩ := State.mixer_release hs
        refine State.zoneValue_congr ho' hhouse hh' (fun j hj => ?_) (by rw [hmixer]) (by simp) (fun j hj x => ?_) s.now
        · exact (State.layer_release hs j y).trans (if_neg fun ⟨_, he⟩ => hk (he ▸ hj))
        · unfold State.masterOf
          rw [State.slot_release v (show j ≠ k from fun he => hk (he ▸ hj))]

/-! ## Slots, shows and the rest timer -/

/-- What the release of the slots of a list leaves of the blocks that it touches (R75, R81). -/
structure State.SlotsFreed (s t : State) (ks : List Nat) : Prop where
  slot : ∀ j, t.slot j = if j ∈ ks then none else s.slot j
  dropped : t.playback.duplicateStarts = s.playback.duplicateStarts ∧ t.playback.expiredStarts = s.playback.expiredStarts
  cues : t.cueStore.cues = s.cueStore.cues
  shows : ∀ x, t.showRecord x = { s.showRecord x with playing := (s.showRecord x).playing - ks.countP (s.plays x) }
  live : t.mixer.live = s.mixer.live
  bands : t.mixer.bands = s.mixer.bands
  time : t.time = s.time
  settings : t.mgmt.settings = s.mgmt.settings
  timer : (∃ k ∈ ks, s.slot k ≠ none) → (∀ j, j < 4 → t.slot j = none) →
    t.calendar = { s.calendar with restTimer := some (s.now + 1000 * s.settings.restDelay) }
  calendar : (∀ k ∈ ks, s.slot k = none) ∨ (∃ j, j < 4 ∧ t.slot j ≠ none) → t.calendar = s.calendar
  zone : ∀ y, y < 240 → (s.zone y).Owned → s.HandedOver t y
  layers : s.LayersHaveSlots → t.LayersHaveSlots

theorem State.SlotsFreed.nil (s : State) : s.SlotsFreed s [] where
  slot _ := (if_neg List.not_mem_nil).symm
  dropped := ⟨rfl, rfl⟩
  cues := rfl
  shows _ := rfl
  live := rfl
  bands := rfl
  time := rfl
  settings := rfl
  timer := fun ⟨_, hk, _⟩ _ => absurd hk List.not_mem_nil
  calendar _ := rfl
  zone _ _ howned := .refl howned
  layers h := h

/-- One more slot is released; the rest timer starts with the last (R39, R75). -/
theorem State.SlotsFreed.release {s v : State} {ks : List Nat} (h : s.SlotsFreed v ks) {k : Nat} (hk : k ∉ ks)
    (hlt : k < 4) : s.SlotsFreed (v.release k) (ks ++ [k]) := by
  have hslot : ∀ j, (v.release k).slot j = if j ∈ ks ++ [k] then none else s.slot j := fun j => by
    by_cases hj : j = k
    · rw [hj, State.slot_release_self, if_pos (by simp)]
    · rw [State.slot_release v hj, h.slot]
      exact if_congr (by simp [hj]) rfl rfl
  have hvk : v.slot k = s.slot k := (h.slot k).trans (if_neg hk)
  have hnow : v.now = s.now := congrArg TimeUnit.runClock h.time
  have hzone : ∀ y, y < 240 → (s.zone y).Owned → s.HandedOver (v.release k) y := fun y hy howned =>
    (h.zone y hy howned).release hy hnow h.settings k
  have hlayers : s.LayersHaveSlots → (v.release k).LayersHaveSlots := fun hl => (h.layers hl).release k
  cases hs : v.slot k with
  | none =>
    have hfree : s.slot k = none := hvk.symm.trans hs
    rw [State.release_of_free hs] at hslot hzone hlayers ⊢
    refine ⟨hslot, h.dropped, h.cues, fun x => (h.shows x).trans ?_, h.live, h.bands, h.time, h.settings, ?_, ?_, hzone,
      hlayers⟩
    · rw [List.countP_append, List.countP_singleton, State.plays, hfree]
      rfl
    · rintro ⟨j, hj, hused⟩
      refine h.timer ⟨j, (List.mem_append.1 hj).resolve_right fun he => hused ?_, hused⟩
      rw [List.mem_singleton.1 he, hfree]
    · exact fun hcal => h.calendar (hcal.imp_left fun hall j hj => hall j (List.mem_append_left _ hj))
  | some p =>
    have hused : v.slot k ≠ none := by rw [hs]; exact Option.some_ne_none p
    have hcalendar : v.calendar = s.calendar := h.calendar (.inr ⟨k, hlt, hused⟩)
    obtain ⟨hlast, hothers⟩ := State.calendar_release hs
    obtain ⟨zones, hmixer⟩ := State.mixer_release hs
    have hdropped : (v.release k).playback.duplicateStarts = v.playback.duplicateStarts ∧
        (v.release k).playback.expiredStarts = v.playback.expiredStarts ∧
        (v.release k).cueStore.cues = v.cueStore.cues := by
      rw [State.release_eq hs]
      simp [State.slotFreed, State.setSlot, State.setShow]
    obtain ⟨hduplicate, hexpired, hcues⟩ := hdropped
    refine ⟨hslot, ⟨hduplicate.trans h.dropped.1, hexpired.trans h.dropped.2⟩, hcues.trans h.cues, fun x => ?_,
      by rw [hmixer]; exact h.live, by rw [hmixer]; exact h.bands, by rw [← h.time]; simp, by rw [← h.settings]; simp,
      fun _ hall => ?_, fun hcal => ?_, hzone, hlayers⟩
    · rw [State.showRecord_release hs, h.shows, List.countP_append, List.countP_singleton, State.plays, ← hvk, hs,
        Option.any_some]
      by_cases hx : x = p.showNo
      · rw [if_pos hx, if_pos (decide_eq_true hx.symm), Nat.sub_sub]
      · rw [if_neg hx, if_neg (by simpa using Ne.symm hx), Nat.add_zero]
    · rw [hlast fun j hj hne => (State.slot_release v hne).symm.trans (hall j hj), hcalendar, hnow,
        show v.settings = s.settings from h.settings]
    · obtain hnone | ⟨j, hj, hne⟩ := hcal
      · exact absurd (hvk.trans (hnone k (by simp))) hused
      · have hjk : j ≠ k := fun he => hne (by rw [he, State.slot_release_self])
        rw [hothers ⟨j, hj, hjk, by rwa [State.slot_release v hjk] at hne⟩, hcalendar]

theorem State.slotsFreed_foldl (s : State) {ks : List Nat} (hks : ks.Nodup) (hlt : ∀ k ∈ ks, k < 4) :
    s.SlotsFreed (ks.foldl State.release s) ks := by
  induction ks using List.reverseRecOn with
  | nil => exact .nil s
  | append_singleton ks k ih =>
    rw [List.foldl_append]
    obtain ⟨hnodup, _, hdisjoint⟩ := List.nodup_append.1 hks
    exact (ih hnodup fun j hj => hlt j (List.mem_append_left _ hj)).release
      (fun hk => hdisjoint k hk k (List.mem_singleton_self k) rfl) (hlt k (by simp))

/-- What BLOCK_RESET naming PLAYBACK leaves (R81, R102). -/
theorem State.slotsFreed_blockResetPlayback (s : State) : s.SlotsFreed s.blockResetPlayback slotNumbers :=
  s.slotsFreed_foldl (by rw [slotNumbers_eq_range]; exact List.nodup_range) fun _ => mem_slotNumbers.1

/-- Every zone has lost its layers, and an owned one has handed over from its value (R92). -/
def State.ZonesFreed (s t : State) : Prop := ∀ z, z < 240 →
  (∀ k, k < 4 → t.layer k z = none) ∧ (t.zone z).owner = none ∧ (t.zone z).house = (s.zone z).house ∧
    ((s.zone z).owner = none → (t.zone z).handover = (s.zone z).handover) ∧
    ((s.zone z).owner ≠ none → (t.zone z).handover = s.handoverAt z s.now)

theorem State.zonesFreed_blockResetPlayback {s : State} (h : s.LayersHaveSlots) : s.ZonesFreed s.blockResetPlayback := by
  intro z hz
  have hfreed := s.slotsFreed_blockResetPlayback
  generalize s.blockResetPlayback = t at *
  have hgone : ∀ k, k < 4 → t.layer k z = none := fun k hk => by
    by_contra hne
    have hslot := (hfreed.layers h).2 z k hz (Option.isSome_iff_ne_none.2 hne)
    rw [hfreed.slot, if_pos (mem_slotNumbers.2 hk)] at hslot
    cases hslot
  have hhanded := hfreed.zone z hz (h.1.zone z)
  have howner : (t.zone z).owner = none := by
    obtain ⟨_, howner⟩ := hhanded.owned
    exact howner.trans ((strongest_eq_none_iff _).2 hgone)
  refine ⟨hgone, howner, hhanded.house, fun hnone => (hhanded.unowned hnone).2, fun hsome => ?_⟩
  exact (hhanded.handing hsome).resolve_left fun ⟨ho, _⟩ => hsome (ho.symm.trans howner)

/-- Layers that fall stay, and what falls is no layer that is gone (R97). -/
theorem State.ZonesFreed.layersFall {s c d : State} {lost : Nat → Prop} (h : s.ZonesFreed c) (hfall : c.LayersFall d lost) :
    s.ZonesFreed d := by
  intro z hz
  obtain ⟨hgone, howner, hhouse, hkept, hmade⟩ := h z hz
  obtain ⟨hzone, hnone, _⟩ := hfall
  obtain ⟨ho, hh, hs⟩ := hzone z
  rw [ho, hh, hs]
  exact ⟨fun k hk => hnone k z (hgone k hk), howner, hhouse, hkept, hmade⟩

end Sys2Proof.Machine
end

section
/-! SUPPORT. BLOCK_RESET: the lanes, and the members one after another (08, 09). -/

namespace Sys2Proof.Machine

/-! ## LANES -/

/-- The lane goes to REST at a BLOCK_RESET naming LANES (R165). -/
def Lane.litOrFaulted (r : Lane) : Bool := r.active || decide (r.state = .faulted)

theorem Lane.litOrFaulted_iff (r : Lane) : r.litOrFaulted = true ↔ r.state ≠ .off ∧ r.state ≠ .rest := by
  unfold Lane.litOrFaulted Lane.active
  cases r.state <;> simp

/-- The lanes once those that are active or FAULTED are dark and nothing waits (R165). -/
theorem State.resetLanes_effect (s : State) {t : State}
    (ht : ((laneNumbers.foldl State.resetLane s).withLanes
      { (laneNumbers.foldl State.resetLane s).lanes with waiting := [] }).settleLanes = t) :
    t.lanes.registers = s.lanes.registers ∧ t.lanes.waiting = [] ∧ t.time = s.time ∧ t.mgmt = s.mgmt ∧
      ∀ l, l < 24 → t.lane l =
        if (s.lane l).state = .off ∨ (s.lane l).state = .rest then s.lane l else s.darkened (s.lane l) .rest := by
  have heach := foldl_lane_ite (test := fun s l => (s.lane l).litOrFaulted) (f := fun s l => s.toDark l .rest)
    (fun s u l h => by rw [h.lane]) (fun s l j hj => s.alikeLane_toDark .rest hj) (fun s u l h => h.toDark .rest)
    laneNumbers_nodup s
  have hfold : laneNumbers.foldl State.resetLane s =
      laneNumbers.foldl (fun s l => if (s.lane l).litOrFaulted then s.toDark l .rest else s) s := rfl
  rw [hfold] at ht
  obtain ⟨_, hrest⟩ := heach 24
  have halike := hrest fun h => absurd (mem_laneNumbers.1 h.1) (by decide)
  generalize laneNumbers.foldl (fun s l => if (s.lane l).litOrFaulted then s.toDark l .rest else s) s = u at *
  have hsettled : ∀ v : State, v.settleLanes.lanes.waiting = v.lanes.waiting := fun v => by
    classical
    rw [State.settleLanes_statuses]
    rfl
  subst ht
  refine ⟨(State.settleLanes_registers _).trans halike.registers, (hsettled _).trans rfl, ?_, ?_, fun l hl => ?_⟩
  · rw [← halike.time]; simp
  · rw [← halike.mgmt]; simp
  · obtain ⟨hdark, hkept⟩ := heach l
    rw [State.lane_settleLanes]
    change u.lane l = _
    by_cases hlit : (s.lane l).litOrFaulted = true
    · rw [(hdark ⟨mem_laneNumbers.2 hl, hlit⟩).1, (s.toDark_lane l .rest l).1, if_pos rfl, if_neg]
      rw [not_or]
      exact (Lane.litOrFaulted_iff _).1 hlit
    · rw [(hkept fun h => hlit h.2).lane, if_pos]
      rw [Lane.litOrFaulted_iff] at hlit
      by_contra hne
      exact hlit (not_or.1 hne)

/-- What BLOCK_RESET naming LANES leaves: dark lanes, and with the requested guard state on those woken that an enabled
range names (R154, R165). -/
structure State.LanesReset (s t : State) : Prop where
  registers : t.lanes.registers = s.lanes.registers
  waiting : s.lanes.requestedGuard = false → t.lanes.waiting = []
  off : ∀ l, l < 24 → (s.lane l).state = .off → t.lane l = s.lane l ∧ t.waitingFrame l = none
  woken : ∀ l, l < 24 → (s.lane l).state ≠ .off → (s.lanes.requestedGuard && s.rangeNames l) = true →
    t.lane l = s.attempting (s.lane l) true ∧ t.waitingFrame l = some ⟨s.now, s.attemptFrame l (s.lane l)⟩
  dark : ∀ l, l < 24 → (s.lane l).state ≠ .off → (s.lanes.requestedGuard && s.rangeNames l) = false →
    t.lane l = (if (s.lane l).state = .rest then s.lane l else s.darkened (s.lane l) .rest) ∧ t.waitingFrame l = none

theorem State.lanesReset_blockResetLanes (s : State) : s.LanesReset s.blockResetLanes := by
  unfold State.blockResetLanes
  dsimp only
  generalize ht : ((laneNumbers.foldl State.resetLane s).withLanes
    { (laneNumbers.foldl State.resetLane s).lanes with waiting := [] }).settleLanes = t
  obtain ⟨hregisters, hwaiting, htime, hmgmt, hlane⟩ := s.resetLanes_effect ht
  have hrequested : t.lanes.requestedGuard = s.lanes.requestedGuard := congrArg (fun x => x.requestedGuard) hregisters
  have hframe : ∀ l, t.waitingFrame l = none := fun l => by rw [State.waitingFrame, hwaiting]; rfl
  have hoff : ∀ l, l < 24 → (s.lane l).state = .off → t.lane l = s.lane l := fun l hl h =>
    (hlane l hl).trans (if_pos (.inl h))
  have hdark : ∀ l, l < 24 → (s.lane l).state ≠ .off → t.lane l =
      if (s.lane l).state = .rest then s.lane l else s.darkened (s.lane l) .rest := fun l hl h => by
    rw [hlane l hl]
    exact if_congr (or_iff_right h) rfl rfl
  rw [hrequested]
  cases hr : s.lanes.requestedGuard with
  | false =>
    rw [if_neg Bool.false_ne_true]
    refine ⟨hregisters, fun _ => hwaiting, fun l hl h => ⟨hoff l hl h, hframe l⟩, fun l _ _ h => ?_,
      fun l hl h _ => ⟨hdark l hl h, hframe l⟩⟩
    rw [hr] at h
    cases h
  | true =>
    rw [if_pos rfl]
    have hregisters' : t.wakeGuarded.lanes.registers = s.lanes.registers :=
      (State.wakeIfResting_registers ..).trans hregisters
    have heach := t.wakeIfResting_lane (laneNumbers_nodup.filter t.rangeNames)
    have hnames := State.rangeNames_congr hregisters
    have hsettings : t.settings = s.settings := congrArg ManagementUnit.settings hmgmt
    have hnow : t.now = s.now := congrArg TimeUnit.runClock htime
    have hadopted := State.adopted_congr hregisters
    change ∀ l, (_ → t.wakeGuarded.lane l = _ ∧ t.wakeGuarded.waitingFrame l = _) ∧
      (_ → t.AlikeLane t.wakeGuarded l) at heach
    generalize t.wakeGuarded = w at *
    refine ⟨hregisters', fun h => absurd (hr.symm.trans h) nofun, fun l hl h => ?_, fun l hl h hn => ?_,
      fun l hl h hn => ?_⟩
    all_goals
      obtain ⟨hwoken, hkept⟩ := heach l
      specialize hnames l
    · have halike := hkept fun ⟨_, hrest⟩ => by
        rw [hoff l hl h, h] at hrest
        cases hrest
      exact ⟨halike.lane.trans (hoff l hl h), halike.waiting.trans (hframe l)⟩
    · rw [hr] at hn
      have hrest : (t.lane l).state = .rest := by
        rw [hdark l hl h]
        split
        · next hs => exact hs
        · rfl
      obtain ⟨hl', hf'⟩ := hwoken ⟨List.mem_filter.2 ⟨mem_laneNumbers.2 hl, hnames.trans hn⟩, hrest⟩
      refine ⟨hl'.trans ?_, hf'.trans ?_⟩
      · rw [State.attempting, State.attempting, hadopted, hsettings, hdark l hl h]
        split <;> rfl
      · rw [State.placedAge, State.attemptFrame, State.attemptFrame, hframe l, hsettings, hnow, hdark l hl h]
        split <;> rfl
    · rw [hr] at hn
      have halike := hkept fun ⟨hmem, _⟩ => by
        have hnamed := (List.mem_filter.1 hmem).2
        rw [hnames, show s.rangeNames l = false from hn] at hnamed
        cases hnamed
      exact ⟨halike.lane.trans (hdark l hl h), halike.waiting.trans (hframe l)⟩

/-- The reset of the lanes looks at the lanes, the settings and the instant. -/
theorem State.LanesReset.congr {s s' t t' : State} (h : s'.LanesReset t') (lanes : s'.lanes = s.lanes)
    (settings : s'.settings = s.settings) (now : s'.now = s.now) (after : t.lanes = t'.lanes) : s.LanesReset t := by
  obtain ⟨hregisters, hwaiting, hoff, hwoken, hdark⟩ := h
  have hlane : ∀ l, s'.lane l = s.lane l := fun l => by unfold State.lane; rw [lanes]
  have hnames : ∀ l, s'.rangeNames l = s.rangeNames l := State.rangeNames_congr (by rw [lanes])
  have hadopted : ∀ r, s'.adopted r = s.adopted r := State.adopted_congr (by rw [lanes])
  have hlane' : ∀ l, t.lane l = t'.lane l := fun l => by unfold State.lane; rw [after]
  have hframe' : ∀ l, t.waitingFrame l = t'.waitingFrame l := fun l => by unfold State.waitingFrame; rw [after]
  simp only [State.attempting, State.attemptFrame, State.darkened, hlane, hnames, hadopted, lanes, settings, now,
    ← hlane', ← hframe', ← after] at hregisters hwaiting hoff hwoken hdark
  exact ⟨hregisters, hwaiting, hoff, hwoken, hdark⟩

/-- Without guarding every lane that is not OFF is left in REST (R165). -/
theorem State.LanesReset.state {s t : State} (h : s.LanesReset t) (hguard : s.lanes.requestedGuard = false) {l : Nat}
    (hl : l < 24) : (t.lane l).state = if (s.lane l).state = .off then .off else .rest := by
  split
  · next hs => rw [(h.off l hl hs).1, hs]
  · next hs =>
    rw [(h.dark l hl hs (by rw [hguard, Bool.false_and])).1]
    split
    · next hrest => exact hrest
    · rfl

/-! ## The members one after another -/

/-- What TIME and CALENDAR leave, as far as the set names them: tower time, and the agenda (R17, R37, R42). -/
theorem State.resetClockAndAgenda (s : State) (m : Nat) :
    ∃ T C, (s.resetMember m 0 State.blockResetTime).resetMember m 1 State.blockResetCalendar =
        (s.withTime T).withCalendar C ∧ T.runClock = s.time.runClock ∧
      T = (if m.testBit 0 then
        { s.time with
          clock := .unset, remainder := 0, lastAccepted := none, lastTick := none, earlyRun := 0, lossTimer := none }
        else s.time) ∧
      C.entries = s.calendar.entries ∧ C.lastActual = s.calendar.lastActual ∧ C.restTimer = s.calendar.restTimer ∧
      (m.testBit 1 = true → C.agenda = [] ∧ C.state = .stale ∧ C.truncated = false ∧ C.wakeTimer = none) ∧
      (m.testBit 0 = true → s.time.clock ≠ .unset → C.agenda = [] ∧ C.state = .stale ∧ C.wakeTimer = none) ∧
      (m.testBit 1 = false → C.truncated = s.calendar.truncated) ∧
      (m.testBit 1 = false → (m.testBit 0 = false ∨ s.time.clock = .unset) → C.agenda = s.calendar.agenda ∧
        C.state = s.calendar.state ∧ C.wakeTimer = s.calendar.wakeTimer) := by
  have hsome : s.time.clock ≠ .unset → s.towerTime.isSome = true := by
    unfold State.towerTime
    cases s.time.clock <;> simp [TowerClock.time]
  have hnone : s.time.clock = .unset → ¬ s.towerTime.isSome = true := fun h => by
    rw [State.towerTime, h]
    exact Bool.false_ne_true
  unfold State.resetMember
  cases m.testBit 0 <;> cases m.testBit 1
  · exact ⟨s.time, s.calendar, rfl, rfl, rfl, rfl, rfl, rfl, nofun, nofun, fun _ => rfl, fun _ _ => ⟨rfl, rfl, rfl⟩⟩
  · exact ⟨s.time, { s.calendar with agenda := [], state := .stale, truncated := false, wakeTimer := none }, rfl, rfl, rfl,
      rfl, rfl, rfl, fun _ => ⟨rfl, rfl, rfl, rfl⟩, nofun, nofun, nofun⟩
  all_goals
    unfold State.blockResetTime
    dsimp only
    by_cases hclock : s.time.clock = .unset
  · rw [if_neg (hnone hclock)]
    exact ⟨_, s.calendar, rfl, rfl, rfl, rfl, rfl, rfl, nofun, fun _ h => absurd hclock h, fun _ => rfl,
      fun _ _ => ⟨rfl, rfl, rfl⟩⟩
  · rw [if_pos (hsome hclock)]
    exact ⟨_, { s.calendar with agenda := [], state := .stale, wakeTimer := none }, rfl, rfl, rfl, rfl, rfl, rfl, nofun,
      fun _ _ => ⟨rfl, rfl, rfl⟩, fun _ => rfl, fun _ h => absurd (h.resolve_left nofun) hclock⟩
  · rw [if_neg (hnone hclock)]
    exact ⟨_, { s.calendar with agenda := [], state := .stale, truncated := false, wakeTimer := none }, rfl, rfl, rfl, rfl,
      rfl, rfl, fun _ => ⟨rfl, rfl, rfl, rfl⟩, fun _ h => absurd hclock h, nofun, nofun⟩
  · rw [if_pos (hsome hclock)]
    exact ⟨_, { s.calendar with agenda := [], state := .stale, truncated := false, wakeTimer := none }, rfl, rfl, rfl, rfl,
      rfl, rfl, fun _ => ⟨rfl, rfl, rfl, rfl⟩, fun _ _ => ⟨rfl, rfl, rfl⟩, nofun, nofun⟩

theorem State.resetMember_of_set (s : State) {m i : Nat} (h : m.testBit i = true) (f : State → State) :
    s.resetMember m i f = f s := if_pos h

theorem State.resetMember_of_clear (s : State) {m i : Nat} (h : m.testBit i = false) (f : State → State) :
    s.resetMember m i f = s := if_neg (by rw [h]; exact Bool.false_ne_true)

/-- PLAYBACK, as far as the set names it (R81, R102). -/
theorem State.resetMember_playback (s : State) (m : Nat) :
    ∃ c, s.resetMember m 2 State.blockResetPlayback = c ∧
      (c.time = s.time ∧ c.ingress = s.ingress ∧ c.lanes = s.lanes ∧ c.mgmt = s.mgmt ∧ c.faults = s.faults ∧
        c.image = s.image) ∧
      (m.testBit 2 = true → s.SlotsFreed c slotNumbers ∧ (s.LayersHaveSlots → s.ZonesFreed c)) ∧
      (m.testBit 2 = false → c = s) := by
  cases hm : m.testBit 2 with
  | false =>
    rw [State.resetMember_of_clear s hm]
    exact ⟨s, rfl, ⟨rfl, rfl, rfl, rfl, rfl, rfl⟩, nofun, fun _ => rfl⟩
  | true =>
    rw [State.resetMember_of_set s hm]
    exact ⟨_, rfl, by simp, fun _ => ⟨s.slotsFreed_blockResetPlayback, State.zonesFreed_blockResetPlayback⟩,
      nofun⟩

/-- INGRESS, as far as the set names it (R102, R140). -/
theorem State.resetMember_ingress (s : State) (m : Nat) :
    ∃ d, s.resetMember m 3 State.blockResetIngress = d ∧
      (d.time = s.time ∧ d.calendar = s.calendar ∧ d.cueStore = s.cueStore ∧ d.playback = s.playback ∧
        d.lanes = s.lanes ∧ d.mgmt = s.mgmt ∧ d.faults = s.faults ∧ d.image = s.image) ∧
      (m.testBit 3 = true → s.IngressReset d) ∧
      (m.testBit 3 = false → d = s) := by
  cases hm : m.testBit 3 with
  | false =>
    rw [State.resetMember_of_clear s hm]
    exact ⟨s, rfl, ⟨rfl, rfl, rfl, rfl, rfl, rfl, rfl, rfl⟩, nofun, fun _ => rfl⟩
  | true =>
    rw [State.resetMember_of_set s hm]
    exact ⟨_, rfl, by simp, fun _ => s.ingressReset_blockResetIngress, nofun⟩

/-- LANES, as far as the set names it (R165). -/
theorem State.resetMember_lanes (s : State) (m : Nat) :
    ∃ e, s.resetMember m 4 State.blockResetLanes = e ∧
      (e.time = s.time ∧ e.calendar = s.calendar ∧ e.cueStore = s.cueStore ∧ e.playback = s.playback ∧
        e.mixer = s.mixer ∧ e.ingress = s.ingress ∧ e.mgmt = s.mgmt ∧ e.faults = s.faults ∧ e.image = s.image) ∧
      (m.testBit 4 = true → s.LanesReset e) ∧
      (m.testBit 4 = false → e = s) := by
  cases hm : m.testBit 4 with
  | false =>
    rw [State.resetMember_of_clear s hm]
    exact ⟨s, rfl, ⟨rfl, rfl, rfl, rfl, rfl, rfl, rfl, rfl, rfl⟩, nofun, fun _ => rfl⟩
  | true =>
    rw [State.resetMember_of_set s hm]
    exact ⟨_, rfl, by simp, fun _ => s.lanesReset_blockResetLanes, nofun⟩

/-- FAULTS, as far as the set names it (R191). -/
theorem State.resetMember_faults (s : State) (m : Nat) : s.resetMember m 5 State.resetFaults =
    s.withFaults (if m.testBit 5 then .initial else s.faults) := by
  unfold State.resetMember
  cases m.testBit 5 <;> rfl

end Sys2Proof.Machine
end

section
/-! SUPPORT. BLOCK_RESET as a whole (09). -/

namespace Sys2Proof.Machine

/-- The rest timer starts when some slot was not FREE (R39, R75). -/
theorem State.SlotsFreed.calendar_eq {s t : State} (h : s.SlotsFreed t slotNumbers) : t.calendar =
    { s.calendar with
      restTimer := if s.allFree then s.calendar.restTimer else some (s.now + 1000 * s.settings.restDelay) } := by
  by_cases hfree : s.allFree = true
  · rw [if_pos hfree]
    exact h.calendar (.inl fun k hk => (State.allFree_iff s).1 hfree k (mem_slotNumbers.1 hk))
  · rw [if_neg hfree]
    refine h.timer ?_ fun j hj => (h.slot j).trans (if_pos (mem_slotNumbers.2 hj))
    rw [State.allFree_iff] at hfree
    push Not at hfree
    obtain ⟨k, hk, hused⟩ := hfree
    exact ⟨k, mem_slotNumbers.2 hk, hused⟩

/-- The state in which the members from PLAYBACK on are reset: tower time and the agenda apart, that of the take. -/
def State.afterClock (s : State) (T : TimeUnit) (C : CalendarEngine) : State := (s.atTake.withTime T).withCalendar C

/-- The stages of a BLOCK_RESET whose blocks the result w takes over: u after TIME and CALENDAR, c after PLAYBACK, d after
INGRESS. -/
structure State.Stages (s : State) (m : Nat) (u c d w : State) : Prop where
  time : w.time = u.time
  calendar : w.calendar = c.calendar
  cueStore : w.cueStore = c.cueStore
  playback : w.playback = c.playback
  mixer : w.mixer = d.mixer
  ingress : w.ingress = d.ingress
  freed : m.testBit 2 = true → u.SlotsFreed c slotNumbers ∧ (u.LayersHaveSlots → u.ZonesFreed c)
  unfreed : m.testBit 2 = false → c = u
  arrived : c.ingress = s.ingress
  emptied : m.testBit 3 = true → c.IngressReset d
  unemptied : m.testBit 3 = false → d = c
  lanes : m.testBit 4 = true → s.LanesReset w
  lanesKept : m.testBit 4 = false → w.lanes = s.lanes

/-- BLOCK_RESET carries out its members one after another (R179). -/
theorem State.next_blockReset {h : ReqHead} {m : Nat} {s : State} (ht : s.Takes (.blockReset h m) h) (hin : m ≤ 63)
    {T : TimeUnit} {C : CalendarEngine} (hclock : (s.atTake.resetMember m 0 State.blockResetTime).resetMember m 1
      State.blockResetCalendar = s.afterClock T C) (hnow : (s.afterClock T C).now = s.now) :
    ∃ c d w, exec (.blockReset h m) s = .next w ∧ w.mgmt = s.replied (.blockReset h m) h .ok (.resetMembers m) ∧
      w.faults = (if m.testBit 5 then .initial else s.faults) ∧ w.image = s.image ∧
      s.Stages m (s.afterClock T C) c d w := by
  obtain ⟨c, hc, ⟨hctime, hcingress, hclanes, hcmgmt, hcfaults, hcimage⟩, hfreed, hunfreed⟩ :=
    (s.afterClock T C).resetMember_playback m
  obtain ⟨d, hd, ⟨hdtime, hdcal, hdcues, hdplay, hdlanes, hdmgmt, hdfaults, hdimage⟩, hemptied, hunemptied⟩ :=
    c.resetMember_ingress m
  obtain ⟨e, he, ⟨hetime, hecal, hecues, heplay, hemixer, heingress, hemgmt, hefaults, heimage⟩, hdark, hlit⟩ :=
    d.resetMember_lanes m
  have hreset : s.atTake.blockReset m = e.withFaults (if m.testBit 5 then .initial else e.faults) := by
    unfold State.blockReset
    rw [hclock, hc, hd, he, State.resetMember_faults]
  have hmgmt : e.mgmt = s.atTake.mgmt := hemgmt.trans (hdmgmt.trans hcmgmt)
  have hanswer : blockResetAnswer m s.atTake = ⟨.ok, .resetMembers m,
      e.withFaults (if m.testBit 5 then .initial else e.faults), .nothing⟩ := by
    rw [← hreset]
    exact if_neg (Nat.not_lt.2 hin)
  have hlanes : d.lanes = s.lanes := hdlanes.trans hclanes
  have hsettings : d.settings = s.settings := (congrArg ManagementUnit.settings (hdmgmt.trans hcmgmt)).trans rfl
  have hinstant : d.now = s.now := (congrArg TimeUnit.runClock (hdtime.trans hctime)).trans hnow
  refine ⟨c, d, _, State.next_request_answer ht hanswer hmgmt rfl, rfl, ?_, heimage.trans (hdimage.trans hcimage),
    hetime.trans (hdtime.trans hctime), hecal.trans hdcal, hecues.trans hdcues, heplay.trans hdplay, hemixer, heingress,
    hfreed, hunfreed, hcingress, hemptied, hunemptied, fun hm => (hdark hm).congr hlanes hsettings hinstant rfl,
    fun hm => (congrArg State.lanes (hlit hm)).trans hlanes⟩
  exact congrArg (fun f => if m.testBit 5 then FaultTable.initial else f) (hefaults.trans (hdfaults.trans hcfaults))

section
variable {s c d w : State} {m : Nat} {T : TimeUnit} {C : CalendarEngine}

/-- Of the calendar PLAYBACK touches the rest timer only (R81). -/
theorem State.Stages.calendar_eq (h : s.Stages m (s.afterClock T C) c d w) :
    w.calendar = { C with restTimer := w.calendar.restTimer } := by
  rw [h.calendar]
  cases hm : m.testBit 2 with
  | false => rw [h.unfreed hm]; rfl
  | true => rw [(h.freed hm).1.calendar_eq]; rfl

/-- PLAYBACK keeps the live store, the bands, the counts of dropped starts and the cues (R81). -/
theorem State.Stages.kept (h : s.Stages m (s.afterClock T C) c d w) : c.mixer.live = s.mixer.live ∧
    c.mixer.bands = s.mixer.bands ∧ c.playback.duplicateStarts = s.playback.duplicateStarts ∧
    c.playback.expiredStarts = s.playback.expiredStarts ∧ c.cueStore.cues = s.cueStore.cues := by
  cases hm : m.testBit 2 with
  | false => rw [h.unfreed hm]; exact ⟨rfl, rfl, rfl, rfl, rfl⟩
  | true =>
    have hfreed := (h.freed hm).1
    exact ⟨hfreed.live, hfreed.bands, hfreed.dropped.1, hfreed.dropped.2, hfreed.cues⟩

/-- INGRESS keeps the banks and the counters (R140). -/
theorem State.Stages.banks (h : s.Stages m (s.afterClock T C) c d w) : w.ingress.bank0 = s.ingress.bank0 ∧
    w.ingress.bank1 = s.ingress.bank1 ∧ w.ingress.counters = s.ingress.counters := by
  rw [h.ingress]
  cases hm3 : m.testBit 3 with
  | false => rw [h.unemptied hm3, h.arrived]; exact ⟨rfl, rfl, rfl⟩
  | true => rw [(h.emptied hm3).ingress, h.arrived]; exact ⟨rfl, rfl, rfl⟩

theorem State.Stages.bands (h : s.Stages m (s.afterClock T C) c d w) : w.mixer.bands = s.mixer.bands := by
  obtain ⟨_, hbands, _⟩ := h.kept
  rw [h.mixer]
  cases hm3 : m.testBit 3 with
  | false => rw [h.unemptied hm3]; exact hbands
  | true => exact (h.emptied hm3).bands.trans hbands

/-- A zone that PLAYBACK has cleared stays as it is at INGRESS (R92, R102). -/
theorem State.Stages.zones (h : s.Stages m (s.afterClock T C) c d w) (hm : m.testBit 2 = true)
    (hlayers : s.LayersHaveSlots) : (s.afterClock T C).ZonesFreed w := by
  have hu : (s.afterClock T C).LayersHaveSlots := .congr hlayers rfl rfl
  obtain ⟨hfreed, hgone⟩ := h.freed hm
  have hzones : (s.afterClock T C).ZonesFreed d := by
    cases hm3 : m.testBit 3 with
    | false => rw [h.unemptied hm3]; exact hgone hu
    | true => exact (hgone hu).layersFall ((h.emptied hm3).layers (hfreed.layers hu).1)
  unfold State.ZonesFreed State.layer State.zone at *
  rw [h.mixer]
  exact hzones

/-- INGRESS alone: layers bound to LIVE sources fall as at a loss (R97, R140). -/
theorem State.Stages.layersFall (h : s.Stages m (s.afterClock T C) c d w) (hnow : (s.afterClock T C).now = s.now)
    (hm : m.testBit 2 = false) (hm3 : m.testBit 3 = true) (howned : s.ZonesOwned) :
    s.LayersFall w fun i => i < 8 ∧ (s.source i).state = .live := by
  obtain rfl := h.unfreed hm
  have hfall := (h.emptied hm3).layers (.congr howned rfl)
  exact (hfall.of_alike (s := s) rfl hnow fun _ _ _ => rfl).congr (congrArg ZoneMixer.zones h.mixer)

/-- What is left of the ingress processor (R140). -/
theorem State.Stages.ingressReset (h : s.Stages m (s.afterClock T C) c d w) (hm3 : m.testBit 3 = true) :
    w.ingress = { s.ingress.released with queue := [], sources := w.ingress.sources } ∧ w.mixer.live = [] ∧
      ∀ i, i < 8 → w.source i = { s.source i with state := .idle, timer := none, sequences := [] } := by
  have hreset := h.emptied hm3
  have hsource : ∀ i, w.source i = d.source i := fun i => by unfold State.source; rw [h.ingress]
  have hsource' : ∀ i, c.source i = s.source i := fun i => by unfold State.source; rw [h.arrived]
  rw [h.ingress, h.mixer, ← h.arrived]
  exact ⟨hreset.ingress, hreset.live, fun i hi => by rw [hsource, hreset.source i hi, hsource']⟩

end

/-- Settles O10: each member is reset in the state that those before it leave, and changes blocks of its own. -/
theorem blockResetResetsNamedBlocks : Obligations.BlockResetResetsNamedBlocks := by
  unfold Obligations.BlockResetResetsNamedBlocks
  refine ⟨fun h m s ht hout => ?_, fun h m s ht hin => ?_⟩
  · exact congrArg Host.Outcome.next (State.request_refuse (owner := blockResetAnswer m) ht (if_pos hout))
  obtain ⟨T, C, hclock, hnow, hT, hentries, hlast, hrest, hagenda, hlost, htruncated, hkept⟩ :=
    s.atTake.resetClockAndAgenda m
  change (s.afterClock T C).now = s.now at hnow
  obtain ⟨c, d, w, hexec, hmgmt, hfaults, himage, hw⟩ := State.next_blockReset ht hin hclock hnow
  obtain ⟨hlive, _, hduplicate, hexpired, hcues⟩ := hw.kept
  obtain ⟨hbank0, hbank1, hcounters⟩ := hw.banks
  refine ⟨w, hexec, hmgmt, himage, hw.time.trans hT, ?entries, ?lastActual, ?agendaReset, ?clockReset, ?truncated,
    ?agendaKept, ?slots, ?cues, ?freed, fun hm hm3 howned => hw.layersFall hnow hm hm3 howned, ?duplicate, ?expired,
    ?playKept, fun hm3 => (hw.ingressReset hm3).1, ?emptied, ?ingressKept, hbank0, hbank1, hcounters, hw.bands, ?mixerKept,
    fun hm hguard => ⟨(hw.lanes hm).waiting hguard, fun l hl => (hw.lanes hm).state hguard hl⟩, ?lanes, hw.lanesKept,
    hfaults⟩
  case entries => rw [hw.calendar_eq]; exact hentries
  case lastActual => rw [hw.calendar_eq]; exact hlast
  case agendaReset => rw [hw.calendar_eq]; exact hagenda
  case clockReset => rw [hw.calendar_eq]; exact hlost
  case truncated => rw [hw.calendar_eq]; exact htruncated
  case agendaKept => rw [hw.calendar_eq]; exact hkept
  case slots =>
    intro hm k hk
    have hslot := (hw.freed hm).1.slot k
    rw [if_pos (mem_slotNumbers.2 hk)] at hslot
    unfold State.slot at *
    rwa [hw.playback]
  case cues => rw [hw.cueStore]; exact hcues
  case freed =>
    intro hm
    obtain ⟨hfreed, _⟩ := hw.freed hm
    refine ⟨fun x => ?_, ?_, fun hlayers z hz => ?_⟩
    · have hshow := hfreed.shows x
      unfold State.showRecord at *
      rw [hw.cueStore]
      exact hshow
    · rw [hw.calendar, hfreed.calendar_eq, hnow]
      exact congrArg (fun r => if s.allFree then r else _) hrest
    · obtain ⟨hgone, howner, hhouse, hunowned, howned⟩ := hw.zones hm hlayers z hz
      refine ⟨hgone, howner, hhouse, hunowned, fun hsome => (howned hsome).trans ?_⟩
      rw [hnow]
      rfl
  case duplicate => rw [hw.playback]; exact hduplicate
  case expired => rw [hw.playback]; exact hexpired
  case playKept =>
    intro hm
    rw [hw.playback, hw.cueStore, hw.calendar, hw.unfreed hm]
    exact ⟨rfl, rfl, hrest⟩
  case emptied =>
    intro hm3
    obtain ⟨hingress, hempty, hsource⟩ := hw.ingressReset hm3
    exact ⟨by rw [hingress], by rw [hingress]; rfl, by rw [hingress]; rfl, hempty, hsource⟩
  case ingressKept =>
    intro hm3
    rw [hw.ingress, hw.mixer, hw.unemptied hm3]
    exact ⟨hw.arrived, hlive⟩
  case mixerKept =>
    intro hm hm3
    rw [hw.mixer, hw.unemptied hm3, hw.unfreed hm]
    rfl
  case lanes =>
    intro hm4
    obtain ⟨hregisters, _, hoff, hwoken, hdark⟩ := hw.lanes hm4
    generalize w.lanes = x at hregisters ⊢
    exact ⟨congrArg (fun x => x.guards) hregisters, congrArg (fun x => x.requestedGuard) hregisters,
      congrArg (fun x => x.selected) hregisters, congrArg (fun x => x.bank0) hregisters,
      congrArg (fun x => x.bank1) hregisters, congrArg (fun x => x.line) hregisters,
      fun l hl => ⟨hoff l hl, hwoken l hl, hdark l hl⟩⟩

end Sys2Proof.Machine
end
